-- ==== Sys2Proof/Word.lean ====
section
/-! DEFINITION. The word types of the WK620 model: what the links carry (bytes and little-endian words). Numbers the manual
computes with ("Computations are in integers", spec/00_scope.md 5.2) are `Int` and `Nat`, not words. -/

namespace Sys2Proof

/-- One byte on a station line or on the sensor line. -/
abbrev Byte := BitVec 8

/-- A two-byte field, little-endian on the line. -/
abbrev Half := BitVec 16

/-- A four-byte field, little-endian on the line. -/
abbrev Word := BitVec 32

end Sys2Proof
end

