-- ==== Sys2Proof/Syntax.lean ====
section
/-! DEFINITION. The commands of the WK620: one constructor of `Instr` per row of spec/opcode_table.json, and the names their
operands range over. A request carries the port it arrives on and its TAG; the payload fields that a station may fill wrongly
stay raw bytes, so that every refusal of the manual has an operand that reaches it. -/

namespace Sys2Proof

/-- A station port; its station kind is fixed by its number (section 10.1). -/
inductive Port where
  | oc | ls | rs | ru
deriving DecidableEq, Repr

/-- L or R, wherever the manual says "side". -/
inductive Side where
  | left | right
deriving DecidableEq, Repr

/-- The eight heated zones, in zone order (section 3.1). -/
inductive Zone where
  | ml | mr | el | er | bl | br | tl | tr
deriving DecidableEq, Repr

/-- The four feed channels, in channel order (section 7.1). -/
inductive FeedChannel where
  | convL | convR | augL | augR
deriving DecidableEq, Repr

/-- The place of a grade slot within its side: GL1 to GL4, GR1 to GR4. -/
inductive GradePlace where
  | g1 | g2 | g3 | g4
deriving DecidableEq, Repr

/-- The nine sensor slots (section 5.1). -/
inductive Slot where
  | grade (side : Side) (place : GradePlace)
  | slope
deriving DecidableEq, Repr

/-- The fourteen analog channels (section 11.1). -/
inductive AnalogChannel where
  | temp (z : Zone)
  | ext (side : Side)
  | level (c : FeedChannel)
deriving DecidableEq, Repr

/-- The eleven digital inputs (section 11.2). -/
inductive DigitalInput where
  | travelPulse | travelDir | estop
  | feedback (z : Zone)
deriving DecidableEq, Repr

/-- The twenty-three outputs (section 11.3). -/
inductive Output where
  | gradeUp (side : Side) | gradeDown (side : Side)
  | feed (c : FeedChannel)
  | widthIn (side : Side) | widthOut (side : Side)
  | contactor (z : Zone)
  | travelPermit | genLoad | alarm
deriving DecidableEq, Repr

/-- The three lengths of the screed that a station may write (R31). -/
inductive ScreedPart where
  | main
  | boltOn (side : Side)
deriving DecidableEq, Repr

/-- The two setpoint sets of a zone (section 3.2). -/
inductive SetpointSet where
  | pave | hold
deriving DecidableEq, Repr

/-- The two configuration fields of a sensor slot (R79). -/
inductive SlotParam where
  | address | weight
deriving DecidableEq, Repr

/-- The two setpoints of a levelling side (R99). -/
inductive SideSetpoint where
  | gradeOffset | slopeTarget
deriving DecidableEq, Repr

/-- The five scaling parameters of an analog channel (R176). -/
inductive ScalingParam where
  | rawLo | rawHi | engLo | engHi | tolerance
deriving DecidableEq, Repr

/-- The two configuration fields of a digital input (R178). -/
inductive InputParam where
  | mode | debounce
deriving DecidableEq, Repr

/-- The commands: one constructor per row of spec/opcode_table.json, in the table's order.
`port` is the station port a frame arrives on and `tag` its TAG byte. `value` is the SET_ITEM value (bytes 0 to 3, R184). -/
inductive Instr where
  /-- RESET: power-on or assertion of the reset input, up to the end of reset (R3). -/
  | reset
  /-- SETTINGS_LOAD_COMPLETE: the load ends; `readInFull` says whether the array was read in full (R5, R6, R180). -/
  | settingsLoadComplete (readInFull : Bool)
  /-- FRAME_ERROR: bytes on a station line, without a gap between them, taken by the receiver of R161. -/
  | frameError (port : Port) (bytes : List Byte)
  /-- FRAME_GAP_EXPIRY: more than 2 ms between two bytes of a station frame (R161). -/
  | frameGapExpiry (port : Port)
  /-- LINK_DOWN: the silence time reaches 500 ms (R162, R169). -/
  | linkDown (port : Port)
  /-- BUSY: a good frame, given raw, that meets a request in flight (R163 case 1). -/
  | busy (port : Port) (kind tag : Byte) (payload : List Byte)
  /-- UNKNOWN_REQUEST: a good frame, given raw, of an unknown kind or length (R163 cases 3 and 4). -/
  | unknownRequest (port : Port) (kind tag : Byte) (payload : List Byte)
  /-- REPLY_SENT: the reply on the port's transmitter has been sent in full (R163). -/
  | replySent (port : Port)
  /-- STATUS (R173). -/
  | status (port : Port) (tag : Byte)
  /-- READ_ITEM (R170). -/
  | readItem (port : Port) (tag group : Byte) (first : Half) (count : Byte)
  /-- SET_ITEM (R171). -/
  | setItem (port : Port) (tag group : Byte) (index : Half) (value : Word)
  /-- SET_READINESS_BAND: SET_ITEM of system item 4 (R8). -/
  | setReadinessBand (port : Port) (tag : Byte) (value : Word)
  /-- SET_PULSES_PER_METRE: SET_ITEM of travel item 6 (R22). -/
  | setPulsesPerMetre (port : Port) (tag : Byte) (value : Word)
  /-- SET_STANDBY_DELAY_CODE: SET_ITEM of travel item 8 (R27). -/
  | setStandbyDelayCode (port : Port) (tag : Byte) (value : Word)
  /-- SET_SCREED_LENGTH: SET_ITEM of geometry items 0 to 2 (R31). -/
  | setScreedLength (port : Port) (tag : Byte) (part : ScreedPart) (value : Word)
  /-- SET_ZONE_SETPOINT: SET_ITEM of zone fields 7 and 8 (R42). -/
  | setZoneSetpoint (port : Port) (tag : Byte) (zone : Zone) (set : SetpointSet) (value : Word)
  /-- SET_EXCLUDE_FLAG: SET_ITEM of zone field 9 (R58). -/
  | setExcludeFlag (port : Port) (tag : Byte) (zone : Zone) (value : Word)
  /-- SET_EXTENSION_THRESHOLD: SET_ITEM of zone item 131 (R44). -/
  | setExtensionThreshold (port : Port) (tag : Byte) (value : Word)
  /-- SET_GENERATOR_LIMIT: SET_ITEM of budget item 0 (R61). -/
  | setGeneratorLimit (port : Port) (tag : Byte) (value : Word)
  /-- SET_ELEMENT_RATING: SET_ITEM of zone field 10 (R62). -/
  | setElementRating (port : Port) (tag : Byte) (zone : Zone) (value : Word)
  /-- SET_SLOT_ADDRESS_WEIGHT: SET_ITEM of sensor slot fields 0 and 1 (R79). -/
  | setSlotAddressWeight (port : Port) (tag : Byte) (slot : Slot) (param : SlotParam) (value : Word)
  /-- SET_REFERENCE_KIND: SET_ITEM of side field 0 (R85). -/
  | setReferenceKind (port : Port) (tag : Byte) (side : Side) (value : Word)
  /-- SET_MIN_VALID_COUNT: SET_ITEM of side field 1 (R86). -/
  | setMinValidCount (port : Port) (tag : Byte) (side : Side) (value : Word)
  /-- SET_GRADE_OFFSET: SET_ITEM of side fields 7 and 8 (R99). -/
  | setGradeOffset (port : Port) (tag : Byte) (side : Side) (which : SideSetpoint) (value : Word)
  /-- SET_LEVEL_SETPOINT: SET_ITEM of feed channel field 3 (R115). -/
  | setLevelSetpoint (port : Port) (tag : Byte) (channel : FeedChannel) (value : Word)
  /-- SET_RECORD_INTERVAL: SET_ITEM of system item 32 (R144). -/
  | setRecordInterval (port : Port) (tag : Byte) (value : Word)
  /-- SET_MAT_CAPACITY: SET_ITEM of area field 0 of area 0 (R155). -/
  | setMatCapacity (port : Port) (tag : Byte) (value : Word)
  /-- SET_ANALOG_SCALING: SET_ITEM of settings items 16a + 3 to + 7 (R176). -/
  | setAnalogScaling (port : Port) (tag : Byte) (channel : AnalogChannel) (param : ScalingParam) (value : Word)
  /-- SET_INPUT_MODE: SET_ITEM of settings items 224 + 4d + 2 and + 3 (R178). -/
  | setInputMode (port : Port) (tag : Byte) (input : DigitalInput) (param : InputParam) (value : Word)
  /-- SET_OUTPUT_POLARITY: SET_ITEM of settings items 272 + 4o + 2 (R179). -/
  | setOutputPolarity (port : Port) (tag : Byte) (output : Output) (value : Word)
  /-- TAKE (R166). -/
  | take (port : Port) (tag function override : Byte)
  /-- RELEASE (R168). -/
  | release (port : Port) (tag function : Byte)
  /-- GO (R9). -/
  | go (port : Port) (tag target : Byte)
  /-- SIDE_MODE (R106). -/
  | sideMode (port : Port) (tag side target : Byte)
  /-- SET_REFERENCE (R89). -/
  | setReference (port : Port) (tag side : Byte)
  /-- JOG with a grade target (R110). -/
  | jogGrade (port : Port) (tag : Byte) (side : Side) (direction duration : Byte)
  /-- JOG with a feed target (R126). -/
  | jogFeed (port : Port) (tag : Byte) (channel : FeedChannel) (direction duration : Byte)
  /-- JOG with a width target (R34). -/
  | jogWidth (port : Port) (tag : Byte) (side : Side) (direction duration : Byte)
  /-- FEED_MODE (R122). -/
  | feedMode (port : Port) (tag channel target : Byte)
  /-- CLEAR_FAULT (R57). -/
  | clearFault (port : Port) (tag zone : Byte)
  /-- CLEAR_HEALTH (R76). -/
  | clearHealth (port : Port) (tag zone : Byte)
  /-- MARK (R143). -/
  | mark (port : Port) (tag code : Byte)
  /-- WRITE_JOB (R157). -/
  | writeJob (port : Port) (tag : Byte) (road : List Byte) (lane layer : Byte) (start : Word)
  /-- READ_RECORDS (R151); `start` is the from sequence number. -/
  | readRecords (port : Port) (tag area : Byte) (start : Word) (count : Byte)
  /-- ACK_RECORDS (R153). -/
  | ackRecords (port : Port) (tag area : Byte) (sequence : Word)
  /-- SET_CLOCK (R30). -/
  | setClock (port : Port) (tag : Byte) (day : Half) (hour minute second : Byte)
  /-- STORE_SETTINGS (R181). -/
  | storeSettings (port : Port) (tag : Byte)
  /-- STORE_WRITE_END: the store write ends; `readBackEqual` says whether the image read back equals the snapshot, and
  `imageGood`, read only when it does not, whether the array was left with the image written all the same (R182). -/
  | storeWriteEnd (readBackEqual imageGood : Bool)
  /-- ANALOG_CONVERSION: a conversion of an analog channel, with its 12-bit raw value (R175). -/
  | analogConversion (channel : AnalogChannel) (raw : BitVec 12)
  /-- FEED_HOLD_EXPIRY: the hold time of a HOLD_LAST channel reaches 0 (R120). -/
  | feedHoldExpiry (channel : FeedChannel)
  /-- PIN_CHANGE: a digital input pin takes a level, `true` high (R177). -/
  | pinChange (input : DigitalInput) (level : Bool)
  /-- DEBOUNCE_EXPIRY: an input's debounce timer runs out (R177). -/
  | debounceExpiry (input : DigitalInput)
  /-- ELEMENT_CHECK_DELAY_END: 2.0 s after a grant (R55). -/
  | elementCheckDelayEnd (zone : Zone)
  /-- SLICE_EXPIRY: a grant's slice elapsed reaches the rotation slice (R68). -/
  | sliceExpiry (zone : Zone)
  /-- SPEED_WINDOW_END: a 250 ms window ends (R24). -/
  | speedWindowEnd
  /-- PAUSE_DETECTOR_FIRE: 1.0 s in PAVING without a counted edge (R25). -/
  | pauseDetectorFire
  /-- STOP_TIMER_MATCH: the stop timer reaches its compare value (R28). -/
  | stopTimerMatch
  /-- CLOCK_STEP: a sixteenth of a second (R29). -/
  | clockStep
  /-- WIDTH_JOG_EXPIRY (R36). -/
  | widthJogExpiry (side : Side)
  /-- GRADE_JOG_EXPIRY (R111). -/
  | gradeJogExpiry (side : Side)
  /-- FEED_JOG_EXPIRY (R127). -/
  | feedJogExpiry (channel : FeedChannel)
  /-- SENSOR_ROUND_START (R80). -/
  | sensorRoundStart
  /-- POLL_REPLY: a poll reply with a good check, its status byte raw (R81). -/
  | pollReply (address status : Byte) (reading : Half)
  /-- POLL_TIMEOUT: 3 ms since the poll was sent (R81). -/
  | pollTimeout
  /-- SENSOR_FRAME_DISCARD: bytes on the sensor line, without a gap between them, taken by the receiver of R185. -/
  | sensorFrameDiscard (bytes : List Byte)
  /-- SENSOR_FRAME_GAP_EXPIRY: more than 2 ms within a sensor port frame (R185). -/
  | sensorFrameGapExpiry
  /-- SCAN_LINE: a scan line with a good check (R130). -/
  | scanLine (counter : Half) (pixels : List Half)
  /-- SCANNER: the line silence time reaches 2000 ms in PAVING (R131). -/
  | scanner
  /-- HEATING_MINUTE: a granted zone's granted seconds reach 60 (R75). -/
  | heatingMinute (zone : Zone)
deriving DecidableEq, Repr

end Sys2Proof
end

