-- ==== Sys2Proof/Decode.lean ====
section
/-! DEFINITION. The words of the opcode table. No row of spec/opcode_table.json gives bits: the WK620 takes commands from its lines, pins
and timers, and no row is a word. The byte layouts of the station and sensor lines are Machine/Operands.lean and Machine/Links.lean. -/

namespace Sys2Proof

/-- The command that a word of the table spells: none, since no row gives bits. -/
def decodeTableWord (_nbits _w : Nat) : Option Instr := none

end Sys2Proof
end

