-- ==== Sys2Proof/Machine/Settings.lean ====
section
/-! DEFINITION. The configuration parameters and setpoints of the WK620 with their built-in defaults, the containers indexed by
zone, side, port and feed channel, and what the settings image holds (R180). -/

namespace Sys2Proof.Machine

open Sys2Proof

/-! ### Containers: one named place per zone, side, port, feed channel and grade slot -/

/-- One value for each zone, in zone order (section 3.1). -/
structure PerZone (α : Type) where
  (ml mr el er bl br tl tr : α)
deriving DecidableEq, Repr

/-- One value for each side. -/
structure PerSide (α : Type) where
  (left right : α)
deriving DecidableEq, Repr

/-- One value for each station port. -/
structure PerPort (α : Type) where
  (oc ls rs ru : α)
deriving DecidableEq, Repr

/-- One value for each feed channel, in channel order (section 7.1). -/
structure PerFeed (α : Type) where
  (convL convR augL augR : α)
deriving DecidableEq, Repr

/-- One value for each grade slot of a side. -/
structure PerPlace (α : Type) where
  (g1 g2 g3 g4 : α)
deriving DecidableEq, Repr

/-- One value for each analog channel. -/
structure PerAnalog (α : Type) where
  temp  : PerZone α
  ext   : PerSide α
  level : PerFeed α
deriving DecidableEq, Repr

/-- One value for each digital input. -/
structure PerInput (α : Type) where
  (travelPulse travelDir estop : α)
  feedback : PerZone α
deriving DecidableEq, Repr

/-- One value for each output. -/
structure PerOutput (α : Type) where
  (gradeUp gradeDown : PerSide α)
  feed : PerFeed α
  (widthIn widthOut : PerSide α)
  contactor : PerZone α
  (travelPermit genLoad alarm : α)
deriving DecidableEq, Repr

variable {α : Type}

def PerZone.get (v : PerZone α) : Zone → α
  | .ml => v.ml | .mr => v.mr | .el => v.el | .er => v.er
  | .bl => v.bl | .br => v.br | .tl => v.tl | .tr => v.tr

def PerZone.set (v : PerZone α) (z : Zone) (x : α) : PerZone α :=
  match z with
  | .ml => { v with ml := x } | .mr => { v with mr := x } | .el => { v with el := x } | .er => { v with er := x }
  | .bl => { v with bl := x } | .br => { v with br := x } | .tl => { v with tl := x } | .tr => { v with tr := x }

def PerZone.all (x : α) : PerZone α := ⟨x, x, x, x, x, x, x, x⟩

def PerSide.get (v : PerSide α) : Side → α
  | .left => v.left | .right => v.right

def PerSide.set (v : PerSide α) (d : Side) (x : α) : PerSide α :=
  match d with
  | .left => { v with left := x } | .right => { v with right := x }

def PerSide.all (x : α) : PerSide α := ⟨x, x⟩

def PerPort.get (v : PerPort α) : Port → α
  | .oc => v.oc | .ls => v.ls | .rs => v.rs | .ru => v.ru

def PerPort.set (v : PerPort α) (p : Port) (x : α) : PerPort α :=
  match p with
  | .oc => { v with oc := x } | .ls => { v with ls := x } | .rs => { v with rs := x } | .ru => { v with ru := x }

def PerPort.all (x : α) : PerPort α := ⟨x, x, x, x⟩

def PerFeed.get (v : PerFeed α) : FeedChannel → α
  | .convL => v.convL | .convR => v.convR | .augL => v.augL | .augR => v.augR

def PerFeed.set (v : PerFeed α) (c : FeedChannel) (x : α) : PerFeed α :=
  match c with
  | .convL => { v with convL := x } | .convR => { v with convR := x }
  | .augL => { v with augL := x } | .augR => { v with augR := x }

def PerFeed.all (x : α) : PerFeed α := ⟨x, x, x, x⟩

def PerPlace.get (v : PerPlace α) : GradePlace → α
  | .g1 => v.g1 | .g2 => v.g2 | .g3 => v.g3 | .g4 => v.g4

def PerPlace.set (v : PerPlace α) (k : GradePlace) (x : α) : PerPlace α :=
  match k with
  | .g1 => { v with g1 := x } | .g2 => { v with g2 := x } | .g3 => { v with g3 := x } | .g4 => { v with g4 := x }

def PerPlace.all (x : α) : PerPlace α := ⟨x, x, x, x⟩

def PerAnalog.get (v : PerAnalog α) : AnalogChannel → α
  | .temp z => v.temp.get z | .ext d => v.ext.get d | .level c => v.level.get c

def PerAnalog.set (v : PerAnalog α) (a : AnalogChannel) (x : α) : PerAnalog α :=
  match a with
  | .temp z => { v with temp := v.temp.set z x }
  | .ext d => { v with ext := v.ext.set d x }
  | .level c => { v with level := v.level.set c x }

def PerInput.get (v : PerInput α) : DigitalInput → α
  | .travelPulse => v.travelPulse | .travelDir => v.travelDir | .estop => v.estop
  | .feedback z => v.feedback.get z

def PerInput.set (v : PerInput α) (i : DigitalInput) (x : α) : PerInput α :=
  match i with
  | .travelPulse => { v with travelPulse := x } | .travelDir => { v with travelDir := x }
  | .estop => { v with estop := x }
  | .feedback z => { v with feedback := v.feedback.set z x }

def PerOutput.get (v : PerOutput α) : Output → α
  | .gradeUp d => v.gradeUp.get d | .gradeDown d => v.gradeDown.get d
  | .feed c => v.feed.get c
  | .widthIn d => v.widthIn.get d | .widthOut d => v.widthOut.get d
  | .contactor z => v.contactor.get z
  | .travelPermit => v.travelPermit | .genLoad => v.genLoad | .alarm => v.alarm

def PerOutput.set (v : PerOutput α) (o : Output) (x : α) : PerOutput α :=
  match o with
  | .gradeUp d => { v with gradeUp := v.gradeUp.set d x }
  | .gradeDown d => { v with gradeDown := v.gradeDown.set d x }
  | .feed c => { v with feed := v.feed.set c x }
  | .widthIn d => { v with widthIn := v.widthIn.set d x }
  | .widthOut d => { v with widthOut := v.widthOut.set d x }
  | .contactor z => { v with contactor := v.contactor.set z x }
  | .travelPermit => { v with travelPermit := x }
  | .genLoad => { v with genLoad := x }
  | .alarm => { v with alarm := x }

/-! ### Names of configured values -/

/-- The reference kind of a side (R85). -/
inductive RefKind where
  | grade | slope
deriving DecidableEq, Repr

/-- The five detection modes of a digital input, in the order of R177. -/
inductive DetectMode where
  | levelHigh | levelLow | rising | falling | both
deriving DecidableEq, Repr

/-- The polarity of an output (R179). -/
inductive Polarity where
  | activeHigh | activeLow
deriving DecidableEq, Repr

/-! ### The stored configuration and setpoints, group by group -/

/-- A zone's setpoints and rating (R40). -/
structure ZoneSettings where
  pave    : Int := 1300
  hold    : Int := 800
  exclude : Bool := false
  rating  : Nat
deriving DecidableEq, Repr

/-- A sensor slot's address and weight (R78); the slope slot has no weight, and 0 stands there. -/
structure SlotSettings where
  address : Nat
  weight  : Nat
deriving DecidableEq, Repr

/-- A levelling side's kind, minimum valid count, grade offset and slope target (R85, R86, R99). -/
structure SideSettings where
  kind        : RefKind := .grade
  minValid    : Nat := 2
  gradeOffset : Int := 0
  slopeTarget : Int := 0
deriving DecidableEq, Repr

/-- One gain set (R100). -/
structure GainSettings where
  deadband : Int
  band     : Int
  minDuty  : Int
deriving DecidableEq, Repr

/-- A feed channel's level setpoint, gain and manual duty (R114). -/
structure FeedSettings where
  setpoint   : Int := 500
  gain       : Int := 300
  manualDuty : Int := 600
deriving DecidableEq, Repr

/-- An analog channel's scaling parameters (R176). -/
structure Scaling where
  rawLo     : Int
  rawHi     : Int
  engLo     : Int
  engHi     : Int
  tolerance : Int := 100
deriving DecidableEq, Repr

/-- A digital input's detection mode and debounce time in ms (R178). -/
structure InputSettings where
  mode     : DetectMode
  debounce : Nat
deriving DecidableEq, Repr

/-- Every configuration parameter and every setpoint of the part: what the settings image holds beside the health records and
the last job number (R180). -/
structure Settings where
  readinessBand  : Int
  pulsesPerMetre : Int
  standbyCode    : Nat
  mainLength     : Int
  boltOn         : PerSide Int
  zones          : PerZone ZoneSettings
  hysteresis     : Int
  overtempMargin : Int
  extThreshold   : Int
  generatorLimit : Nat
  rotationSlice  : Nat
  gradeSlots     : PerSide (PerPlace SlotSettings)
  slopeSlot      : SlotSettings
  sides          : PerSide SideSettings
  obstacleWindow : Int
  span           : Int
  creep          : Int
  gainA          : GainSettings
  gainB          : GainSettings
  feed           : PerFeed FeedSettings
  recordInterval : Int
  edgeMargin     : Int
  segmentWidth   : Int
  coldLimit      : Nat
  diffLimit      : Nat
  matCapacity    : Nat
  scaling        : PerAnalog Scaling
  inputs         : PerInput InputSettings
  polarity       : PerOutput Polarity
deriving DecidableEq, Repr

/-- The default ratings of section 3.1. -/
def defaultZones : PerZone ZoneSettings :=
  { ml := { rating := 50 }, mr := { rating := 50 }, el := { rating := 40 }, er := { rating := 40 }
    bl := { rating := 25 }, br := { rating := 25 }, tl := { rating := 35 }, tr := { rating := 35 } }

/-- The default slot table of R79. -/
def defaultGradeSlots : PerSide (PerPlace SlotSettings) :=
  { left := ⟨⟨1, 1⟩, ⟨2, 1⟩, ⟨3, 1⟩, ⟨0, 0⟩⟩
    right := ⟨⟨4, 1⟩, ⟨5, 1⟩, ⟨6, 1⟩, ⟨0, 0⟩⟩ }

/-- The default scaling parameters of R176. -/
def defaultScaling : PerAnalog Scaling :=
  { temp := PerZone.all { rawLo := 200, rawHi := 3900, engLo := -400, engHi := 4500 }
    ext := PerSide.all { rawLo := 400, rawHi := 3600, engLo := 0, engHi := 2500 }
    level := PerFeed.all { rawLo := 400, rawHi := 3600, engLo := 0, engHi := 1000 } }

/-- The default detection modes and debounce times of section 11.2. -/
def defaultInputs : PerInput InputSettings :=
  { travelPulse := ⟨.rising, 0⟩, travelDir := ⟨.levelHigh, 10⟩, estop := ⟨.levelLow, 5⟩
    feedback := PerZone.all ⟨.levelHigh, 20⟩ }

/-- Every output ACTIVE_HIGH (R179). -/
def defaultPolarity : PerOutput Polarity :=
  { gradeUp := PerSide.all .activeHigh, gradeDown := PerSide.all .activeHigh, feed := PerFeed.all .activeHigh
    widthIn := PerSide.all .activeHigh, widthOut := PerSide.all .activeHigh, contactor := PerZone.all .activeHigh
    travelPermit := .activeHigh, genLoad := .activeHigh, alarm := .activeHigh }

/-- The built-in defaults, each from the item table of its group. -/
def defaultSettings : Settings where
  readinessBand := 100
  pulsesPerMetre := 4000
  standbyCode := 36
  mainLength := 3000
  boltOn := PerSide.all 0
  zones := defaultZones
  hysteresis := 30
  overtempMargin := 300
  extThreshold := 300
  generatorLimit := 180
  rotationSlice := 60
  gradeSlots := defaultGradeSlots
  slopeSlot := ⟨7, 0⟩
  sides := PerSide.all {}
  obstacleWindow := 500
  span := 3000
  creep := 10
  gainA := ⟨15, 100, 80⟩
  gainB := ⟨25, 200, 60⟩
  feed := PerFeed.all {}
  recordInterval := 500
  edgeMargin := 100
  segmentWidth := 500
  coldLimit := 240
  diffLimit := 50
  matCapacity := 1792
  scaling := defaultScaling
  inputs := defaultInputs
  polarity := defaultPolarity

/-! ### What the settings image holds -/

/-- A paving clock value (section 2.5). -/
structure ClockValue where
  day       : BitVec 16
  hour      : BitVec 8
  minute    : BitVec 8
  second    : BitVec 8
  sixteenth : BitVec 4
deriving DecidableEq, Repr

/-- The last fault kind of a health record (R73). -/
inductive HealthFault where
  | none | sensor | element | overtemp
deriving DecidableEq, Repr

/-- A zone's health record (R73). `subMs` is the model's own: milliseconds of granted time not yet making a second. -/
structure Health where
  elementOpen : Nat := 0
  overtemp    : Nat := 0
  sensorFault : Nat := 0
  minutes     : Nat := 0
  seconds     : Nat := 0
  subMs       : Nat := 0
  maxTemp     : Int := 0
  lastFault   : HealthFault := .none
  lastStamp   : ClockValue := ⟨0, 0, 0, 0, 0⟩
  lastStation : Int := 0
deriving DecidableEq, Repr

/-- The stored parts of a health record: every part but the granted seconds (R73). -/
def Health.stored (h : Health) : Health := { h with seconds := 0, subMs := 0 }

/-- The contents of the settings image, its check value apart (R180). -/
structure SettingsImage where
  settings : Settings
  health   : PerZone Health
  lastJob  : Nat
deriving DecidableEq, Repr

end Sys2Proof.Machine
end

