-- ==== Sys2Proof/Config.lean ====
section
/-! DEFINITION. The free values of the model: what the manual leaves open. Each is a constant without a body, so that no proof can
rest on a value of it. -/

namespace Sys2Proof.Config

/-- The bytes of the settings image before its check value, in the order of the nonvolatile array. The manual fixes the check value
as their 16-bit sum (R180) and gives no layout of the image, so the bytes are a free value (assumption 1). -/
opaque imageBytes : Sys2Proof.Machine.SettingsImage → List Byte

/-- What a 4-byte field carries for a sequence number above 4294967295: the oldest of an empty area whose newest stands at
4294967295 (R146, R147). The manual states no such value (assumption 2). -/
opaque oversizeSequence : Nat → Word

end Sys2Proof.Config
end

