-- ==== Sys2Proof/Machine/State.lean ====
section
/-! DEFINITION. The state of the WK620: every piece of state the manual gives its thirteen blocks, as plain data, the queue of
waiting commands, and the state right after reset (R3). Values the manual computes from other state at every moment (outputs, alarm
conditions, width and edges, zone fitting, fault kind, queue lengths) have no field: Machine/Flags.lean computes them. Fields whose
docstring says "the model's own" hold time within a unit that the manual counts. -/

namespace Sys2Proof.Machine

open Sys2Proof

/-! ### Mode controller (chapter 1) -/

/-- The machine mode, in the order of section 1.1. -/
inductive Mode where
  | starting | parked | preheat | ready | paving | paused | standby
deriving DecidableEq, Repr

/-- The cause of a mode change, in the order of R2. -/
inductive ModeCause where
  | request | readiness | pause | resume | timer | eStop | authorityLoss | start
deriving DecidableEq, Repr

/-! ### Station ports and authority (chapter 10) -/

/-- The nine control functions (section 10.4). -/
inductive Function where
  | mode | heat
  | grade (side : Side) | feed (side : Side) | width (side : Side)
  | records
deriving DecidableEq, Repr

/-- The status codes (section 10.8). -/
inductive Status where
  | ok | okClamped | partialOk | busy | notReady | state | notPermitted | notHolder | held | range | config | gone | full | unknown
deriving DecidableEq, Repr

/-- A reply frame before its framing: the KIND byte as sent, the TAG, the status and the payload (section 12.1). -/
structure Reply where
  kind    : Byte
  tag     : Byte
  status  : Status
  payload : List Byte
deriving DecidableEq, Repr

/-- A request in flight on a port; its requester is the port's station (R160). -/
structure InFlight where
  kind : Byte
  tag  : Byte
deriving DecidableEq, Repr

/-- The receiver of a line (R161, R185): it hunts for SYNC, or it is in a frame, with the bytes taken from SYNC on and the milliseconds
since the last of them, which stop at 3, more than the 2 ms a frame allows. -/
inductive Receiver where
  | hunting
  | inFrame (taken : List Byte) (gap : Nat)
deriving DecidableEq, Repr

/-- A station port (R160) with its receiver (R161). `sending` is the reply on the transmitter and `waiting` the replies produced and not
yet begun, oldest first; the BUSY queue of R160 is the BUSY replies of `waiting`. -/
structure PortState where
  receiver    : Receiver
  up          : Bool
  silence     : Nat
  inFlight    : Option InFlight
  frameErrors : Nat
  sending     : Option Reply
  waiting     : List Reply
deriving DecidableEq, Repr

/-- The authority table: the holder of each function, or none (R165). -/
structure Authority where
  mode    : Option Port
  heat    : Option Port
  grade   : PerSide (Option Port)
  feed    : PerSide (Option Port)
  width   : PerSide (Option Port)
  records : Option Port
deriving DecidableEq, Repr

/-! ### Travel, time and geometry (chapter 2) -/

/-- The state of the stop timer (R28). -/
inductive StopState where
  | idle | running | matched
deriving DecidableEq, Repr

/-- The stop timer (R27, R28). `subMs` is the model's own: milliseconds since the last whole second counted. The pending code is the
code last written, `Settings.standbyCode`. -/
structure StopTimer where
  state       : StopState
  elapsed     : Nat
  subMs       : Nat
  codeInForce : Nat
  pending     : Bool
deriving DecidableEq, Repr

/-- The travel unit (section 2.1). The job start station is `JobHeader.start`. `windowMs` and `pauseMs` are the model's own: the time
since the running speed window began, and the time since the later of the last counted edge and the latest entry to PAVING. -/
structure Travel where
  pulseCount   : Int
  station      : Int
  highWater    : Int
  speed        : Int
  windowChange : Int
  windowStart  : Int
  pulseSilence : Nat
  windowMs     : Nat
  pauseMs      : Nat
  stop         : StopTimer
deriving DecidableEq, Repr

/-- The direction of a width jog (section 2.7). -/
inductive WidthDir where
  | none | inward | outward
deriving DecidableEq, Repr

/-- The last end cause of a width jog (R36, R39). -/
inductive WidthEnd where
  | none | expiry | limit | fault | authority | eStop | replaced
deriving DecidableEq, Repr

/-- One side of the geometry unit: its extension position, whether it is stale, and its width jog (R32, R34). `jogMs` is the model's
own: milliseconds within the running tenth of a second. -/
structure Extension where
  position : Int
  stale    : Bool
  jogDir   : WidthDir
  jogLeft  : Nat
  jogMs    : Nat
  lastEnd  : WidthEnd
deriving DecidableEq, Repr

/-! ### Heating and budget (chapters 3 and 4) -/

/-- The state of a zone (section 3.3). -/
inductive ZoneState where
  | off | satisfied | waiting | heating | fault | overtemp
deriving DecidableEq, Repr

/-- The fault kind of a zone (R40). -/
inductive FaultKind where
  | none | sensor | element
deriving DecidableEq, Repr

/-- The active set of a zone (R43). -/
inductive ActiveSet where
  | none | pave | hold
deriving DecidableEq, Repr

/-- The element check of a zone (R55). -/
inductive ElementCheck where
  | idle | delay | watch
deriving DecidableEq, Repr

/-- A zone record (R40), its setpoints, exclude flag and rating apart (`Settings.zones`). Its temperature is the value of its
analog channel. `checkMs` is the model's own: milliseconds of the element check's delay. -/
structure ZoneRec where
  state          : ZoneState
  latch          : Bool
  activeSet      : ActiveSet
  activeSetpoint : Int
  check          : ElementCheck
  checkMs        : Nat
deriving DecidableEq, Repr

/-- An entry of the grant list (R65). `subMs` is the model's own: milliseconds since the last whole second of the slice. -/
structure Grant where
  zone    : Zone
  start   : ClockValue
  elapsed : Nat
  subMs   : Nat
deriving DecidableEq, Repr

/-! ### Levelling (chapters 5 and 6) -/

/-- The class of a sensor slot (R78). -/
inductive SlotClass where
  | none | unused | stale | invalid | noRef | excluded | valid
deriving DecidableEq, Repr

/-- A grade slot (R78), its address and weight apart (`Settings.gradeSlots`). -/
structure GradeSlotRec where
  reference : Int
  refValid  : Bool
  reading   : Int
  cls       : SlotClass
  deviation : Int
deriving DecidableEq, Repr

/-- The slope slot (R78), its address apart. -/
structure SlopeSlotRec where
  reading : Int
  cls     : SlotClass
deriving DecidableEq, Repr

/-- A sensor round in progress: the slot whose poll is waited on and the address polled, the time waited, whether a used slot has
had a fresh reply in the round, and whether a poll of a used slot has completed in it (R80, R88). -/
structure Round where
  slot    : Slot
  address : Nat
  waited  : Nat
  fresh   : Bool
  polled  : Bool
deriving DecidableEq, Repr

/-- The round control of the levelling controller (R80, R88). `sinceStart` is the model's own: milliseconds since the start of the
latest round. -/
structure Sensors where
  roundCount  : Nat
  staleRounds : Nat
  round       : Option Round
  sinceStart  : Nat
deriving DecidableEq, Repr

/-- The state of a levelling side (section 6.1). -/
inductive SideState where
  | off | manual | auto | suspended | hold | referencing
deriving DecidableEq, Repr

/-- The verdict of a round (R97, R98). -/
inductive Verdict where
  | good | short
deriving DecidableEq, Repr

/-- The gain set in use (R100). -/
inductive GainSet where
  | a | b
deriving DecidableEq, Repr

/-- The direction of a levelling valve (R95). -/
inductive GradeDir where
  | none | up | down
deriving DecidableEq, Repr

/-- The last end cause of a grade jog (R95). -/
inductive GradeEnd where
  | none | expiry | replaced | sideMode | authority | parked | eStop
deriving DecidableEq, Repr

/-- A side record (R95, R94). `returnState` is manual (`true`) or OFF. `capturePort` is the port whose SET_REFERENCE is in flight and
`captureArmed` says that the side was REFERENCING when the running round began (R87). `verdictClass` is the slope slot's class in the
round of the last verdict (R105). `jogMs` is the model's own. -/
structure SideRec where
  state        : SideState
  verdict      : Verdict
  deviation    : Int
  error        : Int
  gain         : GainSet
  duty         : Int
  dir          : GradeDir
  jogLeft      : Nat
  jogMs        : Nat
  lastEnd      : GradeEnd
  returnManual : Bool
  capturePort  : Port
  captureArmed : Bool
  validCount   : Nat
  verdictClass : SlotClass
deriving DecidableEq, Repr

/-! ### Feed (chapter 7) -/

/-- The state of a feed channel (section 7.1). -/
inductive FeedState where
  | off | manual | auto | suspended | holdLast | sensorHold
deriving DecidableEq, Repr

/-- The last end cause of a feed jog (R114). -/
inductive FeedEnd where
  | none | expiry | replaced | feedMode | authority | parked | eStop | standby
deriving DecidableEq, Repr

/-- A feed channel record (R114), its setpoint, gain and manual duty apart (`Settings.feed`). Its level is the value of its analog
channel. `holdMs` and `jogMs` are the model's own. -/
structure FeedRec where
  state   : FeedState
  error   : Int
  duty    : Int
  hold    : Nat
  holdMs  : Nat
  jogDuty : Int
  jogLeft : Nat
  jogMs   : Nat
  lastEnd : FeedEnd
deriving DecidableEq, Repr

/-! ### Mat profiler (chapter 8) -/

/-- The accumulator of one pixel (R129). -/
structure Pixel where
  sum   : Nat
  count : Nat
deriving DecidableEq, Repr

/-- The interval flags, in the order of R129. -/
structure IntervalFlags where
  afterPause    : Bool
  levelHoldL    : Bool
  levelHoldR    : Bool
  feedHold      : Bool
  geometryStale : Bool
  readinessLost : Bool
deriving DecidableEq, Repr

/-- A mark of the interval (R143). -/
structure MatMark where
  code : Byte
  port : Port
deriving DecidableEq, Repr

/-- The mat profiler (R129); `pixels` holds the 120 accumulators from pixel 0. -/
structure Profiler where
  pixels      : List Pixel
  lines       : Nat
  flags       : IntervalFlags
  marks       : List MatMark
  nextMark    : Option Int
  lastCounter : Nat
  lineSilence : Nat
  scanner     : Bool
deriving DecidableEq, Repr

/-! ### Record memory (chapter 9) -/

/-- The layer kind of a job (R156). -/
inductive Layer where
  | base | binder | surface
deriving DecidableEq, Repr

/-- The job header (R156); `start` is also the travel unit's job start station (R21). -/
structure JobHeader where
  number : Nat
  road   : List Byte
  lane   : Nat
  layer  : Layer
  start  : Int
deriving DecidableEq, Repr

/-- The outcome a SETTINGS record carries (R158). -/
inductive SettingsOutcome where
  | defaulted | storeFailed
deriving DecidableEq, Repr

/-- The cause an AUTHORITY record carries (R167, R169). -/
inductive AuthorityCause where
  | override | loss
deriving DecidableEq, Repr

/-- The third detail value of a SIDE_HOLD record: the valid count of a GRADE side, the slope slot's class of a SLOPE side (R105). -/
inductive HoldDetail where
  | validCount (n : Nat)
  | slopeClass (c : SlotClass)
deriving DecidableEq, Repr

/-- The kinds of event records with their detail values, in the order of R158. -/
inductive Event where
  | modeChanged (before after : Mode) (cause : ModeCause)
  | settings (outcome : SettingsOutcome)
  | jobStarted (job lane : Nat) (layer : Layer) (start : Int)
  | readinessLost (failing : Nat) (first : Zone) (state : ZoneState)
  | standbyEntered (code compare : Nat) (highWater : Int)
  | clockSet (old : ClockValue)
  | geometryStale (side : Side) (position station : Int)
  | zoneFault (zone : Zone) (kind : FaultKind) (temp : Int)
  | zoneOvertemp (zone : Zone) (temp setpoint : Int)
  | zoneCleared (zone : Zone) (temp : Int)
  | healthCleared (zone : Option Zone)
  | sensorLink (used round : Nat)
  | referenceSet (side : Side) (count : Nat) (places : List GradePlace)
  | sideHold (side : Side) (detail : HoldDetail)
  | sideResumed (side : Side) (validCount : Nat) (error : Int)
  | feedHold (channel : FeedChannel) (level duty : Int)
  | feedResumed (channel : FeedChannel) (level duty : Int)
  | scanner (counter silence : Nat) (highWater : Int)
  | authority (function : Function) (cause : AuthorityCause) (previous : Port)
  | recordsLost (firstLost capacity : Nat)
  | areasCleared (matNewest eventNewest capacity : Nat)
deriving DecidableEq, Repr

/-- The origin of an event record (section 12.5). -/
inductive Origin where
  | port (p : Port)
  | modeController | authorityTable | travelUnit | geometryUnit | heating | allocator | levelling | feed | profiler
  | recordMemory | fieldUnit | settingsStore
deriving DecidableEq, Repr

/-- An event record (R158). -/
structure EventRecord where
  sequence : Nat
  clock    : ClockValue
  station  : Int
  origin   : Origin
  event    : Event
deriving DecidableEq, Repr

/-- A profile record (R142); `flags` is the mask of section 12.4. -/
structure ProfileRecord where
  sequence   : Nat
  job        : Nat
  station    : Int
  clock      : ClockValue
  width      : Int
  xL         : Int
  flags      : Nat
  lines      : Nat
  matMin     : Nat
  matMax     : Nat
  matMean    : Nat
  cold       : Nat
  errors     : PerSide Int
  sideStates : PerSide SideState
  levels     : PerFeed Int
  zoneStates : PerZone ZoneState
  speed      : Int
  marks      : List MatMark
  segments   : List Nat
deriving DecidableEq, Repr

/-- The two record areas (R145). -/
inductive AreaId where
  | mat | event
deriving DecidableEq, Repr

/-- A record area (R146): the held records oldest first, the newest sequence number given, the ack point and the counts. The oldest is
`newest + 1 - held.length`. `firstLost` is used by the MAT area only (R149). -/
structure Area (α : Type) where
  held       : List α
  newest     : Nat
  ackPoint   : Nat
  appended   : Nat
  overwritten : Nat
  lost       : Nat
  lostAtAck  : Nat
  firstLost  : Option Nat
deriving DecidableEq, Repr

/-! ### Field channels and settings store (chapter 11) -/

/-- An analog channel: last raw conversion, value, condition (R175). -/
structure Analog where
  raw   : Nat
  value : Int
  fault : Bool
deriving DecidableEq, Repr

/-- A digital input: pin level and debounced level (`true` high), and the milliseconds its debounce timer still has to run, none when it
does not run (R177). -/
structure DigIn where
  pin       : Bool
  debounced : Bool
  timer     : Option Nat
deriving DecidableEq, Repr

/-- The store state; while WRITING it holds the snapshot (R181). -/
inductive StoreState where
  | idle
  | writing (snapshot : SettingsImage)
deriving DecidableEq, Repr

/-- The last store outcome (R183). -/
inductive StoreOutcome where
  | none | ok | failed
deriving DecidableEq, Repr

/-- The load outcome (R180). -/
inductive LoadOutcome where
  | good | defaulted
deriving DecidableEq, Repr

/-- The nonvolatile array: an image whose check value equals the sum of its bytes, or anything else (unwritten, incomplete, spoiled),
which the load judges bad (R180). -/
inductive NvArray where
  | bad
  | good (image : SettingsImage)
deriving DecidableEq, Repr

/-- The settings store (R180, R182). -/
structure Store where
  state       : StoreState
  lastOutcome : StoreOutcome
  loadOutcome : LoadOutcome
  defaulted   : Bool
  array       : NvArray
deriving DecidableEq, Repr

/-! ### The whole machine -/

/-- The state of the WK620. `sensorReceiver` is the receiver of the sensor port (R185). `recordsOpen` says that the record memory takes appends (R147: from load completion). `clockPhase` is the
model's own: half milliseconds since the last sixteenth. `pending` is the queue of waiting commands, first in, first out. -/
structure State where
  mode        : Mode
  pavePending : Bool
  readiness   : Bool
  failing     : Nat
  estop       : Bool
  ports       : PerPort PortState
  authority   : Authority
  travel      : Travel
  clock       : ClockValue
  clockPhase  : Nat
  geometry    : PerSide Extension
  zones       : PerZone ZoneRec
  health      : PerZone Health
  queue       : List Zone
  grants      : List Grant
  sensorReceiver : Receiver
  sensors     : Sensors
  gradeSlots  : PerSide (PerPlace GradeSlotRec)
  slopeSlot   : SlopeSlotRec
  sides       : PerSide SideRec
  feed        : PerFeed FeedRec
  profiler    : Profiler
  mat         : Area ProfileRecord
  events      : Area EventRecord
  recordsOpen : Bool
  job         : JobHeader
  analog      : PerAnalog Analog
  inputs      : PerInput DigIn
  store       : Store
  settings    : Settings
  pending     : List Instr
deriving DecidableEq, Repr

/-- No command of the WK620 stops it with a fault: every request is answered and every event is taken (R174, chapters 1 to 12), so the
type has no constructor. Nobody raises one. -/
inductive Fault where
deriving DecidableEq, Repr

/-- Why a command has no outcome in the model. -/
inductive Refusal where
  /-- Raised by `exec` alone, for a row of the opcode table that has no meaning yet; safe (the model stops). No arm raises it now. -/
  | notModelled (mnemonic : String)
deriving DecidableEq, Repr

/-! ### Reset (R3) -/

def resetPort : PortState :=
  { receiver := .hunting, up := false, silence := 0, inFlight := none, frameErrors := 0, sending := none, waiting := [] }

def resetAuthority : Authority :=
  { mode := none, heat := none, grade := ⟨none, none⟩, feed := ⟨none, none⟩, width := ⟨none, none⟩, records := none }

def resetTravel : Travel :=
  { pulseCount := 0, station := 0, highWater := 0, speed := 0, windowChange := 0, windowStart := 0, pulseSilence := 0
    windowMs := 0, pauseMs := 0
    stop := { state := .idle, elapsed := 0, subMs := 0, codeInForce := 36, pending := false } }

def resetExtension : Extension :=
  { position := 0, stale := false, jogDir := .none, jogLeft := 0, jogMs := 0, lastEnd := .none }

def resetZone : ZoneRec :=
  { state := .off, latch := false, activeSet := .none, activeSetpoint := 0, check := .idle, checkMs := 0 }

def resetGradeSlot : GradeSlotRec :=
  { reference := 0, refValid := false, reading := 0, cls := .none, deviation := 0 }

def resetSide : SideRec :=
  { state := .off, verdict := .short, deviation := 0, error := 0, gain := .b, duty := 0, dir := .none, jogLeft := 0, jogMs := 0
    lastEnd := .none, returnManual := false, capturePort := .oc, captureArmed := false, validCount := 0, verdictClass := .none }

def resetFeed : FeedRec :=
  { state := .off, error := 0, duty := 0, hold := 0, holdMs := 0, jogDuty := 0, jogLeft := 0, jogMs := 0, lastEnd := .none }

def resetProfiler : Profiler :=
  { pixels := List.replicate 120 ⟨0, 0⟩, lines := 0, flags := ⟨true, false, false, false, false, false⟩, marks := []
    nextMark := some 500, lastCounter := 0, lineSilence := 0, scanner := false }

def resetArea {α : Type} : Area α :=
  { held := [], newest := 0, ackPoint := 0, appended := 0, overwritten := 0, lost := 0, lostAtAck := 0, firstLost := none }

def resetJob : JobHeader :=
  { number := 0, road := List.replicate 16 0x20, lane := 0, layer := .base, start := 0 }

def resetAnalog : Analog := { raw := 0, value := 0, fault := false }

/-- An input at the end of reset: the debounced level takes the pin level as it stands (R177). -/
def resetInput (level : Bool) : DigIn := { pin := level, debounced := level, timer := none }

/-- The machine right after reset, with what reset does not decide: the pin levels, the nonvolatile array and the waiting commands. -/
def State.afterReset (pins : PerInput Bool) (array : NvArray) (pending : List Instr) : State where
  mode := .starting
  pavePending := false
  readiness := false
  failing := 0
  estop := !pins.estop
  ports := PerPort.all resetPort
  authority := resetAuthority
  travel := resetTravel
  clock := ⟨0, 0, 0, 0, 0⟩
  clockPhase := 0
  geometry := PerSide.all resetExtension
  zones := PerZone.all resetZone
  health := PerZone.all {}
  queue := []
  grants := []
  sensorReceiver := .hunting
  sensors := { roundCount := 0, staleRounds := 0, round := none, sinceStart := 0 }
  gradeSlots := PerSide.all (PerPlace.all resetGradeSlot)
  slopeSlot := { reading := 0, cls := .none }
  sides := PerSide.all resetSide
  feed := PerFeed.all resetFeed
  profiler := resetProfiler
  mat := resetArea
  events := resetArea
  recordsOpen := false
  job := resetJob
  analog := ⟨PerZone.all resetAnalog, PerSide.all resetAnalog, PerFeed.all resetAnalog⟩
  inputs :=
    { travelPulse := resetInput pins.travelPulse, travelDir := resetInput pins.travelDir, estop := resetInput pins.estop
      feedback := ⟨resetInput pins.feedback.ml, resetInput pins.feedback.mr, resetInput pins.feedback.el, resetInput pins.feedback.er,
        resetInput pins.feedback.bl, resetInput pins.feedback.br, resetInput pins.feedback.tl, resetInput pins.feedback.tr⟩ }
  store := { state := .idle, lastOutcome := .none, loadOutcome := .defaulted, defaulted := false, array := array }
  settings := defaultSettings
  pending := pending

/-- Every pin high: the inputs have internal pull-ups (spec/00_scope.md section 3; assumption 3, DEDUCED). -/
def pulledUpPins : PerInput Bool :=
  { travelPulse := true, travelDir := true, estop := true, feedback := PerZone.all true }

/-- The machine right after its first power-on: pins pulled up, nothing in the settings array (assumptions 3 and 4), no command waiting. -/
def State.reset : State := State.afterReset pulledUpPins .bad []

end Sys2Proof.Machine
end

