-- ==== Sys2Proof/Machine/Ops.lean ====
section
/-! DEFINITION. Named operations shared by the blocks: integer arithmetic with the manual's roundings (5.2), the enumerations in the
manual's orders, writes of one record of State, and the little-endian fields of section 12.1. -/

namespace Sys2Proof.Machine

open Sys2Proof

/-! ### Arithmetic -/

/-- The nearest value within `lo` to `hi` (5.3). -/
def clamp (lo hi v : Int) : Int := max lo (min hi v)

/-- One more, held at `top`: a saturating count. -/
def satInc (top n : Nat) : Nat := min top (n + 1)

/-- The largest 16-bit count. -/
def top16 : Nat := 65535

/-- The largest 32-bit count. -/
def top32 : Nat := 4294967295

/-- Signed 32-bit bounds. -/
def minS32 : Int := -2147483648

def maxS32 : Int := 2147483647

/-- Division of whole numbers, rounded half up (section 8.7). -/
def divHalfUp (n d : Nat) : Nat :=
  if d ≤ 2 * (n % d) then n / d + 1 else n / d

/-- Division rounded half away from zero, as R97 gives it: the magnitude is divided, and the sign given to the result. -/
def divHalfAway (n : Int) (d : Nat) : Int :=
  if n < 0 then -(divHalfUp n.natAbs d : Int) else (divHalfUp n.natAbs d : Int)

/-! ### The enumerations in order -/

def allZones : List Zone := [.ml, .mr, .el, .er, .bl, .br, .tl, .tr]

def allSides : List Side := [.left, .right]

def allPorts : List Port := [.oc, .ls, .rs, .ru]

def allFeed : List FeedChannel := [.convL, .convR, .augL, .augR]

def allPlaces : List GradePlace := [.g1, .g2, .g3, .g4]

/-- The slots in slot order (section 5.1). -/
def allSlots : List Slot :=
  [.grade .left .g1, .grade .left .g2, .grade .left .g3, .grade .left .g4,
   .grade .right .g1, .grade .right .g2, .grade .right .g3, .grade .right .g4, .slope]

/-- The control functions in the order of section 10.4. -/
def allFunctions : List Function :=
  [.mode, .heat, .grade .left, .grade .right, .feed .left, .feed .right, .width .left, .width .right, .records]

/-- The side a zone belongs to for its extension or bolt-on; ML, MR, TL and TR have no such part. -/
def extensionSide : Zone → Option Side
  | .el => some .left | .er => some .right | _ => none

def boltOnSide : Zone → Option Side
  | .bl => some .left | .br => some .right | _ => none

/-- The side a feed channel belongs to: the one of its owning function (section 7.1). -/
def feedSide : FeedChannel → Side
  | .convL => .left | .augL => .left | .convR => .right | .augR => .right

/-- The extension zone of a side. -/
def extensionZone : Side → Zone
  | .left => .el | .right => .er

/-! ### Writes of one record of State -/

def setPort (p : Port) (r : PortState) (s : State) : State := { s with ports := s.ports.set p r }

def setZone (z : Zone) (r : ZoneRec) (s : State) : State := { s with zones := s.zones.set z r }

def setHealth (z : Zone) (h : Health) (s : State) : State := { s with health := s.health.set z h }

def setSide (d : Side) (r : SideRec) (s : State) : State := { s with sides := s.sides.set d r }

def setFeed (c : FeedChannel) (r : FeedRec) (s : State) : State := { s with feed := s.feed.set c r }

def setExtension (d : Side) (r : Extension) (s : State) : State := { s with geometry := s.geometry.set d r }

def setAnalog (a : AnalogChannel) (r : Analog) (s : State) : State := { s with analog := s.analog.set a r }

def setInput (i : DigitalInput) (r : DigIn) (s : State) : State := { s with inputs := s.inputs.set i r }

def setSettings (f : Settings) (s : State) : State := { s with settings := f }

def setGradeSlot (d : Side) (k : GradePlace) (r : GradeSlotRec) (s : State) : State :=
  { s with gradeSlots := s.gradeSlots.set d ((s.gradeSlots.get d).set k r) }

def setTravel (t : Travel) (s : State) : State := { s with travel := t }

def setProfiler (p : Profiler) (s : State) : State := { s with profiler := p }

/-! ### The authority table -/

def holderOf (a : Authority) : Function → Option Port
  | .mode => a.mode | .heat => a.heat
  | .grade d => a.grade.get d | .feed d => a.feed.get d | .width d => a.width.get d
  | .records => a.records

def setHolderIn (a : Authority) (f : Function) (h : Option Port) : Authority :=
  match f with
  | .mode => { a with mode := h }
  | .heat => { a with heat := h }
  | .grade d => { a with grade := a.grade.set d h }
  | .feed d => { a with feed := a.feed.set d h }
  | .width d => { a with width := a.width.set d h }
  | .records => { a with records := h }

def setHolder (f : Function) (h : Option Port) (s : State) : State :=
  { s with authority := setHolderIn s.authority f h }

/-- The port holds the function. -/
def holds (s : State) (p : Port) (f : Function) : Bool := decide (holderOf s.authority f = some p)

/-- The stations that may hold each function (section 10.4). -/
def permitted : Port → Function → Bool
  | .oc, _ => true
  | .ls, .heat => true
  | .ls, .grade .left => true
  | .ls, .feed .left => true
  | .ls, .width .left => true
  | .rs, .heat => true
  | .rs, .grade .right => true
  | .rs, .feed .right => true
  | .rs, .width .right => true
  | .ru, .records => true
  | _, _ => false

/-! ### Little-endian fields (section 12.1, R184) -/

def u8 (n : Nat) : List Byte := [BitVec.ofNat 8 n]

def u16 (n : Nat) : List Byte := [BitVec.ofNat 8 n, BitVec.ofNat 8 (n / 256)]

def u32 (n : Nat) : List Byte :=
  [BitVec.ofNat 8 n, BitVec.ofNat 8 (n / 256), BitVec.ofNat 8 (n / 65536), BitVec.ofNat 8 (n / 16777216)]

/-- A signed two-byte field, two's complement. -/
def i16 (v : Int) : List Byte := u16 (BitVec.ofInt 16 v).toNat

/-- A signed four-byte field, two's complement. -/
def i32 (v : Int) : List Byte := u32 (BitVec.ofInt 32 v).toNat

/-- The 8-bit sum of bytes (section 12.1). -/
def byteSum (bs : List Byte) : Byte := bs.foldl (· + ·) 0

end Sys2Proof.Machine
end

