-- ==== Sys2Proof/Machine/Flags.lean ====
section
/-! DEFINITION. What the WK620 computes from its state at every moment: zone fitting, readiness, demand, the budget sums, slot use, the
run condition, the geometry, the alarm and interval conditions, the area counts, the input levels and the outputs. -/

namespace Sys2Proof.Machine

open Sys2Proof

/-! ### Geometry (R33) -/

/-- The screed width. -/
def screedWidth (s : State) : Int :=
  s.settings.mainLength + s.geometry.left.position + s.geometry.right.position + s.settings.boltOn.left + s.settings.boltOn.right

/-- The left edge. -/
def edgeL (s : State) : Int :=
  -((s.settings.mainLength.tdiv 2) + s.geometry.left.position + s.settings.boltOn.left)

/-- The right edge. -/
def edgeR (s : State) : Int :=
  (s.settings.mainLength.tdiv 2) + s.geometry.right.position + s.settings.boltOn.right

/-- The side's extension position is at least the extension threshold (R43, R44). -/
def extended (s : State) (d : Side) : Bool := decide (s.settings.extThreshold ≤ (s.geometry.get d).position)

/-! ### Zones (chapter 3) -/

def zoneTemp (s : State) (z : Zone) : Int := (s.analog.temp.get z).value

def zoneChannelFault (s : State) (z : Zone) : Bool := (s.analog.temp.get z).fault

/-- R41: BL and BR are fitted while their side's bolt-on is; every other zone is always fitted. -/
def fitted (s : State) (z : Zone) : Bool :=
  match boltOnSide z with
  | none => true
  | some d => decide (0 < s.settings.boltOn.get d)

/-- R41: fitted and not excluded. -/
def zoneActive (s : State) (z : Zone) : Bool := fitted s z && !(s.settings.zones.get z).exclude

/-- R40: the fault kind of a zone record. -/
def faultKind (r : ZoneRec) : FaultKind :=
  if r.latch then .element else if r.state = .fault then .sensor else .none

/-- The setpoint set a zone heats to in PREHEAT, READY, PAVING and PAUSED (R43, R7). -/
def pavingSet (s : State) (z : Zone) : ActiveSet :=
  match extensionSide z with
  | none => .pave
  | some d => if extended s d then .pave else .hold

/-- R43: the active set of a zone that is not OFF. -/
def selectedSet (s : State) (z : Zone) : ActiveSet :=
  if s.mode = .standby then .hold else pavingSet s z

/-- A zone's setpoint of a set; 0 for NONE (R40). -/
def setpointOf (s : State) (z : Zone) : ActiveSet → Int
  | .none => 0
  | .pave => (s.settings.zones.get z).pave
  | .hold => (s.settings.zones.get z).hold

/-- R7: the zone meets its readiness threshold. -/
def meetsThreshold (s : State) (z : Zone) : Bool :=
  decide ((s.zones.get z).state ≠ .fault) && !zoneChannelFault s z
    && decide (setpointOf s z (pavingSet s z) - s.settings.readinessBand ≤ zoneTemp s z)

/-- The active zones that fail their readiness threshold, in zone order (R7, R12). -/
def failingZones (s : State) : List Zone :=
  allZones.filter fun z => zoneActive s z && !meetsThreshold s z

/-- R46: the zone's temperature is below its active setpoint minus the hysteresis. -/
def demand (s : State) (z : Zone) : Bool :=
  decide (zoneTemp s z < (s.zones.get z).activeSetpoint - s.settings.hysteresis)

/-- R52: above the active setpoint plus the margin, or above the fixed limit of 220.0 °C. -/
def overCeiling (s : State) (z : Zone) : Bool :=
  decide ((s.zones.get z).activeSetpoint + s.settings.overtempMargin < zoneTemp s z) || decide (2200 < zoneTemp s z)

/-- The heating modes (R41). -/
def heatingMode : Mode → Bool
  | .preheat | .ready | .paving | .paused | .standby => true
  | .starting | .parked => false

/-! ### Budget (chapter 4) -/

/-- R65: the total rating of the zones in the grant list. -/
def grantedSum (s : State) : Nat := (s.grants.map fun g => (s.settings.zones.get g.zone).rating).sum

/-- R65: the limit minus the granted sum. -/
def freePower (s : State) : Int := (s.settings.generatorLimit : Int) - grantedSum s

/-- The zone holds a grant. -/
def granted (s : State) (z : Zone) : Bool := s.grants.any fun g => decide (g.zone = z)

/-! ### Sensor slots and sides (chapters 5 and 6) -/

/-- R78: address 1 to 30 and weight 1 to 4. -/
def gradeUsed (f : Settings) (d : Side) (k : GradePlace) : Bool :=
  let c := (f.gradeSlots.get d).get k
  decide (1 ≤ c.address) && decide (c.address ≤ 30) && decide (1 ≤ c.weight) && decide (c.weight ≤ 4)

/-- R78: the slope slot's address is 1 to 30. -/
def slopeUsed (f : Settings) : Bool := decide (1 ≤ f.slopeSlot.address) && decide (f.slopeSlot.address ≤ 30)

def slotUsed (f : Settings) : Slot → Bool
  | .grade d k => gradeUsed f d k
  | .slope => slopeUsed f

def slotAddress (f : Settings) : Slot → Nat
  | .grade d k => ((f.gradeSlots.get d).get k).address
  | .slope => f.slopeSlot.address

/-- The used grade slots of a side, in slot order. -/
def usedPlaces (f : Settings) (d : Side) : List GradePlace := allPlaces.filter (gradeUsed f d)

/-- The number of used slots of the table (R88). -/
def usedSlotCount (f : Settings) : Nat := (allSlots.filter (slotUsed f)).length

/-- R91: the side's used slots with a valid reference. -/
def refValidCount (s : State) (d : Side) : Nat :=
  ((usedPlaces s.settings d).filter fun k => ((s.gradeSlots.get d).get k).refValid).length

/-- The side's used grade slots whose class is VALID (R86, R97). A slot made unused in mid-round is not counted, though its class reads VALID
until the next round (assumption 39). -/
def validPlaces (s : State) (d : Side) : List GradePlace :=
  (usedPlaces s.settings d).filter fun k => decide (((s.gradeSlots.get d).get k).cls = .valid)

/-- R103: AUTO, SUSPENDED or HOLD. -/
def sideEngaged : SideState → Bool
  | .auto | .suspended | .hold => true
  | .off | .manual | .referencing => false

/-- R103: PAVING with the speed greater than 0. -/
def runCondition (s : State) : Bool := decide (s.mode = .paving) && decide (0 < s.travel.speed)

/-! ### Feed (chapter 7) -/

def feedLevel (s : State) (c : FeedChannel) : Int := (s.analog.level.get c).value

def feedFault (s : State) (c : FeedChannel) : Bool := (s.analog.level.get c).fault

/-- R118: AUTO, SUSPENDED, HOLD_LAST or SENSOR_HOLD. -/
def feedEngaged : FeedState → Bool
  | .auto | .suspended | .holdLast | .sensorHold => true
  | .off | .manual => false

/-- R120: some channel is HOLD_LAST or SENSOR_HOLD. -/
def feedHolding (s : State) : Bool :=
  allFeed.any fun c => decide ((s.feed.get c).state = .holdLast) || decide ((s.feed.get c).state = .sensorHold)

/-! ### Conditions (R173, R135) -/

/-- R32: either side is stale. -/
def geometryStale (s : State) : Bool := s.geometry.left.stale || s.geometry.right.stale

/-- R12: PAVING or PAUSED without readiness. -/
def readinessLost (s : State) : Bool :=
  (decide (s.mode = .paving) || decide (s.mode = .paused)) && !s.readiness

def sideHolds (s : State) (d : Side) : Bool := decide ((s.sides.get d).state = .hold)

/-- R135: the interval conditions standing now. -/
def standingFlags (s : State) : IntervalFlags where
  afterPause := decide (s.mode ≠ .paving)
  levelHoldL := sideHolds s .left
  levelHoldR := sideHolds s .right
  feedHold := feedHolding s
  geometryStale := geometryStale s
  readinessLost := readinessLost s

/-- The interval flags with every standing condition's flag set (R135); a set flag stays set. -/
def joinFlags (f g : IntervalFlags) : IntervalFlags where
  afterPause := f.afterPause || g.afterPause
  levelHoldL := f.levelHoldL || g.levelHoldL
  levelHoldR := f.levelHoldR || g.levelHoldR
  feedHold := f.feedHold || g.feedHold
  geometryStale := f.geometryStale || g.geometryStale
  readinessLost := f.readinessLost || g.readinessLost

/-- R135: a condition has arisen; the interval takes the flags of the conditions that stand. -/
def raiseFlags (s : State) : State :=
  setProfiler { s.profiler with flags := joinFlags s.profiler.flags (standingFlags s) } s

/-- The capacity of an area: the MAT capacity, or 2048 minus it (R145). -/
def capacityOf (s : State) : AreaId → Nat
  | .mat => s.settings.matCapacity
  | .event => 2048 - s.settings.matCapacity

/-- R146: the sequence number of the oldest held record; newest + 1 while the area is empty. -/
def oldestOf {α : Type} (a : Area α) : Nat := a.newest + 1 - a.held.length

/-- R146: newest minus the ack point. -/
def unacked {α : Type} (a : Area α) : Nat := a.newest - a.ackPoint

/-- R150, for one area. -/
def nearFull {α : Type} (a : Area α) (capacity : Nat) : Bool := decide (capacity * 9 ≤ unacked a * 10)

/-- R150, for one area. -/
def lossStands {α : Type} (a : Area α) : Bool := decide (a.lostAtAck < a.lost)

/-- The alarm conditions, in the order of R173. -/
inductive Alarm where
  | zoneFault | overtemp | sideHold | feedHold | sensorLink | scanner | recordNearFull | recordLoss | settingsDefaulted
  | geometryStale | readinessLost
deriving DecidableEq, Repr

def allAlarms : List Alarm :=
  [.zoneFault, .overtemp, .sideHold, .feedHold, .sensorLink, .scanner, .recordNearFull, .recordLoss, .settingsDefaulted,
   .geometryStale, .readinessLost]

/-- R173: whether an alarm condition stands. -/
def alarmStands (s : State) : Alarm → Bool
  | .zoneFault => allZones.any fun z => decide ((s.zones.get z).state = .fault) || (s.zones.get z).latch
  | .overtemp => allZones.any fun z => decide ((s.zones.get z).state = .overtemp)
  | .sideHold => sideHolds s .left || sideHolds s .right
  | .feedHold => feedHolding s
  | .sensorLink => decide (s.sensors.staleRounds = 10)
  | .scanner => s.profiler.scanner
  | .recordNearFull => nearFull s.mat (capacityOf s .mat) || nearFull s.events (capacityOf s .event)
  | .recordLoss => lossStands s.mat || lossStands s.events
  | .settingsDefaulted => s.store.defaulted
  | .geometryStale => geometryStale s
  | .readinessLost => readinessLost s

/-- The standing alarm conditions, each once, in order (R173). -/
def standingAlarms (s : State) : List Alarm := allAlarms.filter (alarmStands s)

/-! ### Digital inputs (R177) -/

/-- What a level mode makes of a debounced level; an edge mode gives no level, and the input is then inactive. -/
def levelActive : DetectMode → Bool → Bool
  | .levelHigh, level => level
  | .levelLow, level => !level
  | _, _ => false

/-- The input is active. -/
def inputActive (s : State) (i : DigitalInput) : Bool :=
  levelActive (s.settings.inputs.get i).mode (s.inputs.get i).debounced

/-- Whether a change of the debounced level to `level` gives one edge (R177). -/
def edgeSeen : DetectMode → Bool → Bool
  | .rising, level => level
  | .falling, level => !level
  | .both, _ => true
  | _, _ => false

/-- The e-stop input's view of a debounced level: LEVEL_LOW, fixed (section 11.2). -/
def estopActive (level : Bool) : Bool := !level

/-! ### Outputs (R179) -/

/-- The commanded value of an output: a duty in permille, or 1 for on and 0 for off, set by its owning block's rule. -/
def commanded (s : State) : Output → Int
  | .gradeUp d => if (s.sides.get d).dir = .up then (s.sides.get d).duty else 0
  | .gradeDown d => if (s.sides.get d).dir = .down then (s.sides.get d).duty else 0
  | .feed c => (s.feed.get c).duty
  | .widthIn d => if (s.geometry.get d).jogDir = .inward then 1 else 0
  | .widthOut d => if (s.geometry.get d).jogDir = .outward then 1 else 0
  | .contactor z => if (s.zones.get z).state = .heating then 1 else 0
  | .travelPermit => if (s.mode = .paving ∨ s.mode = .paused) ∧ s.estop = false then 1 else 0
  | .genLoad => if s.grants = [] then 0 else 1
  | .alarm => if standingAlarms s = [] then 0 else 1

/-- The driven value: the commanded value, forced to 0 or off in STARTING and while the e-stop latch is active (R179). -/
def driven (s : State) (o : Output) : Int :=
  if s.mode = .starting ∨ s.estop = true then 0 else commanded s o

/-- Whether an output is PWM (section 11.3). -/
def isPwm : Output → Bool
  | .gradeUp _ | .gradeDown _ | .feed _ => true
  | _ => false

/-- The share of each 5 ms period, in permille, for which the output's pin stands high (R179). -/
def pinHighShare (s : State) (o : Output) : Int :=
  let share := if isPwm o then driven s o else 1000 * driven s o
  match s.settings.polarity.get o with
  | .activeHigh => share
  | .activeLow => 1000 - share

end Sys2Proof.Machine
end

