-- ==== Sys2Proof/Machine/Timers.lean ====
section
/-! DEFINITION. The moments that time brings: for each timed command, whether the counter behind it has reached its time. The command acts
at that moment and changes nothing before it (assumption 8), so an event that restarts or ends the counter, taken first, keeps the command
from acting. Machine/Time.lean moves the counters. -/

namespace Sys2Proof.Machine

open Sys2Proof

/-- A timed command: it acts where its counter has reached its time. -/
def atMoment (reached : Bool) (act : State → State) (s : State) : State := if reached then act s else s

/-- A remaining time in 0.1 s has run out: its last tenth has run its 100 ms. -/
def tenthsEnd (left ms : Nat) : Bool := decide (left = 1) && decide (100 ≤ ms)

/-- R161, R185: more than 2 ms have passed within a frame: in whole milliseconds, the third since its last byte (assumption 43). -/
def gapReached : Receiver → Bool
  | .hunting => false
  | .inFrame _ gap => decide (3 ≤ gap)

/-- R162: an UP link has been silent for 500 ms. -/
def silenceReached (s : State) (p : Port) : Bool := (s.ports.get p).up && decide (500 ≤ (s.ports.get p).silence)

/-- R177: a debounce timer has run out. -/
def debounceReached (s : State) (i : DigitalInput) : Bool := decide ((s.inputs.get i).timer = some 0)

/-- R29: a sixteenth of a second, which is 125 half milliseconds. -/
def sixteenthReached (s : State) : Bool := decide (125 ≤ s.clockPhase)

/-- R24: the speed window has run 250 ms. -/
def windowReached (s : State) : Bool := decide (250 ≤ s.travel.windowMs)

/-- R25: 1.0 s in PAVING since the later of the last counted edge and the entry. -/
def pauseReached (s : State) : Bool := decide (s.mode = .paving) && decide (1000 ≤ s.travel.pauseMs)

/-- The compare value of a standby delay code, in seconds; 0 for code 0, which never matches (section 2.4). -/
def compareOf (code : Nat) : Nat := if code ≤ 120 then code * 5 else 600 + (code - 120) * 60

/-- R28: the stop timer runs and its elapsed count has reached the compare value; code 0 never matches. -/
def matchReached (s : State) : Bool :=
  decide (s.travel.stop.state = .running) && decide (s.travel.stop.codeInForce ≠ 0)
    && decide (compareOf s.travel.stop.codeInForce ≤ s.travel.stop.elapsed)

/-- R36, R111, R127: the remaining time of a jog has run out. -/
def widthJogReached (s : State) (d : Side) : Bool := tenthsEnd (s.geometry.get d).jogLeft (s.geometry.get d).jogMs

def gradeJogReached (s : State) (d : Side) : Bool := tenthsEnd (s.sides.get d).jogLeft (s.sides.get d).jogMs

def feedJogReached (s : State) (c : FeedChannel) : Bool := tenthsEnd (s.feed.get c).jogLeft (s.feed.get c).jogMs

/-- R55: a HEATING zone's check has been in DELAY for 2.0 s. -/
def checkReached (s : State) (z : Zone) : Bool :=
  decide ((s.zones.get z).state = .heating) && decide ((s.zones.get z).check = .delay) && decide (2000 ≤ (s.zones.get z).checkMs)

/-- R68: the slice elapsed of the zone's grant has reached the rotation slice. -/
def sliceReached (s : State) (z : Zone) : Bool :=
  s.grants.any fun g => decide (g.zone = z) && decide (s.settings.rotationSlice ≤ g.elapsed)

/-- R75: the sixtieth second of granted time has run. -/
def minuteReached (s : State) (z : Zone) : Bool :=
  decide (59 ≤ (s.health.get z).seconds) && decide (1000 ≤ (s.health.get z).subMs)

/-- R80: outside STARTING, 40 ms have passed since the start of the latest round. -/
def roundReached (s : State) : Bool := decide (s.mode ≠ .starting) && decide (40 ≤ s.sensors.sinceStart)

/-- R81: the poll has been waited on for 3 ms. -/
def pollReached (s : State) : Bool :=
  match s.sensors.round with
  | none => false
  | some r => decide (3 ≤ r.waited)

/-- R119: the hold time of a HOLD_LAST channel has run out. -/
def holdReached (s : State) (c : FeedChannel) : Bool :=
  decide ((s.feed.get c).state = .holdLast) && tenthsEnd (s.feed.get c).hold (s.feed.get c).holdMs

/-- R131: 2000 ms of line silence in PAVING, the condition not standing. -/
def scannerReached (s : State) : Bool :=
  decide (s.mode = .paving) && !s.profiler.scanner && decide (2000 ≤ s.profiler.lineSilence)

end Sys2Proof.Machine
end

