-- ==== Sys2Proof/Machine/Records.lean ====
section
/-! DEFINITION. The record memory (chapter 9): append, overwrite and loss, acknowledgment, the change of boundary, and the handing of
event records by every block. -/

namespace Sys2Proof.Machine

open Sys2Proof

variable {α : Type}

/-- The area takes no further append (R147). -/
def areaExhausted (a : Area α) : Bool := decide (top32 ≤ a.newest)

/-- The append finds the area full and its oldest record unacknowledged: the overwrite is a loss (R148). -/
def appendLoses (capacity : Nat) (a : Area α) : Bool :=
  decide (capacity ≤ a.held.length) && decide (a.ackPoint < oldestOf a)

/-- R147 and R148: append a record built from its sequence number. -/
def appendTo (capacity : Nat) (build : Nat → α) (a : Area α) : Area α :=
  if areaExhausted a then a
  else
    let record := build (a.newest + 1)
    if capacity ≤ a.held.length then
      { a with
        held := a.held.drop 1 ++ [record]
        newest := a.newest + 1
        appended := satInc top32 a.appended
        overwritten := satInc top32 a.overwritten
        lost := if appendLoses capacity a then satInc top32 a.lost else a.lost
        ackPoint := if appendLoses capacity a then oldestOf a else a.ackPoint }
    else
      { a with
        held := a.held ++ [record]
        newest := a.newest + 1
        appended := satInc top32 a.appended }

/-- An event record with the clock and the station value that stand now (R147, R158), but for its sequence number. -/
def stampEvent (s : State) (origin : Origin) (event : Event) (sequence : Nat) : EventRecord :=
  { sequence := sequence, clock := s.clock, station := s.travel.station, origin := origin, event := event }

/-- Hand an event record to the record memory. It is stamped with the clock and the station value that stand now (R147, R158); while
the memory is not open it is discarded (R147). -/
def appendEvent (origin : Origin) (event : Event) (s : State) : State :=
  if s.recordsOpen then
    { s with events := appendTo (capacityOf s .event) (stampEvent s origin event) s.events }
  else s

/-- R149: at the first loss of a run, the first lost takes the overwritten number and RECORDS_LOST is handed on. -/
def noteMatLoss (before : Area ProfileRecord) (s : State) : State :=
  if appendLoses (capacityOf s .mat) before && !areaExhausted before && s.mat.firstLost.isNone then
    appendEvent .recordMemory (.recordsLost (oldestOf before) (capacityOf s .mat))
      { s with mat := { s.mat with firstLost := some (oldestOf before) } }
  else s

/-- Hand a profile record to the record memory (R147, R149). -/
def appendProfile (build : Nat → ProfileRecord) (s : State) : State :=
  if s.recordsOpen then
    noteMatLoss s.mat { s with mat := appendTo (capacityOf s .mat) build s.mat }
  else s

/-- R153: the ack point moves up to an acknowledged number, and the lost at last ack takes the lost count. -/
def ackArea (sequence : Nat) (a : Area α) : Area α :=
  { a with ackPoint := max a.ackPoint sequence, lostAtAck := a.lost }

/-- R149: a MAT loss run ends when the unacknowledged count is below the capacity. -/
def endLossRun (capacity : Nat) (a : Area α) : Area α :=
  if unacked a < capacity then { a with firstLost := none } else a

/-- R155: every record discarded, the counts zeroed, the numbering kept. -/
def clearArea (a : Area α) : Area α :=
  { held := [], newest := a.newest, ackPoint := a.newest, appended := 0, overwritten := 0, lost := 0, lostAtAck := 0
    firstLost := none }

/-- R151: the held records from a sequence number onward, at most `count`. -/
def readFrom (a : Area α) (first count : Nat) : List α := (a.held.drop (first - oldestOf a)).take count

end Sys2Proof.Machine
end

