-- ==== Sys2Proof/Machine/Wire.lean ====
section
/-! DEFINITION. The byte layouts of Frame and Record Formats (chapter 12): the codes of the enumerated values, item fields, event and
profile records, the STATUS payload, reply frames and poll frames. -/

namespace Sys2Proof.Machine

open Sys2Proof

/-! ### Codes: an enumerated value is carried as its position in the list that specifies it (R184) -/

def portCode : Port → Nat
  | .oc => 0 | .ls => 1 | .rs => 2 | .ru => 3

def sideCode : Side → Nat
  | .left => 0 | .right => 1

def zoneCode : Zone → Nat
  | .ml => 0 | .mr => 1 | .el => 2 | .er => 3 | .bl => 4 | .br => 5 | .tl => 6 | .tr => 7

def feedCode : FeedChannel → Nat
  | .convL => 0 | .convR => 1 | .augL => 2 | .augR => 3

def placeCode : GradePlace → Nat
  | .g1 => 0 | .g2 => 1 | .g3 => 2 | .g4 => 3

/-- The slot numbers of section 5.1. -/
def slotCode : Slot → Nat
  | .grade d k => 4 * sideCode d + placeCode k
  | .slope => 8

def modeCode : Mode → Nat
  | .starting => 0 | .parked => 1 | .preheat => 2 | .ready => 3 | .paving => 4 | .paused => 5 | .standby => 6

def causeCode : ModeCause → Nat
  | .request => 0 | .readiness => 1 | .pause => 2 | .resume => 3 | .timer => 4 | .eStop => 5 | .authorityLoss => 6 | .start => 7

def functionCode : Function → Nat
  | .mode => 0 | .heat => 1 | .grade d => 2 + sideCode d | .feed d => 4 + sideCode d | .width d => 6 + sideCode d | .records => 8

def statusCode : Status → Nat
  | .ok => 0 | .okClamped => 1 | .partialOk => 2 | .busy => 3 | .notReady => 4 | .state => 5 | .notPermitted => 6 | .notHolder => 7
  | .held => 8 | .range => 9 | .config => 10 | .gone => 11 | .full => 12 | .unknown => 13

def stopCode : StopState → Nat
  | .idle => 0 | .running => 1 | .matched => 2

def widthDirCode : WidthDir → Nat
  | .none => 0 | .inward => 1 | .outward => 2

def widthEndCode : WidthEnd → Nat
  | .none => 0 | .expiry => 1 | .limit => 2 | .fault => 3 | .authority => 4 | .eStop => 5 | .replaced => 6

def zoneStateCode : ZoneState → Nat
  | .off => 0 | .satisfied => 1 | .waiting => 2 | .heating => 3 | .fault => 4 | .overtemp => 5

def faultKindCode : FaultKind → Nat
  | .none => 0 | .sensor => 1 | .element => 2

def activeSetCode : ActiveSet → Nat
  | .none => 0 | .pave => 1 | .hold => 2

def checkCode : ElementCheck → Nat
  | .idle => 0 | .delay => 1 | .watch => 2

def healthFaultCode : HealthFault → Nat
  | .none => 0 | .sensor => 1 | .element => 2 | .overtemp => 3

def classCode : SlotClass → Nat
  | .none => 0 | .unused => 1 | .stale => 2 | .invalid => 3 | .noRef => 4 | .excluded => 5 | .valid => 6

def refKindCode : RefKind → Nat
  | .grade => 0 | .slope => 1

def sideStateCode : SideState → Nat
  | .off => 0 | .manual => 1 | .auto => 2 | .suspended => 3 | .hold => 4 | .referencing => 5

def verdictCode : Verdict → Nat
  | .good => 0 | .short => 1

def gainCode : GainSet → Nat
  | .a => 0 | .b => 1

def gradeDirCode : GradeDir → Nat
  | .none => 0 | .up => 1 | .down => 2

def gradeEndCode : GradeEnd → Nat
  | .none => 0 | .expiry => 1 | .replaced => 2 | .sideMode => 3 | .authority => 4 | .parked => 5 | .eStop => 6

def feedStateCode : FeedState → Nat
  | .off => 0 | .manual => 1 | .auto => 2 | .suspended => 3 | .holdLast => 4 | .sensorHold => 5

def feedEndCode : FeedEnd → Nat
  | .none => 0 | .expiry => 1 | .replaced => 2 | .feedMode => 3 | .authority => 4 | .parked => 5 | .eStop => 6 | .standby => 7

def layerCode : Layer → Nat
  | .base => 0 | .binder => 1 | .surface => 2

def detectCode : DetectMode → Nat
  | .levelHigh => 0 | .levelLow => 1 | .rising => 2 | .falling => 3 | .both => 4

def polarityCode : Polarity → Nat
  | .activeHigh => 0 | .activeLow => 1

def storeOutcomeCode : StoreOutcome → Nat
  | .none => 0 | .ok => 1 | .failed => 2

def loadOutcomeCode : LoadOutcome → Nat
  | .good => 0 | .defaulted => 1

def alarmCode : Alarm → Nat
  | .zoneFault => 0 | .overtemp => 1 | .sideHold => 2 | .feedHold => 3 | .sensorLink => 4 | .scanner => 5 | .recordNearFull => 6
  | .recordLoss => 7 | .settingsDefaulted => 8 | .geometryStale => 9 | .readinessLost => 10

def originCode : Origin → Nat
  | .port p => portCode p
  | .modeController => 16 | .authorityTable => 17 | .travelUnit => 18 | .geometryUnit => 19 | .heating => 20 | .allocator => 21
  | .levelling => 22 | .feed => 23 | .profiler => 24 | .recordMemory => 25 | .fieldUnit => 26 | .settingsStore => 27

/-- A two-valued item lists its values in order, so the first listed is carried as 0 (assumption 5, DEDUCED): `first` says that the
first listed value holds. -/
def pairCode (first : Bool) : Nat := if first then 0 else 1

/-- A holder: its port number, or 0xFF for none (R184). -/
def holderByte (h : Option Port) : List Byte :=
  match h with
  | some p => u8 (portCode p)
  | none => [0xFF]

/-- A 4-byte sequence number; one above 32 bits is a free value (assumption 2). -/
def sequenceField (n : Nat) : List Byte :=
  if n ≤ top32 then u32 n else u32 (Config.oversizeSequence n).toNat

/-- The mask of the functions a port holds (R184). -/
def functionMask (a : Authority) (p : Port) : Nat :=
  (allFunctions.map fun f => if holderOf a f = some p then 2 ^ functionCode f else 0).sum

/-- The mask of the six interval flags (section 12.4, bits 0 to 5). -/
def flagMask (f : IntervalFlags) : Nat :=
  (if f.afterPause then 1 else 0) + (if f.levelHoldL then 2 else 0) + (if f.levelHoldR then 4 else 0)
    + (if f.feedHold then 8 else 0) + (if f.geometryStale then 16 else 0) + (if f.readinessLost then 32 else 0)

/-! ### Item fields: eight bytes, unused bytes 0 (R184) -/

/-- Bytes in an 8-byte item field. -/
def field (bs : List Byte) : List Byte := (bs ++ List.replicate 8 0).take 8

/-- A number in bytes 0 to 3. -/
def numField (v : Int) : List Byte := field (i32 v)

def natField (n : Nat) : List Byte := field (u32 n)

/-- NONE, every byte 0xFF. -/
def noneField : List Byte := List.replicate 8 0xFF

def clockBytes (c : ClockValue) : List Byte :=
  u16 c.day.toNat ++ u8 c.hour.toNat ++ u8 c.minute.toNat ++ u8 c.second.toNat ++ u8 c.sixteenth.toNat

def clockField (c : ClockValue) : List Byte := field (clockBytes c)

/-- A mark slot: code and port, both 0 when the slot is unused (R142). -/
def markSlot (m : Option MatMark) : List Byte :=
  match m with
  | some m => [m.code] ++ u8 (portCode m.port)
  | none => [0, 0]

/-- The mark count and the two mark slots. -/
def markBytes (marks : List MatMark) : List Byte :=
  u8 marks.length ++ markSlot marks[0]? ++ markSlot marks[1]?

/-! ### Event records (section 12.5) -/

/-- The kind byte: the position in the table of R158. -/
def eventKind : Event → Nat
  | .modeChanged .. => 0 | .settings .. => 1 | .jobStarted .. => 2 | .readinessLost .. => 3 | .standbyEntered .. => 4
  | .clockSet .. => 5 | .geometryStale .. => 6 | .zoneFault .. => 7 | .zoneOvertemp .. => 8 | .zoneCleared .. => 9
  | .healthCleared .. => 10 | .sensorLink .. => 11 | .referenceSet .. => 12 | .sideHold .. => 13 | .sideResumed .. => 14
  | .feedHold .. => 15 | .feedResumed .. => 16 | .scanner .. => 17 | .authority .. => 18 | .recordsLost .. => 19
  | .areasCleared .. => 20

/-- The set of grade slots of a side, bit k for slot k. -/
def placeMask (ks : List GradePlace) : Nat :=
  (allPlaces.map fun k => if k ∈ ks then 2 ^ placeCode k else 0).sum

/-- The detail values, in the widths of section 12.5. -/
def eventDetails : Event → List Byte
  | .modeChanged before after cause => u8 (modeCode before) ++ u8 (modeCode after) ++ u8 (causeCode cause)
  | .settings .defaulted => u8 0
  | .settings .storeFailed => u8 1
  | .jobStarted job lane layer start => u16 job ++ u8 (lane + 16 * layerCode layer) ++ i32 start
  | .readinessLost failing first state => u8 failing ++ u8 (zoneCode first) ++ u8 (zoneStateCode state)
  | .standbyEntered code compare highWater => u8 code ++ u16 compare ++ i32 highWater
  | .clockSet old => clockBytes old
  | .geometryStale side position station => u8 (sideCode side) ++ i16 position ++ i32 station
  | .zoneFault zone kind temp => u8 (zoneCode zone) ++ u8 (faultKindCode kind) ++ i16 temp
  | .zoneOvertemp zone temp setpoint => u8 (zoneCode zone) ++ i16 temp ++ i16 setpoint
  | .zoneCleared zone temp => u8 (zoneCode zone) ++ i16 temp
  | .healthCleared (some zone) => u8 (zoneCode zone)
  | .healthCleared none => u8 8
  | .sensorLink used round => u8 used ++ u16 round
  | .referenceSet side count places => u8 (sideCode side) ++ u8 count ++ u8 (placeMask places)
  | .sideHold side (.validCount n) => u8 (sideCode side) ++ u8 (refKindCode .grade) ++ u8 n
  | .sideHold side (.slopeClass c) => u8 (sideCode side) ++ u8 (refKindCode .slope) ++ u8 (classCode c)
  | .sideResumed side validCount error => u8 (sideCode side) ++ u8 validCount ++ i16 error
  | .feedHold channel level duty => u8 (feedCode channel) ++ i16 level ++ i16 duty
  | .feedResumed channel level duty => u8 (feedCode channel) ++ i16 level ++ i16 duty
  | .scanner counter silence highWater => u16 counter ++ u16 silence ++ i32 highWater
  | .authority function .override previous => u8 (functionCode function) ++ u8 0 ++ u8 (portCode previous)
  | .authority function .loss previous => u8 (functionCode function) ++ u8 1 ++ u8 (portCode previous)
  | .recordsLost firstLost capacity => u32 firstLost ++ u16 capacity
  | .areasCleared matNewest eventNewest capacity => u32 matNewest ++ u16 eventNewest ++ u16 capacity

/-- An event record, 24 bytes. -/
def eventBytes (r : EventRecord) : List Byte :=
  u32 r.sequence ++ clockBytes r.clock ++ i32 r.station ++ u8 (eventKind r.event) ++ u8 (originCode r.origin)
    ++ field (eventDetails r.event)

/-! ### Profile records (section 12.4) -/

def perSideBytes {α : Type} (f : α → List Byte) (v : PerSide α) : List Byte := f v.left ++ f v.right

def perFeedBytes {α : Type} (f : α → List Byte) (v : PerFeed α) : List Byte :=
  f v.convL ++ f v.convR ++ f v.augL ++ f v.augR

def perZoneBytes {α : Type} (f : α → List Byte) (v : PerZone α) : List Byte :=
  f v.ml ++ f v.mr ++ f v.el ++ f v.er ++ f v.bl ++ f v.br ++ f v.tl ++ f v.tr

/-- A profile record, 60 bytes and 2 for each segment. -/
def profileBytes (r : ProfileRecord) : List Byte :=
  u32 r.sequence ++ u16 r.job ++ i32 r.station ++ clockBytes r.clock
    ++ i16 r.width ++ i16 r.xL ++ u16 r.flags ++ u8 r.lines
    ++ u16 r.matMin ++ u16 r.matMax ++ u16 r.matMean ++ u8 r.cold
    ++ perSideBytes i16 r.errors ++ perSideBytes (fun x => u8 (sideStateCode x)) r.sideStates
    ++ perFeedBytes i16 r.levels ++ perZoneBytes (fun x => u8 (zoneStateCode x)) r.zoneStates
    ++ i16 r.speed ++ markBytes r.marks ++ u8 r.segments.length ++ (r.segments.map u16).flatten

/-! ### STATUS payload (section 12.3) -/

def boolByte (b : Bool) : List Byte := if b then [1] else [0]

/-- The payload of the STATUS reply to a port (R173). -/
def statusPayload (s : State) (p : Port) : List Byte :=
  u8 (modeCode s.mode) ++ boolByte s.pavePending ++ boolByte s.readiness ++ boolByte s.estop
    ++ (allFunctions.map fun f => holderByte (holderOf s.authority f)).flatten
    ++ u16 (functionMask s.authority p)
    ++ u8 (standingAlarms s).length ++ ((standingAlarms s).map fun a => u8 (alarmCode a)).flatten
    ++ u32 (unacked s.mat) ++ u32 (unacked s.events) ++ u32 s.mat.newest ++ u32 s.events.newest

/-! ### Frames on the lines -/

/-- The byte that makes the 8-bit sum with `bs` zero (section 12.1). -/
def checkByte (bs : List Byte) : Byte := -(byteSum bs)

/-- A reply frame as it stands on the line (section 12.1). -/
def replyFrame (r : Reply) : List Byte :=
  let body := u16 (3 + r.payload.length) ++ [r.kind, r.tag] ++ u8 (statusCode r.status) ++ r.payload
  [0xA5] ++ body ++ [checkByte body]

/-- A request frame as a station sends it (section 12.1). -/
def requestFrame (kind tag : Byte) (payload : List Byte) : List Byte :=
  let body := u16 (2 + payload.length) ++ [kind, tag] ++ payload
  [0xA5] ++ body ++ [checkByte body]

/-- The poll the WK620 sends to an address (section 12.6). -/
def pollFrame (address : Nat) : List Byte :=
  let body := [0x01] ++ u8 address
  [0xC3] ++ body ++ [checkByte body]

/-! ### The settings image's check value (R180) -/

/-- The 16-bit sum, wrapping, of every byte of the image before it. -/
def imageCheck (image : SettingsImage) : Half :=
  (Config.imageBytes image).foldl (fun acc b => acc + b.setWidth 16) 0

end Sys2Proof.Machine
end

