-- ==== Sys2Proof/Machine/Ports.lean ====
section
/-! DEFINITION. A station port's link, its transmitter and its BUSY queue (R160 to R164), apart from the serving of requests
(Machine/Links.lean). -/

namespace Sys2Proof.Machine

open Sys2Proof

/-- What an owning block answers: a status and a payload. A request whose status is neither OK, OK_CLAMPED nor PARTIAL carries a
payload only where R184 says so. -/
structure Answer where
  status  : Status
  payload : List Byte := []
deriving DecidableEq, Repr

/-- The state after a request is served, with the answer, or none while a delayed request is in flight (R163). -/
abbrev Served := State × Option Answer

/-- The request is refused: nothing changes, and the status is answered (R174). -/
def refuse (status : Status) (s : State) : Served := (s, some { status := status })

/-- The request is done. -/
def done (payload : List Byte) (s : State) : Served := (s, some { status := .ok, payload := payload })

/-- The BUSY queue of R160: the BUSY replies that wait for the transmitter. -/
def busyQueue (r : PortState) : List Reply := r.waiting.filter fun x => decide (x.status = .busy)

/-- Hand a reply to the port's transmitter: it is sent at once when the transmitter is free, and waits its turn otherwise (R163). -/
def transmit (reply : Reply) (r : PortState) : PortState :=
  match r.sending with
  | none => { r with sending := some reply }
  | some _ => { r with waiting := r.waiting ++ [reply] }

/-- A reply's KIND byte: the request's with its top bit set (R163). -/
def replyKind (kind : Byte) : Byte := kind ||| 0x80

/-- The reply of the port's in-flight request, with its KIND and TAG (R163). -/
def answerPort (p : Port) (a : Answer) (s : State) : State :=
  let r := s.ports.get p
  match r.inFlight with
  | none => s
  | some f =>
    setPort p (transmit { kind := replyKind f.kind, tag := f.tag, status := a.status, payload := a.payload } r) s

/-- The answer of a served request goes to its port; a delayed request has none yet. -/
def deliver (p : Port) (served : Served) : State :=
  match served.2 with
  | none => served.1
  | some a => answerPort p a served.1

/-- R161: a discarded frame is counted. -/
def countError (r : PortState) : PortState := { r with frameErrors := satInc top16 r.frameErrors }

/-- R161: a discarded frame is counted, and nothing else of the port changes. -/
def countFrameError (p : Port) (s : State) : State := setPort p (countError (s.ports.get p)) s

/-- R161: a frame that a gap has ended is discarded and counted, and the receiver hunts. -/
def dropFrame (r : PortState) : PortState :=
  match r.receiver with
  | .hunting => r
  | .inFrame _ _ => countError { r with receiver := .hunting }

/-- R161: the frame on a port is discarded at the end of a gap. -/
def endFrame (p : Port) (s : State) : State := setPort p (dropFrame (s.ports.get p)) s

/-- R161, R162: a port has received a good frame whole. Such a frame begins while the receiver hunts, so a frame the receiver was in has been
ended by a gap (assumption 35). The silence time becomes 0 and the link UP. -/
def heardBy (r : PortState) : PortState := { dropFrame r with silence := 0, up := true }

/-- R161, R162: a good frame on a port. -/
def hearFrame (p : Port) (s : State) : State := setPort p (heardBy (s.ports.get p)) s

/-- R163 case 1: BUSY with the frame's own KIND and TAG, or a discard counted as a frame error when the BUSY queue is full. -/
def answerBusy (p : Port) (kind tag : Byte) (s : State) : State :=
  let r := s.ports.get p
  if (busyQueue r).length < 4 then
    setPort p (transmit { kind := replyKind kind, tag := tag, status := .busy, payload := [] } r) s
  else countFrameError p s

/-- The port takes a request in flight (R163). -/
def openRequest (p : Port) (kind tag : Byte) (s : State) : State :=
  setPort p { s.ports.get p with inFlight := some { kind := kind, tag := tag } } s

/-- R163: the reply on the transmitter has gone. Its own reply ends the in-flight request, a BUSY reply does not, and the next waiting
reply begins. -/
def finishReply (r : PortState) : PortState :=
  match r.sending with
  | none => r
  | some sent =>
    { r with
      sending := r.waiting.head?
      waiting := r.waiting.tail
      inFlight := if sent.status = .busy then r.inFlight else none }

/-- A jog duration byte, in 0.1 s, held within 1 to `top` (R34, R110, R126). -/
def jogDuration (top : Nat) (b : Byte) : Nat := max 1 (min top b.toNat)

/-- OK, or OK_CLAMPED when the duration was held at a bound. -/
def jogStatus (top : Nat) (b : Byte) : Status :=
  if jogDuration top b = b.toNat then .ok else .okClamped

end Sys2Proof.Machine
end

