-- ==== Sys2Proof/Machine/Levelling.lean ====
section
/-! DEFINITION. The levelling controller (chapters 5 and 6): sensor rounds, the judging of readings, reference capture, the round-end
evaluation, the engaged states, grade jogs and the requests SIDE_MODE, SET_REFERENCE and JOG with a grade target. -/

namespace Sys2Proof.Machine

open Sys2Proof

/-! ### Side states (R102, R103, R105) -/

/-- R103: the state an engaged side settles to. -/
def settledState (s : State) (d : Side) : SideState :=
  if runCondition s = false then .suspended
  else if (s.sides.get d).verdict = .short then .hold
  else .auto

/-- R105: the third detail of SIDE_HOLD. -/
def holdDetail (s : State) (d : Side) : HoldDetail :=
  match (s.settings.sides.get d).kind with
  | .grade => .validCount (s.sides.get d).validCount
  | .slope => .slopeClass (s.sides.get d).verdictClass

/-- R105: the valid count in SIDE_RESUMED, 0 for a side of kind SLOPE. -/
def resumedCount (s : State) (d : Side) : Nat :=
  match (s.settings.sides.get d).kind with
  | .grade => (s.sides.get d).validCount
  | .slope => 0

/-- The side takes a state with its valves off (R102), and the record that R105 calls for is appended. -/
def enterSideState (d : Side) (target : SideState) (s : State) : State :=
  let r := s.sides.get d
  let moved := setSide d { r with state := target, duty := 0, dir := .none } s
  if target = .hold ∧ r.state ≠ .hold then
    raiseFlags (appendEvent .levelling (.sideHold d (holdDetail s d)) moved)
  else if target = .auto ∧ r.state = .hold then
    appendEvent .levelling (.sideResumed d (resumedCount s d) r.error) moved
  else moved

/-- R103: an engaged side is settled; one already in the state it settles to is untouched. -/
def settleSide (d : Side) (s : State) : State :=
  let r := s.sides.get d
  if sideEngaged r.state = false ∨ r.state = settledState s d then s else enterSideState d (settledState s d) s

/-- R104: at a change of the run condition, both sides are settled, the left first (assumption 41). -/
def sidesSeeRun (before : Bool) (s : State) : State :=
  if runCondition s = before then s else settleSide .right (settleSide .left s)

/-! ### Grade jogs (R110, R111) -/

/-- R111: a running grade jog ends with a cause; without one nothing changes. -/
def endGradeJog (d : Side) (cause : GradeEnd) (s : State) : State :=
  let r := s.sides.get d
  if r.jogLeft = 0 then s
  else setSide d { r with duty := 0, dir := .none, jogLeft := 0, jogMs := 0, lastEnd := cause } s

/-- R110: a grade jog starts, replacing one that runs. -/
def startGradeJog (d : Side) (dir : GradeDir) (duration : Nat) (s : State) : State :=
  let ended := endGradeJog d .replaced s
  setSide d { ended.sides.get d with duty := 1000, dir := dir, jogLeft := duration, jogMs := 0 } ended

/-! ### Forcing (R108) -/

/-- R108: one side is forced OFF; a REFERENCING side stays so with its return state OFF. -/
def forceSideOff (cause : GradeEnd) (d : Side) (s : State) : State :=
  let ended := endGradeJog d cause s
  let r := ended.sides.get d
  if r.state = .referencing then setSide d { r with returnManual := false } ended
  else setSide d { r with state := .off, duty := 0, dir := .none } ended

/-- R108: both sides are forced OFF. -/
def forceSidesOff (cause : GradeEnd) (s : State) : State := forceSideOff cause .right (forceSideOff cause .left s)

/-! ### The round-end evaluation (R96 to R102) -/

/-- R97: the numerator and the denominator over the side's VALID slots. -/
def gradeSums (s : State) (d : Side) : Int × Nat :=
  let weight k := ((s.settings.gradeSlots.get d).get k).weight
  (((validPlaces s d).map fun k => (weight k : Int) * ((s.gradeSlots.get d).get k).deviation).sum,
   ((validPlaces s d).map weight).sum)

/-- R97, R98: the verdict of the round just ended. -/
def roundVerdict (s : State) (d : Side) : Verdict :=
  match (s.settings.sides.get d).kind with
  | .grade => if (s.settings.sides.get d).minValid ≤ (s.sides.get d).validCount then .good else .short
  | .slope => if s.slopeSlot.cls = .valid then .good else .short

/-- R97, R98: the combined deviation D of a GOOD round. -/
def combinedDeviation (s : State) (d : Side) : Int :=
  match (s.settings.sides.get d).kind with
  | .grade => divHalfAway (gradeSums s d).1 (gradeSums s d).2
  | .slope =>
    let e := s.slopeSlot.reading - (s.settings.sides.get d).slopeTarget
    match d with
    | .right => (e * s.settings.span).tdiv 1000
    | .left => (-e * s.settings.span).tdiv 1000

/-- R99: the error E. -/
def gradeError (s : State) (d : Side) (deviation : Int) : Int :=
  clamp (-9999) 9999 (deviation - (s.settings.sides.get d).gradeOffset)

/-- R100: the gain set by the speed as it stands. -/
def gainBySpeed (s : State) : GainSet := if s.settings.creep ≤ s.travel.speed then .a else .b

def gainOf (f : Settings) : GainSet → GainSettings
  | .a => f.gainA | .b => f.gainB

/-- R101: the duty of an error. -/
def gradeDuty (g : GainSettings) (e : Int) : Int :=
  if (e.natAbs : Int) ≤ g.deadband then 0
  else max g.minDuty (min 1000 ((((e.natAbs : Int) - g.deadband) * 1000).tdiv g.band))

/-- R101: the direction of an error. -/
def gradeDirection (g : GainSettings) (e : Int) : GradeDir :=
  if (e.natAbs : Int) ≤ g.deadband then .none else if 0 < e then .down else .up

/-- R96 steps 1 to 3: verdict, D, gain set and E. -/
def measureSide (d : Side) (s : State) : State :=
  let r := s.sides.get d
  let verdict := roundVerdict s d
  let deviation := if verdict = .good then combinedDeviation s d else r.deviation
  setSide d
    { r with
      verdict := verdict
      deviation := deviation
      gain := gainBySpeed s
      error := if verdict = .good then gradeError s d deviation else r.error
      verdictClass := s.slopeSlot.cls } s

/-- R96 step 5: the valves of a side in AUTO are driven. -/
def driveSide (d : Side) (s : State) : State :=
  let r := s.sides.get d
  let g := gainOf s.settings r.gain
  if r.state = .auto then setSide d { r with duty := gradeDuty g r.error, dir := gradeDirection g r.error } s else s

/-- R96: the evaluation of one side. -/
def evaluateSide (d : Side) (s : State) : State := driveSide d (settleSide d (measureSide d s))

/-! ### Judging a reading (R82, R83) -/

/-- A fresh reply: whether its status is READING (not NO_ECHO), and its 16-bit reading (R81). -/
structure FreshReply where
  measured : Bool
  reading  : Half
deriving DecidableEq, Repr

/-- R82: a grade slot's poll completes. -/
def judgeGrade (window : Int) (reply : Option FreshReply) (r : GradeSlotRec) : GradeSlotRec :=
  match reply with
  | none => { r with cls := .stale }
  | some f =>
    let v : Int := f.reading.toNat
    if f.measured = false ∨ 6000 < v then { r with cls := .invalid }
    else if r.refValid = false then { r with cls := .noRef, reading := v }
    else if window < ((v - r.reference).natAbs : Int) then
      { r with cls := .excluded, reading := v, deviation := v - r.reference }
    else { r with cls := .valid, reading := v, deviation := v - r.reference }

/-- R83: the slope slot's poll completes; its reading is signed (section 12.6). -/
def judgeSlope (reply : Option FreshReply) (r : SlopeSlotRec) : SlopeSlotRec :=
  match reply with
  | none => { r with cls := .stale }
  | some f =>
    let v : Int := f.reading.toInt
    if f.measured = false ∨ v < -1000 ∨ 1000 < v then { r with cls := .invalid } else { cls := .valid, reading := v }

/-- The slot whose poll completes is judged. -/
def judgeSlot (slot : Slot) (reply : Option FreshReply) (s : State) : State :=
  match slot with
  | .grade d k => setGradeSlot d k (judgeGrade s.settings.obstacleWindow reply ((s.gradeSlots.get d).get k)) s
  | .slope => { s with slopeSlot := judgeSlope reply s.slopeSlot }

/-! ### Reference capture (R91) -/

/-- R91: the slot had a fresh reading in range. -/
def capturable (c : SlotClass) : Bool := decide (c = .noRef) || decide (c = .excluded) || decide (c = .valid)

/-- R91: the slots a capture takes, in slot order. -/
def capturedPlaces (s : State) (d : Side) : List GradePlace :=
  (usedPlaces s.settings d).filter fun k => capturable ((s.gradeSlots.get d).get k).cls

/-- R91: one slot is captured. -/
def captureSlot (d : Side) (s : State) (k : GradePlace) : State :=
  let r := (s.gradeSlots.get d).get k
  setGradeSlot d k { r with reference := r.reading, refValid := true, deviation := 0, cls := .valid } s

/-- R91: the list of captured slots with their new references. -/
def captureList (s : State) (d : Side) (ks : List GradePlace) : List Byte :=
  (ks.map fun k => u8 (slotCode (.grade d k)) ++ i16 ((s.gradeSlots.get d).get k).reference).flatten

/-- R91: the side returns to its return state. -/
def returnSide (d : Side) (s : State) : State :=
  let r := s.sides.get d
  setSide d { r with state := if r.returnManual then .manual else .off, captureArmed := false } s

/-- R87 step 2 and R91: complete the capture of a side that was REFERENCING when the round began. -/
def completeCapture (d : Side) (s : State) : State :=
  let r := s.sides.get d
  if r.state = .referencing ∧ r.captureArmed then
    let ks := capturedPlaces s d
    let captured := returnSide d (ks.foldl (captureSlot d) s)
    if ks = [] then answerPort r.capturePort { status := .state, payload := u8 0 } captured
    else
      appendEvent (.port r.capturePort) (.referenceSet d ks.length ks)
        (answerPort r.capturePort { status := .ok, payload := u8 ks.length ++ captureList captured d ks } captured)
  else s

/-! ### Rounds (R80, R87, R88) -/

/-- R88: the stale round count after a round. -/
def staleAfter (fresh polled : Bool) (n : Nat) : Nat :=
  if fresh then 0 else if polled then min 10 (n + 1) else n

/-- R87 step 1, R88. The used slots that SENSOR_LINK gives are those of the settings as the round ends (assumption 40). -/
def watchLink (fresh polled : Bool) (s : State) : State :=
  let stale := staleAfter fresh polled s.sensors.staleRounds
  let count := (s.sensors.roundCount + 1) % 65536
  let counted := { s with sensors := { s.sensors with roundCount := count, staleRounds := stale, round := none } }
  if stale = 10 ∧ s.sensors.staleRounds ≠ 10 then
    appendEvent .levelling (.sensorLink (usedSlotCount s.settings) count) counted
  else counted

/-- R87 step 3: the side's valid count. -/
def countValid (d : Side) (s : State) : State :=
  setSide d { s.sides.get d with validCount := (validPlaces s d).length } s

/-- R87: the end of a round. -/
def endRound (fresh polled : Bool) (s : State) : State :=
  let captured := completeCapture .right (completeCapture .left (watchLink fresh polled s))
  evaluateSide .right (evaluateSide .left (countValid .right (countValid .left captured)))

/-- Send the poll of the first used slot of `slots`, or end the round when none is left (R80). A slot's use is judged as its turn comes
(assumption 38). -/
def pollNext (slots : List Slot) (fresh polled : Bool) (s : State) : State :=
  match slots.find? (slotUsed s.settings) with
  | some slot =>
    let round := { slot := slot, address := slotAddress s.settings slot, waited := 0, fresh := fresh, polled := polled }
    { s with sensors := { s.sensors with round := some round } }
  | none => endRound fresh polled s

/-- R78: an unused slot's class is UNUSED from the first round after it became unused. -/
def markUnused (s : State) : State :=
  let mark d k := let r := (s.gradeSlots.get d).get k
    if gradeUsed s.settings d k then r else { r with cls := .unused }
  { s with
    gradeSlots := ⟨⟨mark .left .g1, mark .left .g2, mark .left .g3, mark .left .g4⟩,
      ⟨mark .right .g1, mark .right .g2, mark .right .g3, mark .right .g4⟩⟩
    slopeSlot := if slopeUsed s.settings then s.slopeSlot else { s.slopeSlot with cls := .unused } }

/-- R87 step 2: note whether the side is REFERENCING as a round begins. -/
def armCapture (d : Side) (s : State) : State :=
  let r := s.sides.get d
  setSide d { r with captureArmed := decide (r.state = .referencing) } s

/-- R80: a round begins; none does in STARTING or while one runs. -/
def startRound (s : State) : State :=
  if s.mode = .starting ∨ s.sensors.round.isSome then s
  else
    let begun := armCapture .right (armCapture .left (markUnused s))
    pollNext allSlots false false { begun with sensors := { begun.sensors with sinceStart := 0 } }

/-- R81: the poll being waited on completes, with a fresh reply or without; the next poll is sent or the round ends. -/
def completePoll (reply : Option FreshReply) (s : State) : State :=
  match s.sensors.round with
  | none => s
  | some r =>
    let used := slotUsed s.settings r.slot
    let judged := if used then judgeSlot r.slot reply s else s
    pollNext (allSlots.drop (slotCode r.slot + 1)) (r.fresh || (used && reply.isSome)) (r.polled || used) judged

/-- R81: a poll reply with a good check; it is fresh from the awaited address with status READING or NO_ECHO, and discarded
otherwise. -/
def takePollReply (address status : Byte) (reading : Half) (s : State) : State :=
  match s.sensors.round with
  | none => s
  | some r =>
    if address.toNat = r.address ∧ status.toNat ≤ 1 then
      completePoll (some { measured := decide (status = 0), reading := reading }) s
    else s

/-! ### Requests (R89, R106, R107, R110) -/

/-- The side a request's byte names (R184). -/
def sideOfByte (b : Byte) : Option Side :=
  if b = 0 then some .left else if b = 1 then some .right else none

/-- The operations SIDE_MODE and FEED_MODE may ask for (R106, R122). -/
inductive OperationTarget where
  | off | manual | auto
deriving DecidableEq, Repr

/-- The target byte of SIDE_MODE and FEED_MODE (section 12.2). -/
def operationOfByte (b : Byte) : Option OperationTarget :=
  if b = 0 then some .off else if b = 1 then some .manual else if b = 2 then some .auto else none

/-- R106 step 5: the target is the side's present operation. -/
def sideOperates (st : SideState) : OperationTarget → Bool
  | .off => decide (st = .off)
  | .manual => decide (st = .manual)
  | .auto => sideEngaged st

/-- R107: the change of operation. -/
def changeSide (d : Side) (target : OperationTarget) (s : State) : State :=
  let ended := endGradeJog d .sideMode s
  match target with
  | .off => enterSideState d .off ended
  | .manual => enterSideState d .manual ended
  | .auto => enterSideState d (settledState ended d) ended

/-- R106: SIDE_MODE. -/
def serveSideMode (p : Port) (side target : Byte) (s : State) : Served :=
  match sideOfByte side, operationOfByte target with
  | some d, some t =>
    let r := s.sides.get d
    if holds s p (.grade d) = false then refuse .notHolder s
    else if r.state = .referencing then refuse .state s
    else if sideOperates r.state t then done (u8 (sideStateCode r.state)) s
    else if t ≠ .off ∧ s.estop then refuse .state s
    else if t = .auto ∧ (s.mode = .parked ∨ s.mode = .preheat ∨ s.mode = .ready ∨ s.mode = .standby) then refuse .state s
    else if t = .auto ∧ (s.settings.sides.get d).kind = .grade ∧ refValidCount s d < (s.settings.sides.get d).minValid then
      refuse .config s
    else
      let changed := changeSide d t s
      done (u8 (sideStateCode (changed.sides.get d).state)) changed
  | _, _ => refuse .unknown s

/-- R89: SET_REFERENCE; a STATE reply to it carries a count of 0 (R184). -/
def serveSetReference (p : Port) (side : Byte) (s : State) : Served :=
  match sideOfByte side with
  | none => refuse .unknown s
  | some d =>
    let r := s.sides.get d
    if holds s p (.grade d) = false then refuse .notHolder s
    else if (s.settings.sides.get d).kind = .slope ∨ (r.state ≠ .off ∧ r.state ≠ .manual) ∨ (r.state = .manual ∧ r.jogLeft ≠ 0) then
      (s, some { status := .state, payload := u8 0 })
    else
      (setSide d
        { r with
          state := .referencing
          returnManual := decide (r.state = .manual)
          capturePort := p
          captureArmed := false } s, none)

/-- The direction byte of a grade jog: 0 UP, 1 DOWN (R184). -/
def gradeDirOfByte (b : Byte) : Option GradeDir :=
  if b = 0 then some .up else if b = 1 then some .down else none

/-- R110: JOG with a grade target. -/
def serveJogGrade (p : Port) (d : Side) (direction duration : Byte) (s : State) : Served :=
  if holds s p (.grade d) = false then refuse .notHolder s
  else
    match gradeDirOfByte direction with
    | none => refuse .unknown s
    | some dir =>
      if (s.sides.get d).state ≠ .manual then refuse .state s
      else (startGradeJog d dir (jogDuration 20 duration) s, some { status := jogStatus 20 duration })

end Sys2Proof.Machine
end

