-- ==== Sys2Proof/Machine/Feed.lean ====
section
/-! DEFINITION. The feed controller (chapter 7): the AUTO law, the engaged states, holding on a lost level, feed jogs and the requests
FEED_MODE and JOG with a feed target. -/

namespace Sys2Proof.Machine

open Sys2Proof

/-! ### The AUTO law (R114, R116) -/

/-- R114: the level setpoint minus the level. -/
def levelError (s : State) (c : FeedChannel) : Int := (s.settings.feed.get c).setpoint - feedLevel s c

/-- R116: the duty of an error and a gain. -/
def autoDuty (gain error : Int) : Int := if error ≤ 0 then 0 else min 1000 ((error * gain).tdiv 100)

/-- R116: the duty of a channel in AUTO on its error as it stands. -/
def channelDuty (s : State) (c : FeedChannel) : Int :=
  autoDuty (s.settings.feed.get c).gain (s.feed.get c).error

/-- The channel enters AUTO, or stays in it, and its duty is computed and driven (R116, R117). -/
def runAuto (c : FeedChannel) (s : State) : State :=
  setFeed c { s.feed.get c with state := .auto, duty := channelDuty s c, hold := 0, holdMs := 0 } s

/-! ### Feed jogs (R126, R127) -/

/-- R127: a running feed jog ends with a cause; without one nothing changes. -/
def endFeedJog (cause : FeedEnd) (c : FeedChannel) (s : State) : State :=
  let r := s.feed.get c
  if r.jogLeft = 0 then s
  else setFeed c { r with duty := 0, jogDuty := 0, jogLeft := 0, jogMs := 0, lastEnd := cause } s

/-- R126: a feed jog starts at the manual duty, replacing one that runs. -/
def startFeedJog (c : FeedChannel) (duration : Nat) (s : State) : State :=
  let ended := endFeedJog .replaced c s
  let duty := (s.settings.feed.get c).manualDuty
  setFeed c { ended.feed.get c with duty := duty, jogDuty := duty, jogLeft := duration, jogMs := 0 } ended

/-! ### Engaged states (R118 to R120) -/

/-- R120: entry to SENSOR_HOLD, with the duty that was frozen in the HOLD_LAST that led here, or 0. -/
def enterSensorHold (c : FeedChannel) (frozen : Int) (s : State) : State :=
  raiseFlags
    (appendEvent .feed (.feedHold c (feedLevel s c) frozen)
      (setFeed c { s.feed.get c with state := .sensorHold, duty := 0, hold := 0, holdMs := 0 } s))

/-- R118: an engaged channel, or one being engaged, is settled by the mode and its level channel. -/
def settleFeed (c : FeedChannel) (s : State) : State :=
  if s.mode ≠ .paving then
    setFeed c { s.feed.get c with state := .suspended, duty := 0, hold := 0, holdMs := 0 } s
  else if feedFault s c then (if (s.feed.get c).state = .sensorHold then s else enterSensorHold c 0 s)
  else runAuto c s

/-- R118: an engaged channel is settled. -/
def settleEngaged (c : FeedChannel) (s : State) : State :=
  if feedEngaged (s.feed.get c).state then settleFeed c s else s

/-- Take an operation on each feed channel, in channel order. -/
def eachFeed (f : FeedChannel → State → State) (s : State) : State := allFeed.foldl (fun acc c => f c acc) s

/-- R124: the channel becomes OFF. -/
def forceFeedOff (cause : FeedEnd) (c : FeedChannel) (s : State) : State :=
  let ended := endFeedJog cause c s
  setFeed c { ended.feed.get c with state := .off, duty := 0, hold := 0, holdMs := 0 } ended

/-- The channels see a change of mode from `old` to the mode that stands (R118, R124). -/
def feedsSeeMode (old : Mode) (cause : FeedEnd) (s : State) : State :=
  if s.mode = old then s
  else if s.mode = .parked then eachFeed (forceFeedOff cause) s
  else
    let jogs := if s.mode = .standby then eachFeed (endFeedJog .standby) s else s
    if old = .paving ∨ s.mode = .paving then eachFeed settleEngaged jogs else jogs

/-! ### Level conversions (R114, R119, R120) -/

/-- R119: the level channel of a channel in AUTO enters FAULT. -/
def enterHoldLast (c : FeedChannel) (s : State) : State :=
  raiseFlags (setFeed c { s.feed.get c with state := .holdLast, hold := 30, holdMs := 0 } s)

/-- R120: the first valid conversion returns a SENSOR_HOLD channel to AUTO, with FEED_RESUMED. -/
def resumeFeed (c : FeedChannel) (s : State) : State :=
  let running := runAuto c s
  appendEvent .feed (.feedResumed c (feedLevel s c) (running.feed.get c).duty) running

/-- The channel takes a conversion of its level channel. -/
def feedConversion (c : FeedChannel) (s : State) : State :=
  if feedFault s c then (if (s.feed.get c).state = .auto then enterHoldLast c s else s)
  else
    let judged := setFeed c { s.feed.get c with error := levelError s c } s
    match (s.feed.get c).state with
    | .auto | .holdLast => runAuto c judged
    | .sensorHold => resumeFeed c judged
    | .off | .manual | .suspended => judged

/-- R119, R120: the hold time of a HOLD_LAST channel reaches 0. -/
def expireHold (c : FeedChannel) (s : State) : State := enterSensorHold c (s.feed.get c).duty s

/-- R115: the level setpoint is stored; the error is recomputed, and the duty of a channel in AUTO. -/
def writeLevelSetpoint (c : FeedChannel) (v : Int) (s : State) : State :=
  let f := s.settings.feed.get c
  let stored := setSettings { s.settings with feed := s.settings.feed.set c { f with setpoint := v } } s
  let judged := setFeed c { stored.feed.get c with error := levelError stored c } stored
  if (s.feed.get c).state = .auto then runAuto c judged else judged

/-! ### Requests (R122, R123, R126) -/

/-- The channel a request's byte names. -/
def feedOfByte (b : Byte) : Option FeedChannel :=
  if b = 0 then some .convL else if b = 1 then some .convR else if b = 2 then some .augL else if b = 3 then some .augR else none

/-- R122 step 4: the target is the channel's present operation. -/
def feedOperates (st : FeedState) : OperationTarget → Bool
  | .off => decide (st = .off)
  | .manual => decide (st = .manual)
  | .auto => feedEngaged st

/-- R123: the change of operation. -/
def changeFeed (c : FeedChannel) (target : OperationTarget) (s : State) : State :=
  let ended := endFeedJog .feedMode c s
  match target with
  | .off => setFeed c { ended.feed.get c with state := .off, duty := 0, hold := 0, holdMs := 0 } ended
  | .manual => setFeed c { ended.feed.get c with state := .manual, duty := 0, hold := 0, holdMs := 0 } ended
  | .auto => settleFeed c ended

/-- R122: FEED_MODE. -/
def serveFeedMode (p : Port) (channel target : Byte) (s : State) : Served :=
  match feedOfByte channel, operationOfByte target with
  | some c, some t =>
    let r := s.feed.get c
    if holds s p (.feed (feedSide c)) = false then refuse .notHolder s
    else if feedOperates r.state t then done (u8 (feedStateCode r.state)) s
    else if t ≠ .off ∧ s.estop then refuse .state s
    else if t = .auto ∧ s.mode = .parked then refuse .state s
    else
      let changed := changeFeed c t s
      done (u8 (feedStateCode (changed.feed.get c).state)) changed
  | _, _ => refuse .unknown s

/-- R126: JOG with a feed target; the direction is not read. -/
def serveJogFeed (p : Port) (c : FeedChannel) (duration : Byte) (s : State) : Served :=
  if holds s p (.feed (feedSide c)) = false then refuse .notHolder s
  else if (s.feed.get c).state ≠ .manual ∨ s.mode = .standby then refuse .state s
  else (startFeedJog c (jogDuration 50 duration) s, some { status := jogStatus 50 duration })

end Sys2Proof.Machine
end

