-- ==== Sys2Proof/Machine/Heating.lean ====
section
/-! DEFINITION. The heating controller and the budget allocator (chapters 3 and 4): the zone state machine, the wait queue and the grant
list, allocation, rotation, over-temperature, sensor and element faults, exclusion and the health records. Readiness, which follows each of these
events, is taken by Machine/Modes.lean. -/

namespace Sys2Proof.Machine

open Sys2Proof

/-! ### Allocation (R66) -/

/-- R66, one grant: the head leaves the queue and joins the grant list, becomes HEATING and starts its element check (R47). -/
def grantHead (s : State) : State :=
  match s.queue with
  | [] => s
  | z :: rest =>
    setZone z { s.zones.get z with state := .heating, check := .delay, checkMs := 0 }
      { s with queue := rest, grants := s.grants ++ [{ zone := z, start := s.clock, elapsed := 0, subMs := 0 }] }

/-- The head's rating is at most the free power (R66). -/
def headFits (s : State) : Bool :=
  match s.queue with
  | [] => false
  | z :: _ => decide (((s.settings.zones.get z).rating : Int) ≤ freePower s)

/-- R66: grant head after head while it fits, at most `n` of them. -/
def allocateUpTo : Nat → State → State
  | 0, s => s
  | n + 1, s => if headFits s then allocateUpTo n (grantHead s) else s

/-- R66: one evaluation of the allocator. -/
def allocate (s : State) : State := allocateUpTo s.queue.length s

/-! ### Leaving and joining (R46, R47, R64, R65) -/

/-- The zone leaves its grant or its place in the queue, takes the state `target`, and the allocator evaluates where R64 and R66 say so. -/
def leaveTo (z : Zone) (target : ZoneState) (s : State) : State :=
  let r := s.zones.get z
  match r.state with
  | .heating =>
    allocate (setZone z { r with state := target, check := .idle, checkMs := 0 }
      { s with grants := s.grants.filter fun g => decide (g.zone ≠ z) })
  | .waiting =>
    let left := setZone z { r with state := target } { s with queue := s.queue.filter fun y => decide (y ≠ z) }
    if s.queue.head? = some z then allocate left else left
  | _ => setZone z { r with state := target } s

/-- R46, R63: the zone joins the queue at its tail; a join to an empty queue is evaluated (R66). -/
def joinQueue (z : Zone) (s : State) : State :=
  let joined := setZone z { s.zones.get z with state := .waiting } { s with queue := s.queue ++ [z] }
  if s.queue = [] then allocate joined else joined

/-- R45 test 8, for a zone that is SATISFIED. -/
def judgeDemand (z : Zone) (s : State) : State := if demand s z then joinQueue z s else s

/-! ### Health records (R73, R74) -/

/-- One fault counted in a health record by its kind. -/
def countFault (kind : HealthFault) (h : Health) : Health :=
  match kind with
  | .none => h
  | .sensor => { h with sensorFault := satInc top16 h.sensorFault }
  | .element => { h with elementOpen := satInc top16 h.elementOpen }
  | .overtemp => { h with overtemp := satInc top16 h.overtemp }

/-- R74: the count rises and the last fault, its stamp and its station are replaced together. -/
def noteFault (z : Zone) (kind : HealthFault) (s : State) : State :=
  setHealth z
    { countFault kind (s.health.get z) with lastFault := kind, lastStamp := s.clock, lastStation := s.travel.station } s

/-! ### Entries to OVERTEMP and FAULT (R52, R54, R55) -/

/-- R52. -/
def enterOvertemp (z : Zone) (s : State) : State :=
  appendEvent .heating (.zoneOvertemp z (zoneTemp s z) (s.zones.get z).activeSetpoint)
    (noteFault z .overtemp (leaveTo z .overtemp s))

/-- R54. -/
def enterSensorFault (z : Zone) (s : State) : State :=
  appendEvent .heating (.zoneFault z .sensor (zoneTemp s z)) (noteFault z .sensor (leaveTo z .fault s))

/-- Set the element latch. -/
def setLatch (z : Zone) (latch : Bool) (s : State) : State := setZone z { s.zones.get z with latch := latch } s

/-- R55: the element fails. -/
def elementFail (z : Zone) (s : State) : State :=
  appendEvent .heating (.zoneFault z .element (zoneTemp s z))
    (noteFault z .element (setLatch z true (leaveTo z .fault s)))

/-! ### Evaluation (R45) -/

/-- R45, tests 4 to 8, by the zone's state. -/
def evaluateByState (z : Zone) (s : State) : State :=
  let r := s.zones.get z
  match r.state with
  | .off => s
  | .fault => judgeDemand z (leaveTo z .satisfied s)
  | .overtemp => if zoneTemp s z ≤ r.activeSetpoint then judgeDemand z (leaveTo z .satisfied s) else s
  | .heating => if r.activeSetpoint ≤ zoneTemp s z then leaveTo z .satisfied s else s
  | .waiting => if demand s z then s else leaveTo z .satisfied s
  | .satisfied => judgeDemand z s

/-- R45: the ordered tests, for a zone that is not OFF. -/
def evaluateZone (z : Zone) (s : State) : State :=
  let r := s.zones.get z
  if r.state = .off then s
  else if r.latch then s
  else if zoneChannelFault s z then (if r.state = .fault then s else enterSensorFault z s)
  else if overCeiling s z then (if r.state = .overtemp then s else enterOvertemp z s)
  else evaluateByState z s

/-- R43: select the active set again; a change of the set or of the active setpoint evaluates the zone. -/
def reselect (z : Zone) (s : State) : State :=
  let r := s.zones.get z
  let set := selectedSet s z
  if r.state = .off ∨ (r.activeSet = set ∧ r.activeSetpoint = setpointOf s z set) then s
  else evaluateZone z (setZone z { r with activeSet := set, activeSetpoint := setpointOf s z set } s)

/-! ### The machine mode (R49, R50, R51) -/

/-- R49: the entry of one zone to a heating mode; a zone that is not active stays OFF. -/
def enterHeating (z : Zone) (s : State) : State :=
  let r := s.zones.get z
  let set := selectedSet s z
  if zoneActive s z = false ∨ r.state ≠ .off then s
  else
    let entered := { r with activeSet := set, activeSetpoint := setpointOf s z set, check := .idle, checkMs := 0 }
    if r.latch then setZone z { entered with state := .fault } s
    else evaluateZone z (setZone z { entered with state := .satisfied } s)

/-- R51: a zone record made OFF; the latch keeps its value. -/
def zoneOff (r : ZoneRec) : ZoneRec :=
  { r with state := .off, activeSet := .none, activeSetpoint := 0, check := .idle, checkMs := 0 }

/-- R51: every zone OFF, the queue and the grant list empty. -/
def parkZones (s : State) : State :=
  { s with
    zones := ⟨zoneOff s.zones.ml, zoneOff s.zones.mr, zoneOff s.zones.el, zoneOff s.zones.er,
      zoneOff s.zones.bl, zoneOff s.zones.br, zoneOff s.zones.tl, zoneOff s.zones.tr⟩
    queue := []
    grants := [] }

/-- Take an operation on each zone, in zone order. -/
def eachZone (f : Zone → State → State) (s : State) : State := allZones.foldl (fun acc z => f z acc) s

/-- The zones see a change of mode from `old` to the mode that stands (R49, R50, R51). -/
def zonesSeeMode (old : Mode) (s : State) : State :=
  if heatingMode s.mode then
    if heatingMode old then eachZone reselect s else eachZone enterHeating s
  else if heatingMode old then parkZones s
  else s

/-! ### Exclusion (R58) -/

/-- R58: a zone made inactive goes OFF, out of its grant or queue place. -/
def excludeZone (z : Zone) (s : State) : State :=
  if (s.zones.get z).state = .off then s
  else
    let out := leaveTo z .off s
    setZone z (zoneOff (out.zones.get z)) out

/-- R58: store the exclude flag and exclude or include the zone. -/
def writeExclude (z : Zone) (flag : Bool) (s : State) : State :=
  let c := s.settings.zones.get z
  let stored := setSettings { s.settings with zones := s.settings.zones.set z { c with exclude := flag } } s
  if c.exclude = flag then s
  else if flag then excludeZone z stored
  else if heatingMode s.mode then enterHeating z stored
  else stored

/-! ### Temperature conversions (R45, R75) -/

/-- R75: a valid conversion above the recorded maximum replaces it; not in STARTING (R73). -/
def trackMaximum (z : Zone) (s : State) : State :=
  let h := s.health.get z
  if s.mode = .starting ∨ zoneChannelFault s z = true ∨ zoneTemp s z ≤ h.maxTemp then s
  else setHealth z { h with maxTemp := zoneTemp s z } s

/-- The zone takes a conversion of its temperature channel (R45, R75). -/
def zoneConversion (z : Zone) (s : State) : State := evaluateZone z (trackMaximum z s)

/-! ### The element check (R55) -/

/-- R55: the delay of a HEATING zone's check ends, and the feedback input is judged. -/
def checkDelayEnd (z : Zone) (s : State) : State :=
  if inputActive s (.feedback z) then setZone z { s.zones.get z with check := .watch, checkMs := 0 } s else elementFail z s

/-- R55: the feedback input stands inactive while the check is in WATCH. -/
def feedbackChange (z : Zone) (s : State) : State :=
  let r := s.zones.get z
  if r.state = .heating ∧ r.check = .watch ∧ inputActive s (.feedback z) = false then elementFail z s else s

/-! ### Slice rotation (R68 to R70) -/

/-- R69: the grant is rotated. -/
def rotateGrant (z : Zone) (s : State) : State :=
  let r := { s.zones.get z with check := .idle, checkMs := 0 }
  let freed := { s with grants := s.grants.filter fun g => decide (g.zone ≠ z) }
  if demand s z then
    allocate (setZone z { r with state := .waiting } { freed with queue := freed.queue ++ [z] })
  else allocate (setZone z { r with state := .satisfied } freed)

/-- R70: the grant is renewed; its start is kept. -/
def renewGrant (z : Zone) (s : State) : State :=
  { s with grants := s.grants.map fun g => if g.zone = z then { g with elapsed := 0, subMs := 0 } else g }

/-- R68 to R70: the slice of the zone's grant expires. -/
def expireSlice (z : Zone) (s : State) : State := if s.queue = [] then renewGrant z s else rotateGrant z s

/-! ### Granted time and the requests on faults and health (R57, R75, R76) -/

/-- R75: the granted seconds reach 60. -/
def countMinute (z : Zone) (s : State) : State :=
  let h := s.health.get z
  setHealth z { h with seconds := 0, subMs := 0, minutes := satInc top32 h.minutes } s

/-- R57: the latch is cleared, ZONE_CLEARED appended, and a zone in FAULT becomes SATISFIED and is evaluated. -/
def clearLatch (z : Zone) (p : Port) (s : State) : State :=
  let cleared := appendEvent (.port p) (.zoneCleared z (zoneTemp s z)) (setLatch z false s)
  if (s.zones.get z).state = .fault then evaluateZone z (leaveTo z .satisfied cleared) else cleared

/-- R76: the named record, or all eight, zeroed, and HEALTH_CLEARED appended. -/
def clearHealthOf (z : Option Zone) (p : Port) (s : State) : State :=
  appendEvent (.port p) (.healthCleared z)
    (match z with
     | some z => setHealth z {} s
     | none => { s with health := PerZone.all {} })

end Sys2Proof.Machine
end

