-- ==== Sys2Proof/Machine/Profiler.lean ====
section
/-! DEFINITION. The mat profiler (chapter 8): record marks, accumulation, the interval close, the reduction, the SCANNER condition and
the request MARK. -/

namespace Sys2Proof.Machine

open Sys2Proof

/-! ### Record marks (R132) -/

/-- R132: the smallest grid point greater than the high-water station, or NONE beyond the signed 32-bit range. -/
def nextMarkOf (start highWater interval : Int) : Option Int :=
  let mark := start + ((highWater - start).tdiv interval + 1) * interval
  if maxS32 < mark then none else some mark

/-- The next mark from the present high-water station. -/
def presentMark (s : State) : Option Int := nextMarkOf s.job.start s.travel.highWater s.settings.recordInterval

def recomputeMark (s : State) : State := setProfiler { s.profiler with nextMark := presentMark s } s

/-- R132, R135, R136: a new interval begins: everything cleared, the next mark computed, the flags of the standing conditions set. -/
def beginInterval (s : State) : State :=
  setProfiler
    { s.profiler with
      pixels := List.replicate 120 ⟨0, 0⟩
      lines := 0
      marks := []
      nextMark := presentMark s
      flags := standingFlags s } s

/-! ### Reduction (R138 to R141) -/

/-- The centre of pixel k (section 8.2). -/
def pixelCentre (k : Nat) : Int := -5950 + 100 * (k : Int)

/-- R138: the centre lies within the edges less the margin, and the pixel took a value. -/
def pixelValid (s : State) (k : Nat) (p : Pixel) : Bool :=
  decide (0 < p.count) && decide (edgeL s + s.settings.edgeMargin ≤ pixelCentre k)
    && decide (pixelCentre k ≤ edgeR s - s.settings.edgeMargin)

/-- R138: the centres and means of the valid pixels, left to right. -/
def validMeans (s : State) : List (Int × Nat) :=
  ((List.range 120).zip s.profiler.pixels).filterMap fun (k, p) =>
    if pixelValid s k p then some (pixelCentre k, divHalfUp p.sum p.count) else none

/-- R139: the segment count. -/
def segmentCount (s : State) : Nat :=
  let width := (screedWidth s).toNat
  let seg := s.settings.segmentWidth.toNat
  min 16 ((width + seg - 1) / seg)

/-- R139: the segment a centre lies in; the last segment takes all beyond it. -/
def segmentOf (s : State) (x : Int) : Nat :=
  min (segmentCount s - 1) ((x - edgeL s).toNat / s.settings.segmentWidth.toNat)

/-- The mean of whole numbers, rounded half up. -/
def meanHalfUp (xs : List Nat) : Nat := divHalfUp xs.sum xs.length

/-- R139: a segment's value, 65535 when no valid pixel lies in it. -/
def segmentValue (s : State) (means : List (Int × Nat)) (j : Nat) : Nat :=
  let inside := (means.filter fun m => decide (segmentOf s m.1 = j)).map (·.2)
  if inside = [] then 65535 else meanHalfUp inside

/-- The figures a close takes from the accumulators. -/
structure Reduced where
  matMin   : Nat
  matMax   : Nat
  matMean  : Nat
  cold     : Nat
  /-- COLD, DIFFERENTIAL and SCAN_STALE at bits 6, 7 and 8 (section 12.4). -/
  flags    : Nat
  segments : List Nat
deriving DecidableEq, Repr

/-- R141: a record without temperatures. -/
def staleReduction : Reduced :=
  { matMin := 65535, matMax := 65535, matMean := 65535, cold := 0, flags := 256, segments := [] }

/-- R138 to R141: the reduction of the interval. -/
def reduce (s : State) : Reduced :=
  let means := validMeans s
  let values := means.map (·.2)
  match values with
  | [] => staleReduction
  | v :: vs =>
    if s.profiler.lines = 0 then staleReduction
    else
      let lo := vs.foldl min v
      let hi := vs.foldl max v
      let cold := (values.filter fun m => decide (m < s.settings.coldLimit)).length
      { matMin := lo
        matMax := hi
        matMean := meanHalfUp values
        cold := cold
        flags := (if 0 < cold then 64 else 0) + (if s.settings.diffLimit ≤ hi - lo then 128 else 0)
        segments := (List.range (segmentCount s)).map (segmentValue s means) }

/-- R142: the profile record of the interval, but for its sequence number. -/
def buildProfile (s : State) (sequence : Nat) : ProfileRecord :=
  let r := reduce s
  { sequence := sequence
    job := s.job.number
    station := s.travel.station
    clock := s.clock
    width := screedWidth s
    xL := edgeL s
    flags := flagMask s.profiler.flags + r.flags
    lines := min 255 s.profiler.lines
    matMin := r.matMin
    matMax := r.matMax
    matMean := r.matMean
    cold := r.cold
    errors := ⟨s.sides.left.error, s.sides.right.error⟩
    sideStates := ⟨s.sides.left.state, s.sides.right.state⟩
    levels := ⟨feedLevel s .convL, feedLevel s .convR, feedLevel s .augL, feedLevel s .augR⟩
    zoneStates := ⟨s.zones.ml.state, s.zones.mr.state, s.zones.el.state, s.zones.er.state,
      s.zones.bl.state, s.zones.br.state, s.zones.tl.state, s.zones.tr.state⟩
    speed := s.travel.speed
    marks := s.profiler.marks
    segments := r.segments }

/-! ### Interval close (R133, R136) -/

/-- R136: the interval closes, with a record in PAVING and PAUSED. -/
def closeInterval (s : State) : State :=
  if s.mode = .paving ∨ s.mode = .paused then beginInterval (appendProfile (buildProfile s) s) else beginInterval s

/-- R133: the high-water station has risen. -/
def highWaterRose (s : State) : State :=
  match s.profiler.nextMark with
  | none => s
  | some m => if m ≤ s.travel.highWater then closeInterval s else s

/-! ### Scan lines (R130, R134) -/

/-- R134: one pixel value is added, unless it is no reading or the pixel's count stands at 65535. -/
def addPixel (p : Pixel) (v : Half) : Pixel :=
  if v.toNat ≤ 600 ∧ p.count < top16 then { sum := p.sum + v.toNat, count := p.count + 1 } else p

/-- R134: a line is accumulated in PAVING with the station value at the high-water station. -/
def accumulate (pixels : List Half) (s : State) : State :=
  if s.mode = .paving ∧ s.travel.station = s.travel.highWater then
    setProfiler
      { s.profiler with
        pixels := List.zipWith addPixel s.profiler.pixels pixels
        lines := satInc top16 s.profiler.lines } s
  else s

/-- R130: a scan line handed on by the receiver; a line of another length never reaches the profiler (R81, R130). -/
def takeScanLine (counter : Half) (pixels : List Half) (s : State) : State :=
  if pixels.length = 120 then
    accumulate pixels
      (setProfiler { s.profiler with lastCounter := counter.toNat, lineSilence := 0, scanner := false } s)
  else s

/-! ### The SCANNER condition (R131) -/

/-- R131: the condition rises, with its record. -/
def raiseScanner (s : State) : State :=
  appendEvent .profiler (.scanner s.profiler.lastCounter s.profiler.lineSilence s.travel.highWater)
    (setProfiler { s.profiler with scanner := true } s)

/-- The profiler sees a change of mode from `old` to the mode that stands (R131, R135). -/
def profilerSeesMode (old : Mode) (s : State) : State :=
  if s.mode = old then s
  else
    let left := if old = .paving then setProfiler { s.profiler with scanner := false } s else s
    let judged := if s.mode = .paving ∧ 2000 ≤ s.profiler.lineSilence then raiseScanner left else left
    raiseFlags judged

/-! ### MARK (R143) -/

/-- The next mark and its validity byte in the MARK reply (section 12.2). -/
def markReply (slot : Nat) (mark : Option Int) : List Byte :=
  match mark with
  | some m => u8 slot ++ i32 m ++ [0]
  | none => u8 slot ++ [0xFF, 0xFF, 0xFF, 0xFF, 0xFF]

/-- R143: MARK. -/
def serveMark (p : Port) (code : Byte) (s : State) : Served :=
  if p = .ru then refuse .notPermitted s
  else if code = 0 then refuse .unknown s
  else if s.mode ≠ .paving ∧ s.mode ≠ .paused then refuse .state s
  else if 2 ≤ s.profiler.marks.length then refuse .full s
  else
    done (markReply (s.profiler.marks.length + 1) s.profiler.nextMark)
      (setProfiler { s.profiler with marks := s.profiler.marks ++ [{ code := code, port := p }] } s)

end Sys2Proof.Machine
end

