-- ==== Sys2Proof/Machine/Travel.lean ====
section
/-! DEFINITION. The travel and time unit and the geometry unit (chapter 2): odometer, speed, stop timer, paving clock, extension
positions and width jogs, with the requests SET_CLOCK and JOG with a width target. -/

namespace Sys2Proof.Machine

open Sys2Proof

/-! ### Odometer (R21 to R23) -/

/-- R22: the station value of a count; a result outside the signed 32-bit range is held at the nearer bound. -/
def stationOf (start count pulsesPerMetre : Int) : Int :=
  clamp minS32 maxS32 (start + (count * 1000).tdiv pulsesPerMetre)

/-- The station value of the present count. -/
def presentStation (s : State) : Int := stationOf s.job.start s.travel.pulseCount s.settings.pulsesPerMetre

/-- R22, R23: the station value is computed again, and the high-water station takes it when it is exceeded. -/
def computeStation (s : State) : State :=
  let st := presentStation s
  setTravel { s.travel with station := st, highWater := max s.travel.highWater st } s

/-- R23, R133: the station value is computed again, and the profiler takes a rise of the high-water station. -/
def moveStation (s : State) : State :=
  let moved := computeStation s
  if s.travel.highWater < moved.travel.highWater then highWaterRose moved else moved

/-- R24: the start value of the running window moves with the station value, by the amount it has moved since `before`. -/
def moveWindow (before : Int) (s : State) : State :=
  setTravel { s.travel with windowStart := s.travel.windowStart + (s.travel.station - before) } s

/-- R21: one counted edge, in the direction of TRAVEL_DIR. -/
def countEdge (s : State) : State :=
  let step : Int := if inputActive s .travelDir then -1 else 1
  moveStation
    (setTravel
      { s.travel with
        pulseCount := clamp minS32 maxS32 (s.travel.pulseCount + step)
        pulseSilence := 0
        pauseMs := 0 } s)

/-! ### Speed (R24) -/

/-- R24: the speed of a window change, in 0.1 m/min. -/
def speedOf (change : Int) : Int := clamp (-32767) 32767 ((change * 12).tdiv 5)

/-- R24: the window ends, and the next begins. -/
def closeWindow (s : State) : State :=
  let change := s.travel.station - s.travel.windowStart
  setTravel
    { s.travel with windowChange := change, speed := speedOf change, windowStart := s.travel.station, windowMs := 0 } s

/-! ### Stop timer (R27, R28) -/

/-- R28: the restart at an entry to PAUSED. -/
def restartStop (s : State) : State :=
  let t := s.travel.stop
  setTravel
    { s.travel with
      stop :=
        { state := .running
          elapsed := 0
          subMs := 0
          codeInForce := if t.pending then s.settings.standbyCode else t.codeInForce
          pending := false } } s

/-- R27: the standby delay code is written. -/
def writeStandbyCode (code : Nat) (s : State) : State :=
  let stored := setSettings { s.settings with standbyCode := code } s
  let t := s.travel.stop
  if t.state = .running then setTravel { s.travel with stop := { t with pending := true } } stored
  else setTravel { s.travel with stop := { t with codeInForce := code, pending := false } } stored

/-- The travel unit sees a change of mode from `old` to the mode that stands (R25, R28). -/
def travelSeesMode (old : Mode) (s : State) : State :=
  if s.mode = old then s
  else if s.mode = .paused then restartStop s
  else if s.mode = .paving then setTravel { s.travel with pauseMs := 0 } s
  else s

/-! ### Paving clock (R29, R30) -/

/-- The carry into the day. -/
def carryDay (c : ClockValue) : ClockValue := { c with day := c.day + 1 }

/-- The carry into the hour. -/
def carryHour (c : ClockValue) : ClockValue :=
  if 23 ≤ c.hour.toNat then carryDay { c with hour := 0 } else { c with hour := c.hour + 1 }

/-- The carry into the minute. -/
def carryMinute (c : ClockValue) : ClockValue :=
  if 59 ≤ c.minute.toNat then carryHour { c with minute := 0 } else { c with minute := c.minute + 1 }

/-- The carry into the second. -/
def carrySecond (c : ClockValue) : ClockValue :=
  if 59 ≤ c.second.toNat then carryMinute { c with second := 0 } else { c with second := c.second + 1 }

/-- R29: one sixteenth of a second. -/
def stepClock (c : ClockValue) : ClockValue :=
  if c.sixteenth = 15 then carrySecond { c with sixteenth := 0 } else { c with sixteenth := c.sixteenth + 1 }

/-- R29: the clock steps at a sixteenth, which is 125 half milliseconds; the next sixteenth runs from it. -/
def takeClockStep (s : State) : State := { s with clock := stepClock s.clock, clockPhase := s.clockPhase - 125 }

/-- R30: SET_CLOCK. -/
def serveSetClock (p : Port) (day : Half) (hour minute second : Byte) (s : State) : Served :=
  if holds s p .mode = false ∧ holds s p .records = false then refuse .notHolder s
  else
    done []
      (appendEvent (.port p) (.clockSet s.clock)
        { s with clock := { day := day, hour := hour, minute := minute, second := second, sixteenth := 0 } })

/-! ### Extension positions (R32) -/

/-- The soft limits of a width jog (R34, R35). -/
def atSoftLimit (dir : WidthDir) (position : Int) : Bool :=
  match dir with
  | .none => false
  | .inward => decide (position ≤ 20)
  | .outward => decide (2480 ≤ position)

/-- R36: a running width jog ends with a cause; without one nothing changes. -/
def endWidthJog (cause : WidthEnd) (d : Side) (s : State) : State :=
  let r := s.geometry.get d
  if r.jogDir = .none then s
  else setExtension d { r with jogDir := .none, jogLeft := 0, jogMs := 0, lastEnd := cause } s

/-- R32: the side becomes stale, with its record. -/
def becomeStale (d : Side) (s : State) : State :=
  let r := s.geometry.get d
  if r.stale then s
  else
    raiseFlags
      (appendEvent .geometryUnit (.geometryStale d r.position s.travel.station) (setExtension d { r with stale := true } s))

/-- R32, R35, R36, R43: the geometry unit takes a conversion of a side's extension channel. -/
def extConversion (d : Side) (s : State) : State :=
  if (s.analog.ext.get d).fault then becomeStale d (endWidthJog .fault d s)
  else
    let position := clamp 0 2500 (s.analog.ext.get d).value
    let r := s.geometry.get d
    let moved := setExtension d { r with position := position, stale := false } s
    let limited := if atSoftLimit r.jogDir position then endWidthJog .limit d moved else moved
    reselect (extensionZone d) limited

/-! ### Width jog (R34) -/

/-- The direction byte of a width jog: 0 IN, 1 OUT (R184). -/
def widthDirOfByte (b : Byte) : Option WidthDir :=
  if b = 0 then some .inward else if b = 1 then some .outward else none

/-- R34: a width jog starts, replacing one that runs. -/
def startWidthJog (d : Side) (dir : WidthDir) (duration : Nat) (s : State) : State :=
  let ended := endWidthJog .replaced d s
  setExtension d { ended.geometry.get d with jogDir := dir, jogLeft := duration, jogMs := 0 } ended

/-- R34: JOG with a width target. -/
def serveJogWidth (p : Port) (d : Side) (direction duration : Byte) (s : State) : Served :=
  if holds s p (.width d) = false then refuse .notHolder s
  else
    match widthDirOfByte direction with
    | none => refuse .unknown s
    | some dir =>
      if s.estop ∨ (s.analog.ext.get d).fault ∨ atSoftLimit dir (s.geometry.get d).position then refuse .state s
      else (startWidthJog d dir (jogDuration 50 duration) s, some { status := jogStatus 50 duration })

end Sys2Proof.Machine
end

