-- ==== Sys2Proof/Machine/Modes.lean ====
section
/-! DEFINITION. The mode controller (chapter 1): mode changes and their chains, readiness, the blocks' reactions to the mode, the GO
request, pause, resume, stop-timer match, e-stop and the loss of MODE. -/

namespace Sys2Proof.Machine

open Sys2Proof

/-! ### One mode change, and the chain it sets off (R2, R10, R11) -/

/-- R2: the mode changes and its MODE_CHANGED record is appended. -/
def changeMode (mode : Mode) (cause : ModeCause) (origin : Origin) (s : State) : State :=
  appendEvent origin (.modeChanged s.mode mode cause) { s with mode := mode }

/-- R10, R11: the changes that the readiness flag, as it stands, sets off in PREHEAT and READY. -/
def readinessChain (s : State) : State :=
  if s.mode = .preheat ∧ s.readiness = true then
    let ready := changeMode .ready .readiness .modeController s
    if s.pavePending then changeMode .paving .readiness .modeController { ready with pavePending := false } else ready
  else if s.mode = .ready ∧ s.readiness = false then changeMode .preheat .readiness .modeController s
  else s

/-- The jog end causes of an entry to PARKED, by the e-stop or by request (R108, R124). -/
def sideCause (byEstop : Bool) : GradeEnd := if byEstop then .eStop else .parked

def feedCause (byEstop : Bool) : FeedEnd := if byEstop then .eStop else .parked

/-- The sides see the mode and the run condition that stand (R104, R108). -/
def sidesSeeMode (old : Mode) (run byEstop : Bool) (s : State) : State :=
  if s.mode = .parked ∧ old ≠ .parked then forceSidesOff (sideCause byEstop) s else sidesSeeRun run s

/-- R2: every block sees the mode that stands at the end of a chain. `old` and `run` are the mode and the run condition before the
event; `byEstop` says that the e-stop caused the change. -/
def blocksSee (old : Mode) (run byEstop : Bool) (s : State) : State :=
  let heated := if s.mode = old then s else zonesSeeMode old (travelSeesMode old s)
  profilerSeesMode old (feedsSeeMode old (feedCause byEstop) (sidesSeeMode old run byEstop heated))

/-! ### Readiness (R7, R12) -/

/-- R7, R20: the readiness flag and the failing zone count. -/
def evaluateReadiness (s : State) : State :=
  { s with readiness := (failingZones s).isEmpty, failing := (failingZones s).length }

/-- R12: at a change from holding to not holding in PAVING or PAUSED, READINESS_LOST is appended. -/
def noteReadinessLoss (before : Bool) (s : State) : State :=
  match failingZones s with
  | [] => s
  | z :: _ =>
    if before ∧ (s.mode = .paving ∨ s.mode = .paused) then
      raiseFlags
        (appendEvent .modeController (.readinessLost (failingZones s).length z (s.zones.get z).state) s)
    else s

/-- R7 with R10, R11 and R12: readiness is evaluated, and a change acts at once on the mode; not in STARTING (R1). -/
def settleReadiness (s : State) : State :=
  if s.mode = .starting then s
  else
    blocksSee s.mode (runCondition s) false
      (readinessChain (noteReadinessLoss s.readiness (evaluateReadiness s)))

/-- R2: a mode change with its whole chain, the blocks' reactions, and the readiness evaluation that follows. -/
def takeModeChange (mode : Mode) (cause : ModeCause) (origin : Origin) (byEstop : Bool) (s : State) : State :=
  settleReadiness
    (blocksSee s.mode (runCondition s) byEstop (readinessChain (changeMode mode cause origin s)))

/-! ### GO (R9) -/

/-- The targets of GO (section 12.2). -/
inductive GoTarget where
  | preheat | pave | stop | standby | park
deriving DecidableEq, Repr

def goTargetOfByte (b : Byte) : Option GoTarget :=
  if b = 0 then some .preheat else if b = 1 then some .pave else if b = 2 then some .stop
  else if b = 3 then some .standby else if b = 4 then some .park else none

/-- A GO that enters a mode with cause REQUEST. -/
def goTo (p : Port) (mode : Mode) (s : State) : State := takeModeChange mode .request (.port p) false s

/-- R9: the effect of a target in the current mode, or none where the pair is not in the table. -/
def goEffect (p : Port) (t : GoTarget) (s : State) : Option State :=
  match t, s.mode with
  | .preheat, .parked => some (goTo p .preheat { s with pavePending := false })
  | .preheat, .standby => some (goTo p .preheat { s with pavePending := false })
  | .preheat, .preheat => some { s with pavePending := false }
  | .pave, .parked => some (goTo p .preheat { s with pavePending := true })
  | .pave, .standby => some (goTo p .preheat { s with pavePending := true })
  | .pave, .preheat => some (settleReadiness { s with pavePending := true })
  | .pave, .ready => some (goTo p .paving s)
  | .pave, .paving => some s
  | .pave, .paused => some s
  | .stop, .paving => some (goTo p .ready s)
  | .stop, .paused => some (goTo p .ready s)
  | .standby, .preheat => some (goTo p .standby { s with pavePending := false })
  | .standby, .ready => some (goTo p .standby { s with pavePending := false })
  | .standby, .paving => some (goTo p .standby { s with pavePending := false })
  | .standby, .paused => some (goTo p .standby { s with pavePending := false })
  | .park, .parked => some s
  | .park, .preheat => some (goTo p .parked { s with pavePending := false })
  | .park, .ready => some (goTo p .parked { s with pavePending := false })
  | .park, .paving => some (goTo p .parked { s with pavePending := false })
  | .park, .paused => some (goTo p .parked { s with pavePending := false })
  | .park, .standby => some (goTo p .parked { s with pavePending := false })
  | _, _ => none

/-- The payload of a GO reply: the mode and pave-pending as they stand (R9; assumption 6, DEDUCED, for the flag's code). -/
def goPayload (s : State) : List Byte := u8 (modeCode s.mode) ++ boolByte s.pavePending

/-- R9: GO. -/
def serveGo (p : Port) (target : Byte) (s : State) : Served :=
  if holds s p .mode = false then refuse .notHolder s
  else
    match goTargetOfByte target with
    | none => refuse .unknown s
    | some t =>
      if s.estop then refuse .state s
      else
        match goEffect p t s with
        | none => refuse .state s
        | some after => done (goPayload after) after

/-! ### Events of the travel unit (R14, R15, R25, R26, R28) -/

/-- R25, R14: the pause detector fires. It does so only in PAVING with 1.0 s run (`pauseReached`), so an edge taken first keeps it from
firing. -/
def firePause (s : State) : State := takeModeChange .paused .pause .modeController false s

/-- R24, R26, R104: a speed window ends; the sides see the new speed and the new mode together. -/
def endWindow (s : State) : State :=
  let closed := closeWindow s
  let resumed :=
    if closed.mode = .paused ∧ 0 < closed.travel.windowChange then changeMode .paving .resume .modeController closed else closed
  settleReadiness (blocksSee s.mode (runCondition s) false resumed)

/-- R28: the stop timer has matched. -/
def markMatched (s : State) : State :=
  let t := s.travel.stop
  setTravel { s.travel with stop := { t with state := .matched, elapsed := compareOf t.codeInForce, subMs := 0 } } s

/-- R28, R15: the match; in PAUSED the mode becomes STANDBY and STANDBY_ENTERED follows the MODE_CHANGED record. It is taken only with
the elapsed count of a running timer at the compare value (`matchReached`), so a restart taken first keeps it from matching. -/
def matchStop (s : State) : State :=
  let t := s.travel.stop
  let matched := markMatched s
  if s.mode ≠ .paused then matched
  else
    let changed := changeMode .standby .timer .modeController matched
    let recorded :=
      appendEvent .travelUnit (.standbyEntered t.codeInForce (compareOf t.codeInForce) s.travel.highWater) changed
    settleReadiness (blocksSee s.mode (runCondition s) false recorded)

/-! ### E-stop (R16, R17) -/

/-- R36: the width jogs end at the latch. -/
def endWidthJogs (cause : WidthEnd) (s : State) : State := endWidthJog cause .right (endWidthJog cause .left s)

/-- R16: the debounced ESTOP becomes active. -/
def assertEstop (s : State) : State :=
  let latched := endWidthJogs .eStop { s with estop := true }
  match s.mode with
  | .starting => latched
  | .parked => eachFeed (forceFeedOff .eStop) (forceSidesOff .eStop latched)
  | _ => takeModeChange .parked .eStop .modeController true { latched with pavePending := false }

/-- R17: the debounced ESTOP becomes inactive. -/
def releaseEstop (s : State) : State := { s with estop := false }

/-! ### Loss of MODE (R18) -/

/-- R18: MODE has become free. -/
def modeFreed (s : State) : State :=
  let cleared := { s with pavePending := false }
  if s.mode = .paving ∨ s.mode = .paused then takeModeChange .ready .authorityLoss .modeController false cleared
  else cleared

end Sys2Proof.Machine
end

