-- ==== Sys2Proof/Machine/Authority.lean ====
section
/-! DEFINITION. The authority table (sections 10.4 and 10.5): TAKE, takeover, RELEASE and the loss on silence. -/

namespace Sys2Proof.Machine

open Sys2Proof

/-- The function a request's byte names (section 12.1). -/
def functionOfByte (b : Byte) : Option Function :=
  match b.toNat with
  | 0 => some .mode | 1 => some .heat | 2 => some (.grade .left) | 3 => some (.grade .right)
  | 4 => some (.feed .left) | 5 => some (.feed .right) | 6 => some (.width .left) | 7 => some (.width .right)
  | 8 => some .records | _ => none

/-- R167 step 2: the jogs running under a function end with cause AUTHORITY. -/
def endJogsUnder (f : Function) (s : State) : State :=
  match f with
  | .grade d => endGradeJog d .authority s
  | .feed .left => endFeedJog .authority .augL (endFeedJog .authority .convL s)
  | .feed .right => endFeedJog .authority .augR (endFeedJog .authority .convR s)
  | .width d => endWidthJog .authority d s
  | .mode | .heat | .records => s

/-- R167: OC takes the function over from `previous`. -/
def takeOver (f : Function) (previous : Port) (s : State) : State :=
  appendEvent (.port .oc) (.authority f .override previous) (endJogsUnder f (setHolder f (some .oc) s))

/-- The payload of a TAKE reply: the function and its holder after the request. -/
def takePayload (f : Function) (s : State) : List Byte := u8 (functionCode f) ++ holderByte (holderOf s.authority f)

/-- R166: TAKE. -/
def serveTake (p : Port) (function override : Byte) (s : State) : Served :=
  match functionOfByte function with
  | none => refuse .unknown s
  | some f =>
    if permitted p f = false then refuse .notPermitted s
    else
      match holderOf s.authority f with
      | none =>
        let taken := setHolder f (some p) s
        done (takePayload f taken) taken
      | some q =>
        if q = p then done (takePayload f s) s
        else if p = .oc ∧ override ≠ 0 ∧ f ≠ .records then
          let taken := takeOver f q s
          done (takePayload f taken) taken
        else refuse .held s

/-- R168: RELEASE. -/
def serveRelease (p : Port) (function : Byte) (s : State) : Served :=
  match functionOfByte function with
  | none => refuse .unknown s
  | some f =>
    if holds s p f = false then refuse .notHolder s
    else
      let freed := endJogsUnder f (setHolder f none s)
      done [] (if f = .mode then modeFreed freed else freed)

/-- R169: the loss of one function, if the silent station holds it. -/
def loseFunction (p : Port) (s : State) (f : Function) : State :=
  if holds s p f then
    appendEvent .authorityTable (.authority f .loss p) (endJogsUnder f (setHolder f none s))
  else s

/-- R169: the loss of every function the silent station holds, in function order, and then of MODE by R18. -/
def loseAll (p : Port) (s : State) : State :=
  let lost := allFunctions.foldl (loseFunction p) s
  if holds s p .mode then modeFreed lost else lost

/-- R162, R169: an UP link goes DOWN. It does so only with its silence time at 500 ms (`silenceReached`), so a good frame taken first keeps
it UP with every function held. -/
def linkSilent (p : Port) (s : State) : State := loseAll p (setPort p { s.ports.get p with up := false } s)

end Sys2Proof.Machine
end

