-- ==== Sys2Proof/Machine/Inputs.lean ====
section
/-! DEFINITION. The inputs of the field channel unit (sections 11.1 and 11.2): the scaling and judging of analog conversions, the
debouncing of the digital inputs, and the handing of both to their consumers. -/

namespace Sys2Proof.Machine

open Sys2Proof

/-! ### Analog channels (R175) -/

/-- The engineering range of a channel's kind (section 11.1). -/
def engLow : AnalogChannel → Int
  | .temp _ => -400
  | .ext _ => 0
  | .level _ => 0

def engHigh : AnalogChannel → Int
  | .temp _ => 4500
  | .ext _ => 2500
  | .level _ => 1000

/-- R175: the value of a raw conversion from raw_lo to raw_hi, truncated toward zero. -/
def scaleRaw (c : Scaling) (raw : Int) : Int :=
  c.engLo + ((raw - c.rawLo) * (c.engHi - c.engLo)).tdiv (c.rawHi - c.rawLo)

/-- R175: the value of a raw conversion that is not beyond the tolerance, before the limit to the engineering range. -/
def valueOfRaw (c : Scaling) (raw : Int) : Int :=
  if raw < c.rawLo then c.engLo else if c.rawHi < raw then c.engHi else scaleRaw c raw

/-- R175: the raw conversion lies beyond the tolerance at either end. -/
def beyondTolerance (c : Scaling) (raw : Int) : Bool :=
  decide (raw < c.rawLo - c.tolerance) || decide (c.rawHi + c.tolerance < raw)

/-- R175: a conversion is judged against the channel's scaling parameters; in FAULT the value is held. -/
def judgeRaw (a : AnalogChannel) (c : Scaling) (raw : Nat) (r : Analog) : Analog :=
  if beyondTolerance c raw then { r with raw := raw, fault := true }
  else { raw := raw, value := clamp (engLow a) (engHigh a) (valueOfRaw c raw), fault := false }

/-- R175: a conversion is handed to the channel's consumer at once, with its condition; readiness follows (R7). -/
def consumeConversion (a : AnalogChannel) (s : State) : State :=
  match a with
  | .temp z => settleReadiness (zoneConversion z s)
  | .ext d => settleReadiness (extConversion d s)
  | .level c => feedConversion c s

/-- R175: a channel converts. -/
def convert (a : AnalogChannel) (raw : BitVec 12) (s : State) : State :=
  consumeConversion a (setAnalog a (judgeRaw a (s.settings.scaling.get a) raw.toNat (s.analog.get a)) s)

/-! ### Digital inputs (R177) -/

/-- R55, R7: the feedback input of a zone has changed, or its view has (R178). -/
def consumeFeedback (z : Zone) (s : State) : State := settleReadiness (feedbackChange z s)

/-- R177: a change of the debounced level to `level` is handed to the input's consumer. -/
def consumeLevel (i : DigitalInput) (level : Bool) (s : State) : State :=
  match i with
  | .travelPulse => if edgeSeen s.settings.inputs.travelPulse.mode level then countEdge s else s
  | .travelDir => s
  | .estop => if estopActive level then assertEstop s else releaseEstop s
  | .feedback z => consumeFeedback z s

/-- R177: the debounced level takes the pin level. -/
def takeLevel (i : DigitalInput) (s : State) : State :=
  let r := s.inputs.get i
  let taken := setInput i { r with debounced := r.pin, timer := none } s
  if r.pin = r.debounced then taken else consumeLevel i r.pin taken

/-- R177: a change of the pin level restarts the debounce timer, or is taken at once when the debounce time is 0. -/
def changePin (i : DigitalInput) (level : Bool) (s : State) : State :=
  let r := s.inputs.get i
  if r.pin = level then s
  else
    let moved := setInput i { r with pin := level, timer := some (s.settings.inputs.get i).debounce } s
    if (s.settings.inputs.get i).debounce = 0 then takeLevel i moved else moved

end Sys2Proof.Machine
end

