-- ==== Sys2Proof/Machine/Store.lean ====
section
/-! DEFINITION. Reset, the settings store and start-up (sections 1.3, 11.4 and 11.5): the settings load and what its completion sets off,
STORE_SETTINGS and the end of the store write. -/

namespace Sys2Proof.Machine

open Sys2Proof

/-! ### Reset (R3) -/

/-- The pin levels, which reset does not decide. -/
def pinLevels (s : State) : PerInput Bool where
  travelPulse := s.inputs.travelPulse.pin
  travelDir := s.inputs.travelDir.pin
  estop := s.inputs.estop.pin
  feedback := ⟨s.inputs.feedback.ml.pin, s.inputs.feedback.mr.pin, s.inputs.feedback.el.pin, s.inputs.feedback.er.pin,
    s.inputs.feedback.bl.pin, s.inputs.feedback.br.pin, s.inputs.feedback.tl.pin, s.inputs.feedback.tr.pin⟩

/-- R182: a reset while a store is being written leaves the image incomplete, so that the next load finds a bad check (R5). -/
def arrayAfterReset (st : Store) : NvArray :=
  match st.state with
  | .idle => st.array
  | .writing _ => .bad

/-- R3: the machine at the end of a reset taken in state `s`. -/
def resetFrom (s : State) : State := State.afterReset (pinLevels s) (arrayAfterReset s.store) s.pending

/-! ### The settings load (R5, R180) -/

/-- R180: the image the load finds good, or none. -/
def loadedImage (readInFull : Bool) (array : NvArray) : Option SettingsImage :=
  match array with
  | .bad => none
  | .good image => if readInFull then some image else none

/-- R5, R27, R73, R180: the values of a good image replace the built-in defaults. -/
def applyImage (image : SettingsImage) (s : State) : State :=
  { s with
    settings := image.settings
    health := ⟨image.health.ml.stored, image.health.mr.stored, image.health.el.stored, image.health.er.stored,
      image.health.bl.stored, image.health.br.stored, image.health.tl.stored, image.health.tr.stored⟩
    travel := { s.travel with stop := { s.travel.stop with codeInForce := image.settings.standbyCode, pending := false } } }

/-- R22, R24, R132: the loaded pulses per metre and record interval take effect, without a close. -/
def settleTravel (s : State) : State := recomputeMark (moveWindow s.travel.station (computeStation s))

/-- R6 step 1, with the load outcome of R180 and the opening of the record memory (R147). -/
def noteOutcome (image : Option SettingsImage) (s : State) : State :=
  match image with
  | some i =>
    { settleTravel (applyImage i s) with
      store := { s.store with loadOutcome := .good, defaulted := false }
      recordsOpen := true }
  | none =>
    appendEvent .settingsStore (.settings .defaulted)
      { s with store := { s.store with loadOutcome := .defaulted, defaulted := true }, recordsOpen := true }

/-- R156: the job number after one that stands. -/
def nextJobNumber (n : Nat) : Nat := (n + 1) % 65536

/-- R5: the last job number of the image, 0 after a bad check. -/
def lastJobOf (image : Option SettingsImage) : Nat :=
  match image with
  | some i => i.lastJob
  | none => 0

/-- The JOB_STARTED record of the job header as it stands (R6, R157). -/
def recordJob (origin : Origin) (s : State) : State :=
  appendEvent origin (.jobStarted s.job.number s.job.lane s.job.layer s.job.start) s

/-- R6 step 2: the job begun at reset takes its number. -/
def numberJob (last : Nat) (s : State) : State :=
  recordJob .modeController { s with job := { s.job with number := nextJobNumber last } }

/-- R6: start-up ends; and R80: the first sensor round begins. -/
def completeLoad (readInFull : Bool) (s : State) : State :=
  if s.mode = .starting then
    let image := loadedImage readInFull s.store.array
    let judged := evaluateReadiness (numberJob (lastJobOf image) (noteOutcome image s))
    startRound (blocksSee .starting (runCondition judged) false (changeMode .parked .start .modeController judged))
  else s

/-! ### STORE_SETTINGS (R181, R182) -/

/-- R181: the snapshot of every value that R180 lists. -/
def snapshotOf (s : State) : SettingsImage where
  settings := s.settings
  health := ⟨s.health.ml.stored, s.health.mr.stored, s.health.el.stored, s.health.er.stored,
    s.health.bl.stored, s.health.br.stored, s.health.tl.stored, s.health.tr.stored⟩
  lastJob := s.job.number

/-- R181: STORE_SETTINGS. -/
def serveStoreSettings (p : Port) (s : State) : Served :=
  if holds s p .mode = false then refuse .notHolder s
  else if s.mode ≠ .parked ∧ s.mode ≠ .ready then refuse .state s
  else ({ s with store := { s.store with state := .writing (snapshotOf s) } }, none)

/-- R182: the store has verified; the reply carries the check value written. -/
def storeDone (image : SettingsImage) (s : State) : State :=
  answerPort .oc { status := .ok, payload := u16 (imageCheck image).toNat }
    { s with store := { s.store with state := .idle, lastOutcome := .ok, defaulted := false, array := .good image } }

/-- R182: the store has failed its verify; the array holds the image written, or one the load judges bad. -/
def storeFailed (image : SettingsImage) (imageGood : Bool) (s : State) : State :=
  appendEvent .settingsStore (.settings .storeFailed)
    (answerPort .oc { status := .state }
      { s with
        store := { s.store with
          state := .idle, lastOutcome := .failed, array := if imageGood then .good image else .bad } })

/-- R182: the store write ends; without a store in flight nothing ends. -/
def endStoreWrite (readBackEqual imageGood : Bool) (s : State) : State :=
  match s.store.state with
  | .idle => s
  | .writing image => if readBackEqual then storeDone image s else storeFailed image imageGood s

end Sys2Proof.Machine
end

