-- ==== Sys2Proof/Machine/Jobs.lean ====
section
/-! DEFINITION. The requests of the record memory and of the heating controller's records: WRITE_JOB, READ_RECORDS, ACK_RECORDS, the
change of boundary, CLEAR_FAULT and CLEAR_HEALTH (chapters 3, 4 and 9). -/

namespace Sys2Proof.Machine

open Sys2Proof

/-! ### WRITE_JOB (R157) -/

/-- The layer kind a request's byte names (R156). -/
def layerOfByte (b : Byte) : Option Layer :=
  if b = 0 then some .base else if b = 1 then some .binder else if b = 2 then some .surface else none

/-- R157 step 2: the odometer starts again from the written start station, and the running window's start moves with it. -/
def restartTravel (start : Int) (s : State) : State :=
  moveWindow s.travel.station
    (setTravel { s.travel with pulseCount := 0, station := start, highWater := start } s)

/-- R157: the effect of an accepted WRITE_JOB. -/
def beginJob (p : Port) (road : List Byte) (lane : Nat) (layer : Layer) (start : Int) (s : State) : State :=
  let headed :=
    { s with job := { number := nextJobNumber s.job.number, road := road, lane := lane, layer := layer, start := start } }
  recordJob (.port p) (beginInterval (restartTravel start headed))

/-- R157: WRITE_JOB. -/
def serveWriteJob (p : Port) (road : List Byte) (lane layer : Byte) (start : Word) (s : State) : Served :=
  if holds s p .mode = false then refuse .notHolder s
  else if s.mode = .paving ∨ s.mode = .paused then refuse .state s
  else
    match layerOfByte layer with
    | none => refuse .unknown s
    | some k =>
      if 15 < lane.toNat then refuse .range s
      else
        let begun := beginJob p road lane.toNat k start.toInt s
        done (u16 begun.job.number) begun

/-! ### READ_RECORDS (R151) -/

/-- The area a request's byte names (R184). -/
def areaOfByte (b : Byte) : Option AreaId :=
  if b = 0 then some .mat else if b = 1 then some .event else none

/-- R151 steps 4 to 6, for one area; `asked` is the count with 0 taken as 8. -/
def readReply {α : Type} (a : Area α) (encode : α → List Byte) (first asked : Nat) : Answer :=
  let header := sequenceField (oldestOf a)
  if first < oldestOf a then { status := .gone, payload := header }
  else if a.newest < first then { status := .ok, payload := header }
  else
    let records := readFrom a first asked
    { status := if records.length = asked then .ok else .partialOk
      payload := header ++ (records.map encode).flatten }

/-- R151: READ_RECORDS; no area state moves. -/
def serveReadRecords (area : Byte) (start : Word) (count : Byte) (s : State) : Served :=
  match areaOfByte area with
  | none => refuse .unknown s
  | some k =>
    if 8 < count.toNat then refuse .range s
    else
      let asked := if count = 0 then 8 else count.toNat
      match k with
      | .mat => (s, some (readReply s.mat profileBytes start.toNat asked))
      | .event => (s, some (readReply s.events eventBytes start.toNat asked))

/-! ### ACK_RECORDS (R153) -/

/-- The payload of an ACK_RECORDS reply. -/
def ackPayload {α : Type} (a : Area α) : List Byte := u32 a.ackPoint ++ u32 (unacked a)

/-- R153: an area takes an accepted acknowledgment, and a loss run may end (R149). -/
def acknowledge {α : Type} (capacity sequence : Nat) (a : Area α) : Area α := endLossRun capacity (ackArea sequence a)

/-- R153: ACK_RECORDS. -/
def serveAckRecords (p : Port) (area : Byte) (sequence : Word) (s : State) : Served :=
  if holds s p .records = false then refuse .notHolder s
  else
    match areaOfByte area with
    | none => refuse .unknown s
    | some .mat =>
      if s.mat.newest < sequence.toNat then refuse .range s
      else
        let a := acknowledge (capacityOf s .mat) sequence.toNat s.mat
        done (ackPayload a) { s with mat := a }
    | some .event =>
      if s.events.newest < sequence.toNat then refuse .range s
      else
        let a := acknowledge (capacityOf s .event) sequence.toNat s.events
        done (ackPayload a) { s with events := a }

/-! ### The change of boundary (R155) -/

/-- R155: a new MAT capacity empties both areas and appends AREAS_CLEARED; the present one changes nothing. -/
def changeBoundary (capacity : Nat) (s : State) : State :=
  if capacity = s.settings.matCapacity then s
  else
    appendEvent .recordMemory (.areasCleared s.mat.newest s.events.newest capacity)
      { s with
        settings := { s.settings with matCapacity := capacity }
        mat := clearArea s.mat
        events := clearArea s.events }

/-! ### CLEAR_FAULT and CLEAR_HEALTH (R57, R76) -/

/-- The zone a number names (section 3.1). -/
def zoneAt (n : Nat) : Option Zone := allZones[n]?

/-- R57: CLEAR_FAULT. -/
def serveClearFault (p : Port) (zone : Byte) (s : State) : Served :=
  if holds s p .heat = false then refuse .notHolder s
  else
    match zoneAt zone.toNat with
    | none => refuse .unknown s
    | some z =>
      if (s.zones.get z).latch = false then refuse .state s
      else done [] (settleReadiness (clearLatch z p s))

/-- R76: CLEAR_HEALTH; ALL is 8 (R184). -/
def serveClearHealth (p : Port) (zone : Byte) (s : State) : Served :=
  if holds s p .heat = false then refuse .notHolder s
  else
    match zoneAt zone.toNat with
    | some z => done [] (clearHealthOf (some z) p s)
    | none => if zone = 8 then done [] (clearHealthOf none p s) else refuse .unknown s

end Sys2Proof.Machine
end

