-- ==== Sys2Proof/Machine/Items.lean ====
section
/-! DEFINITION. The items of the fourteen groups (section 10.6): which index of a group is an item, which items a station may write, and
the 8-byte field each item reads as (R20, R37 to R39, R60, R72, R77, R93, R94, R113, R128, R144, R156, R159, R172, R183, R184). -/

namespace Sys2Proof.Machine

open Sys2Proof

/-! ### The items that a station may write -/

/-- The three parameters of a gain set (R100). -/
inductive GainParam where
  | deadband | band | minDuty
deriving DecidableEq, Repr

/-- A setpoint or a configuration parameter, by the group that holds it. -/
inductive Setting where
  | readinessBand
  | recordInterval | edgeMargin | segmentWidth | coldLimit | diffLimit
  | zoneSetpoint (zone : Zone) (set : SetpointSet)
  | exclude (zone : Zone)
  | rating (zone : Zone)
  | hysteresis | overtempMargin | extThreshold
  | generatorLimit | rotationSlice
  | refKind (side : Side)
  | minValid (side : Side)
  | sideSetpoint (side : Side) (which : SideSetpoint)
  | obstacleWindow | span | creep
  | gain (set : GainSet) (param : GainParam)
  | slotParam (slot : Slot) (param : SlotParam)
  | levelSetpoint (channel : FeedChannel)
  | feedGain (channel : FeedChannel)
  | manualDuty (channel : FeedChannel)
  | screed (part : ScreedPart)
  | pulsesPerMetre | standbyCode
  | matCapacity
  | scaling (channel : AnalogChannel) (param : ScalingParam)
  | input (input : DigitalInput) (param : InputParam)
  | polarity (output : Output)
deriving DecidableEq, Repr

/-- One parameter of a gain set. -/
def gainParamOf (g : GainSettings) : GainParam → Int
  | .deadband => g.deadband
  | .band => g.band
  | .minDuty => g.minDuty

/-- One scaling parameter of a channel. -/
def scalingParamOf (c : Scaling) : ScalingParam → Int
  | .rawLo => c.rawLo
  | .rawHi => c.rawHi
  | .engLo => c.engLo
  | .engHi => c.engHi
  | .tolerance => c.tolerance

/-- The number an item that may be written holds; an enumerated value by its code (R184). -/
def settingValue (f : Settings) : Setting → Int
  | .readinessBand => f.readinessBand
  | .recordInterval => f.recordInterval
  | .edgeMargin => f.edgeMargin
  | .segmentWidth => f.segmentWidth
  | .coldLimit => f.coldLimit
  | .diffLimit => f.diffLimit
  | .zoneSetpoint z .pave => (f.zones.get z).pave
  | .zoneSetpoint z .hold => (f.zones.get z).hold
  | .exclude z => if (f.zones.get z).exclude then 1 else 0
  | .rating z => (f.zones.get z).rating
  | .hysteresis => f.hysteresis
  | .overtempMargin => f.overtempMargin
  | .extThreshold => f.extThreshold
  | .generatorLimit => f.generatorLimit
  | .rotationSlice => f.rotationSlice
  | .refKind d => refKindCode (f.sides.get d).kind
  | .minValid d => (f.sides.get d).minValid
  | .sideSetpoint d .gradeOffset => (f.sides.get d).gradeOffset
  | .sideSetpoint d .slopeTarget => (f.sides.get d).slopeTarget
  | .obstacleWindow => f.obstacleWindow
  | .span => f.span
  | .creep => f.creep
  | .gain g p => gainParamOf (gainOf f g) p
  | .slotParam (.grade d k) .address => ((f.gradeSlots.get d).get k).address
  | .slotParam (.grade d k) .weight => ((f.gradeSlots.get d).get k).weight
  | .slotParam .slope .address => f.slopeSlot.address
  | .slotParam .slope .weight => f.slopeSlot.weight
  | .levelSetpoint c => (f.feed.get c).setpoint
  | .feedGain c => (f.feed.get c).gain
  | .manualDuty c => (f.feed.get c).manualDuty
  | .screed .main => f.mainLength
  | .screed (.boltOn d) => f.boltOn.get d
  | .pulsesPerMetre => f.pulsesPerMetre
  | .standbyCode => f.standbyCode
  | .matCapacity => f.matCapacity
  | .scaling a p => scalingParamOf (f.scaling.get a) p
  | .input i .mode => detectCode (f.inputs.get i).mode
  | .input i .debounce => (f.inputs.get i).debounce
  | .polarity o => polarityCode (f.polarity.get o)

/-- The field of an item that may be written, which its SET_ITEM reply carries too (R171). -/
def settingField (s : State) (x : Setting) : List Byte := numField (settingValue s.settings x)

/-! ### Numbering of zones, sides, slots, channels, inputs and outputs -/

def allAnalog : List AnalogChannel := allZones.map .temp ++ allSides.map .ext ++ allFeed.map .level

def allInputs : List DigitalInput := [.travelPulse, .travelDir, .estop] ++ allZones.map .feedback

/-- The outputs in the order of section 11.3. -/
def allOutputs : List Output :=
  [.gradeUp .left, .gradeDown .left, .gradeUp .right, .gradeDown .right,
   .feed .convL, .feed .convR, .feed .augL, .feed .augR,
   .widthIn .left, .widthOut .left, .widthIn .right, .widthOut .right]
    ++ allZones.map .contactor ++ [.travelPermit, .genLoad, .alarm]

/-! ### Fields of several parts (R184) -/

/-- A number or NONE. -/
def optionField (v : Option Nat) : List Byte :=
  match v with
  | some n => natField n
  | none => noneField

/-- A two-valued item, first listed value 0 (assumption 5). -/
def pairField (first : Bool) : List Byte := natField (pairCode first)

/-- R144 item 37. -/
def markField (mark : Option Int) : List Byte :=
  match mark with
  | some m => numField m
  | none => noneField

/-- R72: the grant of a zone. -/
def grantOf (s : State) (z : Zone) : Option Grant := s.grants.find? fun g => decide (g.zone = z)

def grantStartField (g : Option Grant) : List Byte :=
  match g with
  | some g => clockField g.start
  | none => noneField

/-- R60 field 14: demand, which is no while the zone is OFF or in FAULT. -/
def demandShown (s : State) (z : Zone) : Bool :=
  decide ((s.zones.get z).state ≠ .off) && decide ((s.zones.get z).state ≠ .fault) && demand s z

/-- A 4-byte sequence number in an item field. -/
def sequenceItem (n : Nat) : List Byte := field (sequenceField n)

/-! ### Groups -/

/-- A group's index split as 16 × unit + field. -/
def unitOf (index : Nat) : Nat := index / 16

def fieldOf (index : Nat) : Nat := index % 16

/-- System group: R20, R144. -/
def systemItem (s : State) : Nat → Option (List Byte)
  | 0 => some (natField (modeCode s.mode))
  | 1 => some (pairField s.pavePending)
  | 2 => some (pairField s.readiness)
  | 3 => some (pairField s.estop)
  | 5 => some (natField s.failing)
  | 37 => some (markField s.profiler.nextMark)
  | 38 => some (natField s.profiler.lines)
  | 39 => some (natField (flagMask s.profiler.flags))
  | 40 => some (field (markBytes s.profiler.marks))
  | 41 => some (natField s.profiler.lastCounter)
  | 42 => some (natField s.profiler.lineSilence)
  | 43 => some (pairField s.profiler.scanner)
  | _ => none

def systemSetting : Nat → Option Setting
  | 4 => some .readinessBand
  | 32 => some .recordInterval
  | 33 => some .edgeMargin
  | 34 => some .segmentWidth
  | 35 => some .coldLimit
  | 36 => some .diffLimit
  | _ => none

/-- The per-zone fields of the zone group: R60. -/
def zoneField (s : State) (z : Zone) : Nat → Option (List Byte)
  | 0 => some (natField (zoneStateCode (s.zones.get z).state))
  | 1 => some (natField (faultKindCode (faultKind (s.zones.get z))))
  | 2 => some (pairField (s.zones.get z).latch)
  | 3 => some (numField (zoneTemp s z))
  | 4 => some (pairField (!zoneChannelFault s z))
  | 5 => some (natField (activeSetCode (s.zones.get z).activeSet))
  | 6 => some (numField (s.zones.get z).activeSetpoint)
  | 11 => some (pairField (fitted s z))
  | 12 => some (pairField (inputActive s (.feedback z)))
  | 13 => some (natField (checkCode (s.zones.get z).check))
  | 14 => some (pairField (demandShown s z))
  | _ => none

def zoneSetting (z : Zone) : Nat → Option Setting
  | 7 => some (.zoneSetpoint z .pave)
  | 8 => some (.zoneSetpoint z .hold)
  | 9 => some (.exclude z)
  | 10 => some (.rating z)
  | _ => none

/-- Zone group: R60; item 130 is the absolute limit. -/
def zoneItem (s : State) (index : Nat) : Option (List Byte) :=
  if index = 130 then some (natField 2200)
  else (zoneAt (unitOf index)).bind fun z => zoneField s z (fieldOf index)

def zoneGroupSetting (index : Nat) : Option Setting :=
  match index with
  | 128 => some .hysteresis
  | 129 => some .overtempMargin
  | 131 => some .extThreshold
  | _ => (zoneAt (unitOf index)).bind fun z => zoneSetting z (fieldOf index)

/-- The fields of a health record: R77. -/
def healthField (h : Health) : Nat → Option (List Byte)
  | 0 => some (natField h.elementOpen)
  | 1 => some (natField h.overtemp)
  | 2 => some (natField h.sensorFault)
  | 3 => some (natField h.minutes)
  | 4 => some (natField h.seconds)
  | 5 => some (numField h.maxTemp)
  | 6 => some (natField (healthFaultCode h.lastFault))
  | 7 => some (clockField h.lastStamp)
  | 8 => some (numField h.lastStation)
  | _ => none

/-- Zone health group: R77. -/
def healthItem (s : State) (index : Nat) : Option (List Byte) :=
  (zoneAt (unitOf index)).bind fun z => healthField (s.health.get z) (fieldOf index)

/-- Budget group: R72. -/
def budgetItem (s : State) (index : Nat) : Option (List Byte) :=
  if index = 2 then some (natField (grantedSum s))
  else if index = 3 then some (numField (freePower s))
  else if index = 4 then some (natField s.queue.length)
  else if 8 ≤ index ∧ index ≤ 15 then some (optionField ((s.queue[index - 8]?).map zoneCode))
  else if 16 ≤ index ∧ index ≤ 23 then
    (zoneAt (index - 16)).map fun z => optionField ((grantOf s z).map (·.elapsed))
  else if 24 ≤ index ∧ index ≤ 31 then (zoneAt (index - 24)).map fun z => grantStartField (grantOf s z)
  else none

def budgetSetting : Nat → Option Setting
  | 0 => some .generatorLimit
  | 1 => some .rotationSlice
  | _ => none

def sideAt (n : Nat) : Option Side := allSides[n]?

/-- The per-side fields of the side group: R94, R113. -/
def sideField (s : State) (d : Side) : Nat → Option (List Byte)
  | 2 => some (natField (usedPlaces s.settings d).length)
  | 3 => some (natField (refValidCount s d))
  | 4 => some (natField (s.sides.get d).validCount)
  | 5 => some (pairField (!(s.sides.get d).returnManual))
  | 6 => some (natField (sideStateCode (s.sides.get d).state))
  | 9 => some (natField (verdictCode (s.sides.get d).verdict))
  | 10 => some (numField (s.sides.get d).deviation)
  | 11 => some (numField (s.sides.get d).error)
  | 12 => some (natField (gainCode (s.sides.get d).gain))
  | 13 => some (numField (s.sides.get d).duty)
  | 14 => some (natField (gradeDirCode (s.sides.get d).dir))
  | 15 => some (field (u16 (s.sides.get d).jogLeft ++ u8 (gradeEndCode (s.sides.get d).lastEnd)))
  | _ => none

def sideSetting (d : Side) : Nat → Option Setting
  | 0 => some (.refKind d)
  | 1 => some (.minValid d)
  | 7 => some (.sideSetpoint d .gradeOffset)
  | 8 => some (.sideSetpoint d .slopeTarget)
  | _ => none

/-- Side group: R94, R113. -/
def sideItem (s : State) (index : Nat) : Option (List Byte) :=
  match index with
  | 130 => some (natField s.sensors.staleRounds)
  | 131 => some (pairField (decide (s.sensors.staleRounds = 10)))
  | 132 => some (natField s.sensors.roundCount)
  | _ => (sideAt (unitOf index)).bind fun d => sideField s d (fieldOf index)

def sideGroupSetting (index : Nat) : Option Setting :=
  match index with
  | 128 => some .obstacleWindow
  | 129 => some .span
  | 133 => some .creep
  | 134 => some (.gain .a .deadband)
  | 135 => some (.gain .a .band)
  | 136 => some (.gain .a .minDuty)
  | 137 => some (.gain .b .deadband)
  | 138 => some (.gain .b .band)
  | 139 => some (.gain .b .minDuty)
  | _ => (sideAt (unitOf index)).bind fun d => sideSetting d (fieldOf index)

def slotAt (n : Nat) : Option Slot := allSlots[n]?

/-- The fields of a sensor slot: R93. -/
def slotField (s : State) (slot : Slot) : Nat → Option (List Byte)
  | 7 => some (pairField (slotUsed s.settings slot))
  | n =>
    match slot, n with
    | .grade d k, 2 => some (numField ((s.gradeSlots.get d).get k).reference)
    | .grade d k, 3 => some (pairField ((s.gradeSlots.get d).get k).refValid)
    | .grade d k, 4 => some (numField ((s.gradeSlots.get d).get k).reading)
    | .grade d k, 5 => some (natField (classCode ((s.gradeSlots.get d).get k).cls))
    | .grade d k, 6 => some (numField ((s.gradeSlots.get d).get k).deviation)
    | .slope, 4 => some (numField s.slopeSlot.reading)
    | .slope, 5 => some (natField (classCode s.slopeSlot.cls))
    | _, _ => none

def slotSetting : Slot → Nat → Option Setting
  | slot, 0 => some (.slotParam slot .address)
  | .grade d k, 1 => some (.slotParam (.grade d k) .weight)
  | _, _ => none

/-- Sensor slot group: R93. -/
def slotItem (s : State) (index : Nat) : Option (List Byte) :=
  (slotAt (unitOf index)).bind fun x => slotField s x (fieldOf index)

def slotGroupSetting (index : Nat) : Option Setting :=
  (slotAt (unitOf index)).bind fun x => slotSetting x (fieldOf index)

def feedAt (n : Nat) : Option FeedChannel := allFeed[n]?

/-- The fields of a feed channel: R128. -/
def feedField (s : State) (c : FeedChannel) : Nat → Option (List Byte)
  | 0 => some (natField (feedStateCode (s.feed.get c).state))
  | 1 => some (numField (feedLevel s c))
  | 2 => some (pairField (!feedFault s c))
  | 6 => some (numField (s.feed.get c).error)
  | 7 => some (numField (s.feed.get c).duty)
  | 8 => some (natField (s.feed.get c).hold)
  | 9 => some (field (i16 (s.feed.get c).jogDuty ++ u16 (s.feed.get c).jogLeft))
  | 10 => some (natField (feedEndCode (s.feed.get c).lastEnd))
  | _ => none

def feedSetting (c : FeedChannel) : Nat → Option Setting
  | 3 => some (.levelSetpoint c)
  | 4 => some (.feedGain c)
  | 5 => some (.manualDuty c)
  | _ => none

/-- Feed channel group: R128. -/
def feedItem (s : State) (index : Nat) : Option (List Byte) :=
  (feedAt (unitOf index)).bind fun c => feedField s c (fieldOf index)

def feedGroupSetting (index : Nat) : Option Setting :=
  (feedAt (unitOf index)).bind fun c => feedSetting c (fieldOf index)

/-- R39 items 10 and 11. -/
def widthJogField (r : Extension) : List Byte := field (u8 (widthDirCode r.jogDir) ++ u16 r.jogLeft)

/-- Geometry group: R39. -/
def geometryItem (s : State) : Nat → Option (List Byte)
  | 3 => some (numField s.geometry.left.position)
  | 4 => some (numField s.geometry.right.position)
  | 5 => some (numField (screedWidth s))
  | 6 => some (numField (edgeL s))
  | 7 => some (numField (edgeR s))
  | 8 => some (pairField s.geometry.left.stale)
  | 9 => some (pairField s.geometry.right.stale)
  | 10 => some (widthJogField s.geometry.left)
  | 11 => some (widthJogField s.geometry.right)
  | 12 => some (natField (widthEndCode s.geometry.left.lastEnd))
  | 13 => some (natField (widthEndCode s.geometry.right.lastEnd))
  | _ => none

def geometrySetting : Nat → Option Setting
  | 0 => some (.screed .main)
  | 1 => some (.screed (.boltOn .left))
  | 2 => some (.screed (.boltOn .right))
  | _ => none

/-- Travel group: R37. -/
def travelItem (s : State) : Nat → Option (List Byte)
  | 0 => some (numField s.travel.pulseCount)
  | 1 => some (numField s.travel.station)
  | 2 => some (numField s.travel.highWater)
  | 3 => some (numField s.job.start)
  | 4 => some (numField s.travel.speed)
  | 5 => some (numField s.travel.windowChange)
  | 7 => some (natField s.travel.pulseSilence)
  | 9 => some (natField (stopCode s.travel.stop.state))
  | 10 => some (natField s.travel.stop.elapsed)
  | 11 => some (natField s.travel.stop.codeInForce)
  | 12 => some (pairField s.travel.stop.pending)
  | _ => none

def travelSetting : Nat → Option Setting
  | 6 => some .pulsesPerMetre
  | 8 => some .standbyCode
  | _ => none

/-- Clock group: R38. -/
def clockItem (s : State) : Nat → Option (List Byte)
  | 0 => some (natField s.clock.day.toNat)
  | 1 => some (natField s.clock.hour.toNat)
  | 2 => some (natField s.clock.minute.toNat)
  | 3 => some (natField s.clock.second.toNat)
  | 4 => some (natField s.clock.sixteenth.toNat)
  | _ => none

/-- Job group: R156. -/
def jobItem (s : State) : Nat → Option (List Byte)
  | 0 => some (natField s.job.number)
  | 1 => some (field (s.job.road.take 8))
  | 2 => some (field (s.job.road.drop 8))
  | 3 => some (natField s.job.lane)
  | 4 => some (natField (layerCode s.job.layer))
  | 5 => some (numField s.job.start)
  | _ => none

/-- The fields of an area but the capacity and the first lost: R159. -/
def areaField {α : Type} (a : Area α) (capacity : Nat) : Nat → Option (List Byte)
  | 1 => some (natField a.held.length)
  | 2 => some (sequenceItem (oldestOf a))
  | 3 => some (natField a.newest)
  | 4 => some (natField a.ackPoint)
  | 5 => some (natField (unacked a))
  | 6 => some (natField a.appended)
  | 7 => some (natField a.overwritten)
  | 8 => some (natField a.lost)
  | 9 => some (natField a.lostAtAck)
  | 11 => some (pairField (nearFull a capacity))
  | 12 => some (pairField (lossStands a))
  | _ => none

/-- Area group: R159. -/
def areaItem (s : State) (index : Nat) : Option (List Byte) :=
  if index = 10 then some (optionField s.mat.firstLost)
  else if index = 16 then some (natField (capacityOf s .event))
  else
    match unitOf index with
    | 0 => areaField s.mat (capacityOf s .mat) (fieldOf index)
    | 1 => areaField s.events (capacityOf s .event) (fieldOf index)
    | _ => none

def areaSetting : Nat → Option Setting
  | 0 => some .matCapacity
  | _ => none

def portAt (n : Nat) : Option Port := allPorts[n]?

/-- The fields of a port: R172. Field 4 carries the KIND byte of the request in flight, of an unknown kind too (assumption 42). -/
def portField (s : State) (p : Port) : Nat → Option (List Byte)
  | 0 => some (natField (portCode p))
  | 1 => some (pairField (s.ports.get p).up)
  | 2 => some (natField (s.ports.get p).silence)
  | 3 => some (natField (s.ports.get p).frameErrors)
  | 4 => some (optionField ((s.ports.get p).inFlight.map fun f => f.kind.toNat))
  | 5 => some (natField (busyQueue (s.ports.get p)).length)
  | 6 => some (natField (functionMask s.authority p))
  | _ => none

/-- Port group: R172. -/
def portItem (s : State) (index : Nat) : Option (List Byte) :=
  (portAt (unitOf index)).bind fun p => portField s p (fieldOf index)

/-- The fields of an analog channel: R183. -/
def analogField (s : State) (a : AnalogChannel) : Nat → Option (List Byte)
  | 0 => some (natField (s.analog.get a).raw)
  | 1 => some (numField (s.analog.get a).value)
  | 2 => some (pairField (!(s.analog.get a).fault))
  | _ => none

def analogSetting (a : AnalogChannel) : Nat → Option Setting
  | 3 => some (.scaling a .rawLo)
  | 4 => some (.scaling a .rawHi)
  | 5 => some (.scaling a .engLo)
  | 6 => some (.scaling a .engHi)
  | 7 => some (.scaling a .tolerance)
  | _ => none

/-- The fields of a digital input: R183. -/
def inputField (s : State) (i : DigitalInput) : Nat → Option (List Byte)
  | 0 => some (pairField (s.inputs.get i).pin)
  | 1 => some (pairField (s.inputs.get i).debounced)
  | _ => none

def inputSetting (i : DigitalInput) : Nat → Option Setting
  | 2 => some (.input i .mode)
  | 3 => some (.input i .debounce)
  | _ => none

/-- An output value: a duty, or on and off as a two-valued item (R179, assumption 5). -/
def outputValueField (o : Output) (v : Int) : List Byte :=
  if isPwm o then numField v else pairField (decide (v = 1))

/-- The fields of an output: R183. -/
def outputField (s : State) (o : Output) : Nat → Option (List Byte)
  | 0 => some (outputValueField o (commanded s o))
  | 1 => some (outputValueField o (driven s o))
  | _ => none

def outputSetting (o : Output) : Nat → Option Setting
  | 2 => some (.polarity o)
  | _ => none

/-- The store's items: R183. -/
def storeItem (st : Store) : Nat → Option (List Byte)
  | 384 => some (natField (loadOutcomeCode st.loadOutcome))
  | 385 => some (pairField st.defaulted)
  | 386 => some (pairField (decide (st.state = .idle)))
  | 387 => some (natField (storeOutcomeCode st.lastOutcome))
  | _ => none

/-- Settings group: R183. -/
def settingsItem (s : State) (index : Nat) : Option (List Byte) :=
  if index < 224 then (allAnalog[index / 16]?).bind fun a => analogField s a (index % 16)
  else if index < 272 then (allInputs[(index - 224) / 4]?).bind fun i => inputField s i ((index - 224) % 4)
  else if index < 384 then (allOutputs[(index - 272) / 4]?).bind fun o => outputField s o ((index - 272) % 4)
  else storeItem s.store index

def settingsSetting (index : Nat) : Option Setting :=
  if index < 224 then (allAnalog[index / 16]?).bind fun a => analogSetting a (index % 16)
  else if index < 272 then (allInputs[(index - 224) / 4]?).bind fun i => inputSetting i ((index - 224) % 4)
  else if index < 384 then (allOutputs[(index - 272) / 4]?).bind fun o => outputSetting o ((index - 272) % 4)
  else none

/-! ### Every group (section 12.1) -/

/-- The groups in the order of section 12.1. -/
inductive ItemGroup where
  | system | zone | health | budget | side | slot | feed | geometry | travel | clock | job | area | port | settings
deriving DecidableEq, Repr

def allGroups : List ItemGroup :=
  [.system, .zone, .health, .budget, .side, .slot, .feed, .geometry, .travel, .clock, .job, .area, .port, .settings]

/-- The group a request's byte names. -/
def groupOfByte (b : Byte) : Option ItemGroup := allGroups[b.toNat]?

/-- The item of a group and index that a station may write, or none. -/
def settingAt (g : ItemGroup) (index : Nat) : Option Setting :=
  match g with
  | .system => systemSetting index
  | .zone => zoneGroupSetting index
  | .budget => budgetSetting index
  | .side => sideGroupSetting index
  | .slot => slotGroupSetting index
  | .feed => feedGroupSetting index
  | .geometry => geometrySetting index
  | .travel => travelSetting index
  | .area => areaSetting index
  | .settings => settingsSetting index
  | .health | .clock | .job | .port => none

/-- The field of a read-only item of a group and index, or none. -/
def readOnlyField (s : State) (g : ItemGroup) (index : Nat) : Option (List Byte) :=
  match g with
  | .system => systemItem s index
  | .zone => zoneItem s index
  | .health => healthItem s index
  | .budget => budgetItem s index
  | .side => sideItem s index
  | .slot => slotItem s index
  | .feed => feedItem s index
  | .geometry => geometryItem s index
  | .travel => travelItem s index
  | .clock => clockItem s index
  | .job => jobItem s index
  | .area => areaItem s index
  | .port => portItem s index
  | .settings => settingsItem s index

/-- The field an item reads as, or none where the index is not given to an item (R170). -/
def itemField (s : State) (g : ItemGroup) (index : Nat) : Option (List Byte) :=
  match settingAt g index with
  | some x => some (settingField s x)
  | none => readOnlyField s g index

/-! ### READ_ITEM (R170) -/

/-- The fields of `count` items from `first` on, or none where an index among them is not given to an item. -/
def itemFields (s : State) (g : ItemGroup) (first : Nat) : Nat → Option (List Byte)
  | 0 => some []
  | n + 1 =>
    match itemField s g first, itemFields s g (first + 1) n with
    | some bs, some rest => some (bs ++ rest)
    | _, _ => none

/-- R170: READ_ITEM; reading changes no state. -/
def serveReadItem (group : Byte) (first : Half) (count : Byte) (s : State) : Served :=
  match groupOfByte group with
  | none => refuse .unknown s
  | some g =>
    if count = 0 ∨ 16 < count.toNat then refuse .range s
    else
      match itemFields s g first.toNat count.toNat with
      | none => refuse .unknown s
      | some bs => done bs s

end Sys2Proof.Machine
end

