-- ==== Sys2Proof/Machine/Writes.lean ====
section
/-! DEFINITION. SET_ITEM (R171): who may write each item and when, the ranges, the clamps, the further checks of each block, and what an
accepted write sets off (R8, R22, R27, R31, R42, R44, R46, R52, R58, R61, R62, R68, R79, R84 to R86, R99, R100, R115, R144, R155,
R176, R178, R179). -/

namespace Sys2Proof.Machine

open Sys2Proof

/-! ### Who may write (section 10.6) -/

/-- The function that owns a setpoint, or none for a configuration parameter. -/
def setpointOwner : Setting → Option Function
  | .zoneSetpoint _ _ => some .heat
  | .exclude _ => some .heat
  | .sideSetpoint d _ => some (.grade d)
  | .levelSetpoint c => some (.feed (feedSide c))
  | .standbyCode => some .mode
  | _ => none

/-- R178: the ESTOP mode is read-only. Every other item of `Setting` may be written. -/
def readOnlySetting (x : Setting) : Bool := decide (x = .input .estop .mode)

/-! ### Bounds -/

/-- The bounds of each item; a bolt-on length and the main length have a finer range (R31). -/
def boundsOf : Setting → Int × Int
  | .readinessBand => (10, 300)
  | .recordInterval => (100, 2000)
  | .edgeMargin => (0, 500)
  | .segmentWidth => (250, 1000)
  | .coldLimit => (100, 400)
  | .diffLimit => (10, 200)
  | .zoneSetpoint _ _ => (500, 1800)
  | .exclude _ => (0, 1)
  | .rating _ => (1, 200)
  | .hysteresis => (10, 100)
  | .overtempMargin => (100, 600)
  | .extThreshold => (0, 2500)
  | .generatorLimit => (10, 600)
  | .rotationSlice => (10, 300)
  | .refKind _ => (0, 1)
  | .minValid _ => (1, 4)
  | .sideSetpoint _ .gradeOffset => (-300, 300)
  | .sideSetpoint _ .slopeTarget => (-1000, 1000)
  | .obstacleWindow => (100, 1000)
  | .span => (2000, 4000)
  | .creep => (5, 50)
  | .gain _ .deadband => (0, 50)
  | .gain _ .band => (20, 500)
  | .gain _ .minDuty => (0, 300)
  | .slotParam _ .address => (0, 30)
  | .slotParam _ .weight => (0, 4)
  | .levelSetpoint _ => (100, 900)
  | .feedGain _ => (10, 1000)
  | .manualDuty _ => (100, 1000)
  | .screed .main => (2500, 3500)
  | .screed (.boltOn _) => (0, 1000)
  | .pulsesPerMetre => (100, 20000)
  | .standbyCode => (0, 200)
  | .matCapacity => (64, 1984)
  | .scaling _ .rawLo => (0, 4095)
  | .scaling _ .rawHi => (0, 4095)
  | .scaling a .engLo => (engLow a, engHigh a)
  | .scaling a .engHi => (engLow a, engHigh a)
  | .scaling _ .tolerance => (0, 200)
  | .input _ .mode => (0, 4)
  | .input _ .debounce => (0, 20)
  | .polarity _ => (0, 1)

/-- R31: the main length is even, a bolt-on length 0, 500 or 1000; every other item takes any value within its bounds. -/
def finerRange : Setting → Int → Bool
  | .screed .main, v => decide (v % 2 = 0)
  | .screed (.boltOn _), v => decide (v = 0 ∨ v = 500 ∨ v = 1000)
  | _, _ => true

/-- The value lies within the item's range. -/
def inRange (x : Setting) (v : Int) : Bool :=
  decide ((boundsOf x).1 ≤ v) && decide (v ≤ (boundsOf x).2) && finerRange x v

/-- A setpoint's value as stored: the nearest bound where it lies beyond one (R171). -/
def clampSetting (x : Setting) (v : Int) : Int := clamp (boundsOf x).1 (boundsOf x).2 v

/-! ### Storing -/

/-- The enumerated values by code. -/
def refKindOf (v : Int) : RefKind := if v = 1 then .slope else .grade

def detectOf (v : Int) : DetectMode :=
  if v = 0 then .levelHigh else if v = 1 then .levelLow else if v = 2 then .rising else if v = 3 then .falling else .both

def polarityOf (v : Int) : Polarity := if v = 1 then .activeLow else .activeHigh

def storeGainParam (g : GainSettings) (p : GainParam) (v : Int) : GainSettings :=
  match p with
  | .deadband => { g with deadband := v }
  | .band => { g with band := v }
  | .minDuty => { g with minDuty := v }

def storeScalingParam (c : Scaling) (p : ScalingParam) (v : Int) : Scaling :=
  match p with
  | .rawLo => { c with rawLo := v }
  | .rawHi => { c with rawHi := v }
  | .engLo => { c with engLo := v }
  | .engHi => { c with engHi := v }
  | .tolerance => { c with tolerance := v }

def storeZone (f : Settings) (z : Zone) (c : ZoneSettings) : Settings := { f with zones := f.zones.set z c }

def storeSide (f : Settings) (d : Side) (c : SideSettings) : Settings := { f with sides := f.sides.set d c }

def storeFeed (f : Settings) (k : FeedChannel) (c : FeedSettings) : Settings := { f with feed := f.feed.set k c }

def storeGradeSlot (f : Settings) (d : Side) (k : GradePlace) (c : SlotSettings) : Settings :=
  { f with gradeSlots := f.gradeSlots.set d ((f.gradeSlots.get d).set k c) }

def storeInput (f : Settings) (i : DigitalInput) (c : InputSettings) : Settings := { f with inputs := f.inputs.set i c }

/-- The settings with one item stored. -/
def storeSetting (f : Settings) (x : Setting) (v : Int) : Settings :=
  match x with
  | .readinessBand => { f with readinessBand := v }
  | .recordInterval => { f with recordInterval := v }
  | .edgeMargin => { f with edgeMargin := v }
  | .segmentWidth => { f with segmentWidth := v }
  | .coldLimit => { f with coldLimit := v.toNat }
  | .diffLimit => { f with diffLimit := v.toNat }
  | .zoneSetpoint z .pave => storeZone f z { f.zones.get z with pave := v }
  | .zoneSetpoint z .hold => storeZone f z { f.zones.get z with hold := v }
  | .exclude z => storeZone f z { f.zones.get z with exclude := decide (v = 1) }
  | .rating z => storeZone f z { f.zones.get z with rating := v.toNat }
  | .hysteresis => { f with hysteresis := v }
  | .overtempMargin => { f with overtempMargin := v }
  | .extThreshold => { f with extThreshold := v }
  | .generatorLimit => { f with generatorLimit := v.toNat }
  | .rotationSlice => { f with rotationSlice := v.toNat }
  | .refKind d => storeSide f d { f.sides.get d with kind := refKindOf v }
  | .minValid d => storeSide f d { f.sides.get d with minValid := v.toNat }
  | .sideSetpoint d .gradeOffset => storeSide f d { f.sides.get d with gradeOffset := v }
  | .sideSetpoint d .slopeTarget => storeSide f d { f.sides.get d with slopeTarget := v }
  | .obstacleWindow => { f with obstacleWindow := v }
  | .span => { f with span := v }
  | .creep => { f with creep := v }
  | .gain .a p => { f with gainA := storeGainParam f.gainA p v }
  | .gain .b p => { f with gainB := storeGainParam f.gainB p v }
  | .slotParam (.grade d k) .address => storeGradeSlot f d k { (f.gradeSlots.get d).get k with address := v.toNat }
  | .slotParam (.grade d k) .weight => storeGradeSlot f d k { (f.gradeSlots.get d).get k with weight := v.toNat }
  | .slotParam .slope .address => { f with slopeSlot := { f.slopeSlot with address := v.toNat } }
  | .slotParam .slope .weight => { f with slopeSlot := { f.slopeSlot with weight := v.toNat } }
  | .levelSetpoint c => storeFeed f c { f.feed.get c with setpoint := v }
  | .feedGain c => storeFeed f c { f.feed.get c with gain := v }
  | .manualDuty c => storeFeed f c { f.feed.get c with manualDuty := v }
  | .screed .main => { f with mainLength := v }
  | .screed (.boltOn d) => { f with boltOn := f.boltOn.set d v }
  | .pulsesPerMetre => { f with pulsesPerMetre := v }
  | .standbyCode => { f with standbyCode := v.toNat }
  | .matCapacity => { f with matCapacity := v.toNat }
  | .scaling a p => { f with scaling := f.scaling.set a (storeScalingParam (f.scaling.get a) p v) }
  | .input i .mode => storeInput f i { f.inputs.get i with mode := detectOf v }
  | .input i .debounce => storeInput f i { f.inputs.get i with debounce := v.toNat }
  | .polarity o => { f with polarity := f.polarity.set o (polarityOf v) }

/-! ### The further checks of a configuration write (R171 step 8) -/

/-- R79: no two slots hold the same non-zero address. -/
def addressesDistinct (f : Settings) : Bool :=
  decide (((allSlots.map (slotAddress f)).filter fun a => decide (a ≠ 0)).Nodup)

/-- R79, R85, R86: a GRADE side has enough used slots, and a SLOPE side finds the slope slot used. -/
def sideServed (f : Settings) (d : Side) : Bool :=
  match (f.sides.get d).kind with
  | .grade => decide ((f.sides.get d).minValid ≤ (usedPlaces f d).length)
  | .slope => slopeUsed f

/-- R79: the three conditions of the slot table. -/
def slotTableFits (f : Settings) : Bool := addressesDistinct f && sideServed f .left && sideServed f .right

def referencing (s : State) (d : Side) : Bool := decide ((s.sides.get d).state = .referencing)

/-- R79 step 2. -/
def slotHeld (s : State) : Slot → Bool
  | .grade d _ => referencing s d
  | .slope => referencing s .left || referencing s .right

/-- R85: not both sides SLOPE. -/
def kindsFit (f : Settings) : Bool := decide (f.sides.left.kind = .grade) || decide (f.sides.right.kind = .grade)

/-- The detection modes allowed for an input (section 11.2). -/
def modeAllowed : DigitalInput → DetectMode → Bool
  | .travelPulse, .rising => true
  | .travelPulse, .falling => true
  | .travelPulse, .both => true
  | .travelPulse, _ => false
  | .estop, .levelLow => true
  | .estop, _ => false
  | .travelDir, .levelHigh => true
  | .travelDir, .levelLow => true
  | .travelDir, _ => false
  | .feedback _, .levelHigh => true
  | .feedback _, .levelLow => true
  | .feedback _, _ => false

/-- A check that fails with CONFIG. -/
def configUnless (fits : Bool) : Option Status := if fits then none else some .config

/-- The owning block's further checks of a value within its range: the status of the first that fails. -/
def furtherCheck (s : State) (x : Setting) (v : Int) : Option Status :=
  let f := storeSetting s.settings x v
  match x with
  | .generatorLimit => configUnless (allZones.all fun z => decide (((s.settings.zones.get z).rating : Int) ≤ v))
  | .rating _ => configUnless (decide (v ≤ s.settings.generatorLimit))
  | .slotParam slot _ => if slotHeld s slot then some .state else configUnless (slotTableFits f)
  | .refKind d => if referencing s d then some .state else configUnless (kindsFit f && sideServed f d)
  | .minValid d => configUnless (decide ((f.sides.get d).kind = .slope) || sideServed f d)
  | .scaling a _ => configUnless (decide ((f.scaling.get a).rawLo < (f.scaling.get a).rawHi))
  | .input i .mode => configUnless (modeAllowed i (detectOf v))
  | _ => none

/-! ### What an accepted write sets off -/

/-- R79: the reference-valid flags of all four slots of a side are cleared. -/
def clearReferences (d : Side) (s : State) : State :=
  let r := s.gradeSlots.get d
  { s with
    gradeSlots := s.gradeSlots.set d
      ⟨{ r.g1 with refValid := false }, { r.g2 with refValid := false }, { r.g3 with refValid := false },
        { r.g4 with refValid := false }⟩ }

/-- The value is stored, and nothing follows at once. -/
def storeOnly (x : Setting) (v : Int) (s : State) : State := setSettings (storeSetting s.settings x v) s

/-- R8, R31, R44: the value is stored and readiness is evaluated. -/
def storeAndJudge (x : Setting) (v : Int) (s : State) : State := settleReadiness (storeOnly x v s)

/-- R42, R43: a zone's setpoint is stored, its active set selected again, and readiness evaluated. -/
def writeZoneSetpoint (z : Zone) (set : SetpointSet) (v : Int) (s : State) : State :=
  if settingValue s.settings (.zoneSetpoint z set) = v then s
  else settleReadiness (reselect z (storeOnly (.zoneSetpoint z set) v s))

/-- R58: an exclude flag is written, and readiness evaluated. -/
def writeExcludeFlag (z : Zone) (v : Int) (s : State) : State :=
  if settingValue s.settings (.exclude z) = v then s else settleReadiness (writeExclude z (decide (v = 1)) s)

/-- R79: a slot's address or weight is stored; a change of a grade slot clears its side's references. -/
def writeSlotParam (slot : Slot) (param : SlotParam) (v : Int) (s : State) : State :=
  if settingValue s.settings (.slotParam slot param) = v then s
  else
    match slot with
    | .grade d _ => clearReferences d (storeOnly (.slotParam slot param) v s)
    | .slope => storeOnly (.slotParam slot param) v s

/-- R22, R23, R24: pulses per metre is stored; the station value, the high-water station and the window's start follow. A lower value raises
the station value of a positive pulse count, and a high-water station it exceeds takes it (assumption 36). -/
def writePulsesPerMetre (v : Int) (s : State) : State :=
  moveWindow s.travel.station (moveStation (storeOnly .pulsesPerMetre v s))

/-- R132, R144: the record interval is stored and the next mark computed from the present high-water station. -/
def writeRecordInterval (v : Int) (s : State) : State := recomputeMark (storeOnly .recordInterval v s)

/-- R178: an input's mode is stored; a feedback input's change is handed to its consumer. -/
def writeInputMode (i : DigitalInput) (v : Int) (s : State) : State :=
  match i with
  | .feedback z => consumeFeedback z (storeOnly (.input i .mode) v s)
  | .travelPulse | .travelDir | .estop => storeOnly (.input i .mode) v s

/-- The effect of an accepted write, at once, by the owning block's rules. -/
def applySetting (x : Setting) (v : Int) (s : State) : State :=
  match x with
  | .readinessBand => storeAndJudge .readinessBand v s
  | .extThreshold => storeAndJudge .extThreshold v s
  | .screed part => storeAndJudge (.screed part) v s
  | .zoneSetpoint z set => writeZoneSetpoint z set v s
  | .exclude z => writeExcludeFlag z v s
  | .slotParam slot param => writeSlotParam slot param v s
  | .levelSetpoint c => writeLevelSetpoint c v s
  | .pulsesPerMetre => writePulsesPerMetre v s
  | .standbyCode => writeStandbyCode v.toNat s
  | .recordInterval => writeRecordInterval v s
  | .matCapacity => changeBoundary v.toNat s
  | .input i .mode => writeInputMode i v s
  | x => storeOnly x v s

/-! ### SET_ITEM (R171) -/

/-- The reply to an accepted write carries the value as stored. -/
def written (x : Setting) (status : Status) (s : State) : Served :=
  (s, some { status := status, payload := settingField s x })

/-- R171 steps 5 to 8: a configuration parameter. -/
def serveConfiguration (p : Port) (x : Setting) (v : Int) (s : State) : Served :=
  if holds s p .mode = false then refuse .notHolder s
  else if s.mode ≠ .parked then refuse .state s
  else if inRange x v = false then refuse .range s
  else
    match furtherCheck s x v with
    | some status => refuse status s
    | none => written x .ok (applySetting x v s)

/-- R42, R171 step 4: a setpoint, stored at the nearest bound. A value beyond a bound is answered OK_CLAMPED, whether or not the bound is
held already (assumption 37). -/
def serveSetpoint (p : Port) (owner : Function) (x : Setting) (v : Int) (s : State) : Served :=
  if holds s p owner = false then refuse .notHolder s
  else written x (if clampSetting x v = v then .ok else .okClamped) (applySetting x (clampSetting x v) s)

/-- R171 steps 3 to 8: an item that may be written; the value is a signed 32-bit number (R184). -/
def serveWrite (p : Port) (x : Setting) (value : Word) (s : State) : Served :=
  if readOnlySetting x then refuse .state s
  else
    match setpointOwner x with
    | some owner => serveSetpoint p owner x value.toInt s
    | none => serveConfiguration p x value.toInt s

/-- R171: SET_ITEM by group and index. -/
def serveSetItem (p : Port) (group : Byte) (index : Half) (value : Word) (s : State) : Served :=
  match groupOfByte group with
  | none => refuse .unknown s
  | some g =>
    match settingAt g index.toNat with
    | some x => serveWrite p x value s
    | none =>
      match readOnlyField s g index.toNat with
      | some _ => refuse .state s
      | none => refuse .unknown s

end Sys2Proof.Machine
end

