-- ==== Sys2Proof/Machine/Operands.lean ====
section
/-! DEFINITION. The forms of a request: the kind bytes and the payload layouts of section 12.2, read from raw bytes, and the serving of
each request by the block that owns its kind (section 5.6 of the overview). -/

namespace Sys2Proof.Machine

open Sys2Proof

/-! ### Little-endian reading (R184) -/

def half (lo hi : Byte) : Half := hi ++ lo

def word (b0 b1 b2 b3 : Byte) : Word := ((b3 ++ b2) ++ b1) ++ b0

/-! ### Requests (section 12.2) -/

/-- The eighteen request kinds. -/
inductive RequestKind where
  | status | readItem | setItem | take | release | go | sideMode | setReference | jog | feedMode | clearFault | clearHealth
  | mark | writeJob | readRecords | ackRecords | setClock | storeSettings
deriving DecidableEq, Repr

/-- The kinds in the order of their bytes 0x01 to 0x12. -/
def allKinds : List RequestKind :=
  [.status, .readItem, .setItem, .take, .release, .go, .sideMode, .setReference, .jog, .feedMode, .clearFault, .clearHealth,
   .mark, .writeJob, .readRecords, .ackRecords, .setClock, .storeSettings]

/-- A kind's byte. -/
def kindByte : RequestKind → Byte
  | .status => 0x01 | .readItem => 0x02 | .setItem => 0x03 | .take => 0x04 | .release => 0x05 | .go => 0x06
  | .sideMode => 0x07 | .setReference => 0x08 | .jog => 0x09 | .feedMode => 0x0A | .clearFault => 0x0B | .clearHealth => 0x0C
  | .mark => 0x0D | .writeJob => 0x0E | .readRecords => 0x0F | .ackRecords => 0x10 | .setClock => 0x11 | .storeSettings => 0x12

/-- The kind of a frame's KIND byte, or none (R163 case 3). -/
def kindOfByte (b : Byte) : Option RequestKind := allKinds.find? fun k => decide (kindByte k = b)

/-- A request with its payload read: one constructor per kind; JOG keeps its target byte. -/
inductive Request where
  | status
  | readItem (group : Byte) (first : Half) (count : Byte)
  | setItem (group : Byte) (index : Half) (value : Word)
  | take (function override : Byte)
  | release (function : Byte)
  | go (target : Byte)
  | sideMode (side target : Byte)
  | setReference (side : Byte)
  | jog (target direction duration : Byte)
  | feedMode (channel target : Byte)
  | clearFault (zone : Byte)
  | clearHealth (zone : Byte)
  | mark (code : Byte)
  | writeJob (road : List Byte) (lane layer : Byte) (start : Word)
  | readRecords (area : Byte) (start : Word) (count : Byte)
  | ackRecords (area : Byte) (sequence : Word)
  | setClock (day : Half) (hour minute second : Byte)
  | storeSettings
deriving DecidableEq, Repr

/-- R163 case 4: the payload of a kind, or none where its length is not the kind's (section 12.2). -/
def readPayload : RequestKind → List Byte → Option Request
  | .status, [] => some .status
  | .readItem, [g, i0, i1, n] => some (.readItem g (half i0 i1) n)
  | .setItem, [g, i0, i1, v0, v1, v2, v3, _, _, _, _] => some (.setItem g (half i0 i1) (word v0 v1 v2 v3))
  | .take, [f, o] => some (.take f o)
  | .release, [f] => some (.release f)
  | .go, [t] => some (.go t)
  | .sideMode, [d, t] => some (.sideMode d t)
  | .setReference, [d] => some (.setReference d)
  | .jog, [t, d, n] => some (.jog t d n)
  | .feedMode, [c, t] => some (.feedMode c t)
  | .clearFault, [z] => some (.clearFault z)
  | .clearHealth, [z] => some (.clearHealth z)
  | .mark, [c] => some (.mark c)
  | .writeJob, bytes =>
    match bytes.drop 16 with
    | [lane, layer, s0, s1, s2, s3] => some (.writeJob (bytes.take 16) lane layer (word s0 s1 s2 s3))
    | _ => none
  | .readRecords, [a, s0, s1, s2, s3, n] => some (.readRecords a (word s0 s1 s2 s3) n)
  | .ackRecords, [a, s0, s1, s2, s3] => some (.ackRecords a (word s0 s1 s2 s3))
  | .setClock, [d0, d1, h, m, sec] => some (.setClock (half d0 d1) h m sec)
  | .storeSettings, [] => some .storeSettings
  | _, _ => none

/-- A good frame's request, or none where it is answered UNKNOWN by R163 cases 3 and 4. -/
def requestOf (kind : Byte) (payload : List Byte) : Option Request :=
  (kindOfByte kind).bind fun k => readPayload k payload

/-! ### Serving (section 5.6 of the overview) -/

/-- R173: STATUS. -/
def serveStatus (p : Port) (s : State) : Served := done (statusPayload s p) s

/-- JOG by its target byte (R184); a byte above 7 is UNKNOWN. -/
def serveJog (p : Port) (target direction duration : Byte) (s : State) : Served :=
  match target.toNat with
  | 0 => serveJogGrade p .left direction duration s
  | 1 => serveJogGrade p .right direction duration s
  | 2 => serveJogFeed p .convL duration s
  | 3 => serveJogFeed p .convR duration s
  | 4 => serveJogFeed p .augL duration s
  | 5 => serveJogFeed p .augR duration s
  | 6 => serveJogWidth p .left direction duration s
  | 7 => serveJogWidth p .right direction duration s
  | _ => refuse .unknown s

/-- WRITE_JOB with its road identifier; one that is not 16 bytes makes a payload of another length (R163 case 4). -/
def serveRoadJob (p : Port) (road : List Byte) (lane layer : Byte) (start : Word) (s : State) : Served :=
  if road.length = 16 then serveWriteJob p road lane layer start s else refuse .unknown s

/-- The block that owns a request serves it. -/
def serveRequest (p : Port) (q : Request) (s : State) : Served :=
  match q with
  | .status => serveStatus p s
  | .readItem group first count => serveReadItem group first count s
  | .setItem group index value => serveSetItem p group index value s
  | .take function override => serveTake p function override s
  | .release function => serveRelease p function s
  | .go target => serveGo p target s
  | .sideMode side target => serveSideMode p side target s
  | .setReference side => serveSetReference p side s
  | .jog target direction duration => serveJog p target direction duration s
  | .feedMode channel target => serveFeedMode p channel target s
  | .clearFault zone => serveClearFault p zone s
  | .clearHealth zone => serveClearHealth p zone s
  | .mark code => serveMark p code s
  | .writeJob road lane layer start => serveRoadJob p road lane layer start s
  | .readRecords area start count => serveReadRecords area start count s
  | .ackRecords area sequence => serveAckRecords p area sequence s
  | .setClock day hour minute second => serveSetClock p day hour minute second s
  | .storeSettings => serveStoreSettings p s

/-- A good frame's payload, served or answered UNKNOWN (R163 cases 3 to 5). -/
def serveFrame (p : Port) (kind : Byte) (payload : List Byte) (s : State) : Served :=
  match requestOf kind payload with
  | none => refuse .unknown s
  | some q => serveRequest p q s

end Sys2Proof.Machine
end

