-- ==== Sys2Proof/Machine/Links.lean ====
section
/-! DEFINITION. Request acceptance (R163) and the two receivers: of a station line (R161) and of the sensor line (R185). -/

namespace Sys2Proof.Machine

open Sys2Proof

/-! ### Request acceptance (R163) -/

/-- R163 cases 2 to 5 for a frame that opens a request on its port: `serve` is what its owning block makes of it. -/
def acceptFrame (p : Port) (kind tag : Byte) (serve : State → Served) (s : State) : State :=
  let opened := openRequest p kind tag s
  if s.mode = .starting ∧ kind ≠ kindByte .status then answerPort p { status := .notReady } opened
  else deliver p (serve opened)

/-- R161 and R163: a good frame brings its link UP and is then answered BUSY, or taken by acceptance. -/
def takeFrame (p : Port) (kind tag : Byte) (serve : State → Served) (s : State) : State :=
  let heard := hearFrame p s
  if (s.ports.get p).inFlight.isSome then answerBusy p kind tag heard else acceptFrame p kind tag serve heard

/-- A good frame of a request kind whose payload has the kind's length. -/
def takeRequest (p : Port) (k : RequestKind) (tag : Byte) (serve : State → Served) (s : State) : State :=
  takeFrame p (kindByte k) tag serve s

/-- A good frame given raw. -/
def takeRawFrame (p : Port) (kind tag : Byte) (payload : List Byte) (s : State) : State :=
  takeFrame p kind tag (serveFrame p kind payload) s

/-! ### The receiver of a station port (R161) -/

/-- The SYNC byte of a station frame. -/
def stationSync : Byte := 0xA5

/-- The bytes of a frame from KIND through CHECK make a good frame, which is taken; nothing shorter than KIND, TAG and CHECK comes
here, since LEN is at least 2. -/
def takeFrameBytes (p : Port) (body : List Byte) (s : State) : State :=
  match body with
  | kind :: tag :: rest => takeRawFrame p kind tag rest.dropLast s
  | _ => s

/-- R161: the LEN field is in range. -/
def lengthGood (len : Nat) : Bool := decide (2 ≤ len) && decide (len ≤ 768)

/-- R161: the receiver is in a frame, with the bytes it has taken, the last of them just now. -/
def holdFrame (p : Port) (taken : List Byte) (s : State) : State :=
  setPort p { s.ports.get p with receiver := .inFrame taken 0 } s

/-- R161: the receiver of a port, hunting, takes bytes. The first number bounds the frames and skipped bytes it may still take; the number
of bytes is enough. A frame that the bytes do not end is held. -/
def receive (p : Port) : Nat → List Byte → State → State
  | 0, _, s => s
  | _ + 1, [], s => s
  | n + 1, b :: rest, s =>
    if b ≠ stationSync then receive p n rest s
    else
      match rest with
      | lo :: hi :: more =>
        let len := (half lo hi).toNat
        if lengthGood len = false then receive p n more (countFrameError p s)
        else if more.length < len + 1 then holdFrame p (b :: rest) s
        else if byteSum (lo :: hi :: more.take (len + 1)) = 0 then
          receive p n (more.drop (len + 1)) (takeFrameBytes p (more.take (len + 1)) s)
        else receive p n (more.drop (len + 1)) (countFrameError p s)
      | _ => holdFrame p (b :: rest) s

/-- R161: bytes arrive on a station line without a gap between them. They go on with the frame the receiver is in, unless more than 2 ms
have passed since its last byte, which discards it. -/
def receiveBytes (p : Port) (bytes : List Byte) (s : State) : State :=
  let r := s.ports.get p
  match r.receiver with
  | .hunting => receive p bytes.length bytes s
  | .inFrame taken gap =>
    if bytes = [] then s
    else if gap < 3 then
      receive p (taken ++ bytes).length (taken ++ bytes) (setPort p { r with receiver := .hunting } s)
    else receive p bytes.length bytes (endFrame p s)

/-! ### The receiver of the sensor port (R185) -/

/-- R185: a frame on the sensor line that is given whole begins while the receiver hunts, so a frame the receiver was in has been
discarded (assumption 35). -/
def hearSensor (s : State) : State := { s with sensorReceiver := .hunting }

/-- The SYNC byte of a sensor port frame. -/
def sensorSync : Byte := 0xC3

/-- The 16-bit values of a line's pixels, little-endian. -/
def halves : List Byte → List Half
  | lo :: hi :: rest => half lo hi :: halves rest
  | _ => []

/-- R81, R130: a good frame is handed on by its kind; `body` runs from the byte after the kind through CHECK. -/
def takeSensorFrame (kind : Byte) (body : List Byte) (s : State) : State :=
  match body with
  | a :: b :: rest =>
    if kind = 0x03 then takeScanLine (half a b) (halves rest.dropLast) s
    else
      match rest with
      | r0 :: r1 :: _ => takePollReply a b (half r0 r1) s
      | _ => s
  | _ => s

/-- The bytes of a sensor port frame after its kind, CHECK included, for the kinds taken from the line (section 12.6). -/
def sensorFrameRest (kind : Byte) : Option Nat :=
  if kind = 0x02 then some 5 else if kind = 0x03 then some 243 else none

/-- R185: the sensor port's receiver is in a frame, with the bytes it has taken, the last of them just now. -/
def holdSensorFrame (taken : List Byte) (s : State) : State := { s with sensorReceiver := .inFrame taken 0 }

/-- R185: the sensor port's receiver, hunting, takes bytes; discarded frames are counted nowhere. A frame that the bytes do not end is
held. -/
def receiveSensor : Nat → List Byte → State → State
  | 0, _, s => s
  | _ + 1, [], s => s
  | n + 1, b :: rest, s =>
    if b ≠ sensorSync then receiveSensor n rest s
    else
      match rest with
      | [] => holdSensorFrame (b :: rest) s
      | kind :: more =>
        match sensorFrameRest kind with
        | none => receiveSensor n more s
        | some len =>
          if more.length < len then holdSensorFrame (b :: rest) s
          else if byteSum (kind :: more.take len) = 0 then
            receiveSensor n (more.drop len) (takeSensorFrame kind (more.take len) s)
          else receiveSensor n (more.drop len) s

/-- R185: bytes arrive on the sensor line without a gap between them. They go on with the frame the receiver is in, unless more than
2 ms have passed since its last byte, which discards it. -/
def receiveSensorBytes (bytes : List Byte) (s : State) : State :=
  match s.sensorReceiver with
  | .hunting => receiveSensor bytes.length bytes s
  | .inFrame taken gap =>
    if bytes = [] then s
    else if gap < 3 then
      receiveSensor (taken ++ bytes).length (taken ++ bytes) { s with sensorReceiver := .hunting }
    else receiveSensor bytes.length bytes { s with sensorReceiver := .hunting }

end Sys2Proof.Machine
end

