-- ==== Sys2Proof/Machine/Time.lean ====
section
/-! DEFINITION. Elapsed time (assumption 7, DESIGN CHOICE): on an empty queue one millisecond passes. `elapse` moves every counter that
the manual lets run with time, and `due` lists the commands whose moment has come, in a fixed order; they join the queue. -/

namespace Sys2Proof.Machine

open Sys2Proof

/-- A time in whole units of `size` ms, as units counted and milliseconds of the running unit, one millisecond later. -/
def countUp (size top units ms : Nat) : Nat × Nat :=
  if ms + 1 < size then (units, ms + 1) else (satInc top units, 0)

/-- A remaining time in 0.1 s one millisecond later. The end of the last tenth is left to the expiry command. -/
def countDown (left ms : Nat) : Nat × Nat :=
  if left = 0 then (0, 0)
  else if left = 1 then (1, min 100 (ms + 1))
  else if ms + 1 < 100 then (left, ms + 1)
  else (left - 1, 0)

/-! ### The counters, one millisecond later -/

/-- R161, R185: the time since the last byte of a frame; past 2 ms it is left to the gap's command. -/
def elapseReceiver : Receiver → Receiver
  | .hunting => .hunting
  | .inFrame taken gap => .inFrame taken (satInc 3 gap)

/-- R160, R161: the silence time and the receiver of a port. -/
def elapsePort (r : PortState) : PortState :=
  { r with receiver := elapseReceiver r.receiver, silence := satInc top16 r.silence }

/-- R28: the stop timer's elapsed count while it runs. -/
def elapseStop (t : StopTimer) : StopTimer :=
  if t.state = .running then
    { t with elapsed := (countUp 1000 top16 t.elapsed t.subMs).1, subMs := (countUp 1000 top16 t.elapsed t.subMs).2 }
  else t

/-- R21, R24, R25, R28. -/
def elapseTravel (t : Travel) : Travel :=
  { t with
    pulseSilence := satInc top16 t.pulseSilence
    windowMs := t.windowMs + 1
    pauseMs := satInc top16 t.pauseMs
    stop := elapseStop t.stop }

/-- R35. -/
def elapseExtension (r : Extension) : Extension :=
  { r with jogLeft := (countDown r.jogLeft r.jogMs).1, jogMs := (countDown r.jogLeft r.jogMs).2 }

/-- R55: the delay of the element check. -/
def elapseZone (r : ZoneRec) : ZoneRec := if r.check = .delay then { r with checkMs := r.checkMs + 1 } else r

/-- R68: the slice elapsed. -/
def elapseGrant (g : Grant) : Grant :=
  { g with elapsed := (countUp 1000 300 g.elapsed g.subMs).1, subMs := (countUp 1000 300 g.elapsed g.subMs).2 }

/-- R75: the granted seconds; the end of the sixtieth is left to HEATING_MINUTE. -/
def elapseHealth (granted : Bool) (h : Health) : Health :=
  if granted = false then h
  else if h.seconds = 59 then { h with subMs := min 1000 (h.subMs + 1) }
  else { h with seconds := (countUp 1000 59 h.seconds h.subMs).1, subMs := (countUp 1000 59 h.seconds h.subMs).2 }

/-- R81: the wait for the reply to a poll. -/
def elapseRound (r : Round) : Round := { r with waited := r.waited + 1 }

/-- R80, R81. -/
def elapseSensors (r : Sensors) : Sensors :=
  { r with sinceStart := r.sinceStart + 1, round := r.round.map elapseRound }

/-- R111. -/
def elapseSide (r : SideRec) : SideRec :=
  { r with jogLeft := (countDown r.jogLeft r.jogMs).1, jogMs := (countDown r.jogLeft r.jogMs).2 }

/-- R119, R127. -/
def elapseFeed (r : FeedRec) : FeedRec :=
  { r with
    jogLeft := (countDown r.jogLeft r.jogMs).1, jogMs := (countDown r.jogLeft r.jogMs).2
    hold := (countDown r.hold r.holdMs).1, holdMs := (countDown r.hold r.holdMs).2 }

/-- R130. -/
def elapseProfiler (r : Profiler) : Profiler := { r with lineSilence := satInc top16 r.lineSilence }

/-- R177: a running debounce timer; its end is left to DEBOUNCE_EXPIRY. -/
def elapseInput (r : DigIn) : DigIn := { r with timer := r.timer.map (· - 1) }

/-- Every counter that runs with time, one millisecond later. -/
def elapse (s : State) : State :=
  { s with
    ports := ⟨elapsePort s.ports.oc, elapsePort s.ports.ls, elapsePort s.ports.rs, elapsePort s.ports.ru⟩
    travel := elapseTravel s.travel
    clockPhase := s.clockPhase + 2
    geometry := ⟨elapseExtension s.geometry.left, elapseExtension s.geometry.right⟩
    zones := ⟨elapseZone s.zones.ml, elapseZone s.zones.mr, elapseZone s.zones.el, elapseZone s.zones.er,
      elapseZone s.zones.bl, elapseZone s.zones.br, elapseZone s.zones.tl, elapseZone s.zones.tr⟩
    health := ⟨elapseHealth (granted s .ml) s.health.ml, elapseHealth (granted s .mr) s.health.mr,
      elapseHealth (granted s .el) s.health.el, elapseHealth (granted s .er) s.health.er,
      elapseHealth (granted s .bl) s.health.bl, elapseHealth (granted s .br) s.health.br,
      elapseHealth (granted s .tl) s.health.tl, elapseHealth (granted s .tr) s.health.tr⟩
    grants := s.grants.map elapseGrant
    sensorReceiver := elapseReceiver s.sensorReceiver
    sensors := elapseSensors s.sensors
    sides := ⟨elapseSide s.sides.left, elapseSide s.sides.right⟩
    feed := ⟨elapseFeed s.feed.convL, elapseFeed s.feed.convR, elapseFeed s.feed.augL, elapseFeed s.feed.augR⟩
    profiler := elapseProfiler s.profiler
    inputs :=
      { travelPulse := elapseInput s.inputs.travelPulse, travelDir := elapseInput s.inputs.travelDir
        estop := elapseInput s.inputs.estop
        feedback := ⟨elapseInput s.inputs.feedback.ml, elapseInput s.inputs.feedback.mr, elapseInput s.inputs.feedback.el,
          elapseInput s.inputs.feedback.er, elapseInput s.inputs.feedback.bl, elapseInput s.inputs.feedback.br,
          elapseInput s.inputs.feedback.tl, elapseInput s.inputs.feedback.tr⟩ } }

/-! ### The commands whose moment has come -/

/-- A command that comes only when its moment has. -/
def dueIf (b : Bool) (c : Instr) : List Instr := if b then [c] else []

/-- The commands whose moment has come, in the order they are taken. -/
def due (s : State) : List Instr :=
  dueIf (sixteenthReached s) .clockStep
    ++ (allZones.filter (minuteReached s)).map .heatingMinute
    ++ (allInputs.filter (debounceReached s)).map .debounceExpiry
    ++ (allPorts.filter fun p => gapReached (s.ports.get p).receiver).map .frameGapExpiry
    ++ (allPorts.filter (silenceReached s)).map .linkDown
    ++ (allZones.filter (checkReached s)).map .elementCheckDelayEnd
    ++ (allZones.filter (sliceReached s)).map .sliceExpiry
    ++ (allFeed.filter (holdReached s)).map .feedHoldExpiry
    ++ (allSides.filter (widthJogReached s)).map .widthJogExpiry
    ++ (allSides.filter (gradeJogReached s)).map .gradeJogExpiry
    ++ (allFeed.filter (feedJogReached s)).map .feedJogExpiry
    ++ dueIf (windowReached s) .speedWindowEnd
    ++ dueIf (pauseReached s) .pauseDetectorFire
    ++ dueIf (matchReached s) .stopTimerMatch
    ++ dueIf (gapReached s.sensorReceiver) .sensorFrameGapExpiry
    ++ dueIf (pollReached s) .pollTimeout
    ++ dueIf (roundReached s) .sensorRoundStart
    ++ dueIf (scannerReached s) .scanner

/-- One millisecond passes, and the commands whose moment it brings join the queue. -/
def tick (s : State) : State := { elapse s with pending := s.pending ++ due (elapse s) }

end Sys2Proof.Machine
end

