-- ==== Sys2Proof/Machine/Events.lean ====
section
/-! DEFINITION. The meanings of the commands that are no request: reset, start-up, the lines, the pins, the sensor port and everything that comes with
time. Each is one call of its block, a timed command's at its moment only. -/

namespace Sys2Proof.Machine

open Sys2Proof

/-- R3: reset, from the assertion of the reset input to its end. -/
def execReset (s : State) :
    Host.Outcome State Fault Refusal :=
  .next (resetFrom s)

/-- R5, R6: the settings load completes. -/
def execSettingsLoadComplete (readInFull : Bool) (s : State) :
    Host.Outcome State Fault Refusal :=
  .next (completeLoad readInFull s)

/-- R161: bytes arrive on a station line without a gap between them. -/
def execFrameError (port : Port) (bytes : List Byte) (s : State) :
    Host.Outcome State Fault Refusal :=
  .next (receiveBytes port bytes s)

/-- R161: a gap of more than 2 ms within a frame discards it, and the discard is counted. -/
def execFrameGapExpiry (port : Port) (s : State) :
    Host.Outcome State Fault Refusal :=
  .next (atMoment (gapReached (s.ports.get port).receiver) (endFrame port) s)

/-- R162, R169: the silence time of an UP link reaches 500 ms. -/
def execLinkDown (port : Port) (s : State) :
    Host.Outcome State Fault Refusal :=
  .next (atMoment (silenceReached s port) (linkSilent port) s)

/-- R163: a good frame, given raw; one that meets a request in flight is answered BUSY, or discarded and counted. -/
def execBusy (port : Port) (kind tag : Byte) (payload : List Byte) (s : State) :
    Host.Outcome State Fault Refusal :=
  .next (takeRawFrame port kind tag payload s)

/-- R163: a good frame, given raw; one of an unknown kind or length is answered UNKNOWN. -/
def execUnknownRequest (port : Port) (kind tag : Byte) (payload : List Byte) (s : State) :
    Host.Outcome State Fault Refusal :=
  .next (takeRawFrame port kind tag payload s)

/-- R163: the reply on the transmitter has been sent in full. -/
def execReplySent (port : Port) (s : State) :
    Host.Outcome State Fault Refusal :=
  .next (setPort port (finishReply (s.ports.get port)) s)

/-- R182: the store write ends. -/
def execStoreWriteEnd (readBackEqual imageGood : Bool) (s : State) :
    Host.Outcome State Fault Refusal :=
  .next (endStoreWrite readBackEqual imageGood s)

/-- R175: a channel converts. -/
def execAnalogConversion (channel : AnalogChannel) (raw : BitVec 12) (s : State) :
    Host.Outcome State Fault Refusal :=
  .next (convert channel raw s)

/-- R119, R120: the hold time reaches 0. -/
def execFeedHoldExpiry (channel : FeedChannel) (s : State) :
    Host.Outcome State Fault Refusal :=
  .next (atMoment (holdReached s channel) (expireHold channel) s)

/-- R177: a pin takes a level. -/
def execPinChange (input : DigitalInput) (level : Bool) (s : State) :
    Host.Outcome State Fault Refusal :=
  .next (changePin input level s)

/-- R177: a debounce timer runs out. -/
def execDebounceExpiry (input : DigitalInput) (s : State) :
    Host.Outcome State Fault Refusal :=
  .next (atMoment (debounceReached s input) (takeLevel input) s)

/-- R55, R7: the delay of an element check ends. -/
def execElementCheckDelayEnd (zone : Zone) (s : State) :
    Host.Outcome State Fault Refusal :=
  .next (atMoment (checkReached s zone) (fun t => settleReadiness (checkDelayEnd zone t)) s)

/-- R68 to R70, R7: the slice of a grant expires. -/
def execSliceExpiry (zone : Zone) (s : State) :
    Host.Outcome State Fault Refusal :=
  .next (atMoment (sliceReached s zone) (fun t => settleReadiness (expireSlice zone t)) s)

/-- R24, R26, R104: a speed window ends. -/
def execSpeedWindowEnd (s : State) :
    Host.Outcome State Fault Refusal :=
  .next (atMoment (windowReached s) endWindow s)

/-- R25, R14: the pause detector fires. -/
def execPauseDetectorFire (s : State) :
    Host.Outcome State Fault Refusal :=
  .next (atMoment (pauseReached s) firePause s)

/-- R28, R15: the stop timer matches. -/
def execStopTimerMatch (s : State) :
    Host.Outcome State Fault Refusal :=
  .next (atMoment (matchReached s) matchStop s)

/-- R29: the paving clock steps. -/
def execClockStep (s : State) :
    Host.Outcome State Fault Refusal :=
  .next (atMoment (sixteenthReached s) takeClockStep s)

/-- R36: the remaining time of a width jog reaches 0. -/
def execWidthJogExpiry (side : Side) (s : State) :
    Host.Outcome State Fault Refusal :=
  .next (atMoment (widthJogReached s side) (endWidthJog .expiry side) s)

/-- R111: the remaining time of a grade jog reaches 0. -/
def execGradeJogExpiry (side : Side) (s : State) :
    Host.Outcome State Fault Refusal :=
  .next (atMoment (gradeJogReached s side) (endGradeJog side .expiry) s)

/-- R127: the remaining time of a feed jog reaches 0. -/
def execFeedJogExpiry (channel : FeedChannel) (s : State) :
    Host.Outcome State Fault Refusal :=
  .next (atMoment (feedJogReached s channel) (endFeedJog .expiry channel) s)

/-- R80: a sensor round begins. -/
def execSensorRoundStart (s : State) :
    Host.Outcome State Fault Refusal :=
  .next (atMoment (roundReached s) startRound s)

/-- R81: a poll reply with a good check. -/
def execPollReply (address status : Byte) (reading : Half) (s : State) :
    Host.Outcome State Fault Refusal :=
  .next (takePollReply address status reading (hearSensor s))

/-- R81: 3 ms have passed since the poll was sent. -/
def execPollTimeout (s : State) :
    Host.Outcome State Fault Refusal :=
  .next (atMoment (pollReached s) (completePoll none) s)

/-- R185: bytes arrive on the sensor line without a gap between them. -/
def execSensorFrameDiscard (bytes : List Byte) (s : State) :
    Host.Outcome State Fault Refusal :=
  .next (receiveSensorBytes bytes s)

/-- R185: a gap of more than 2 ms within a sensor port frame discards it, counted nowhere. -/
def execSensorFrameGapExpiry (s : State) :
    Host.Outcome State Fault Refusal :=
  .next (atMoment (gapReached s.sensorReceiver) hearSensor s)

/-- R130, R134: a scan line with a good check. -/
def execScanLine (counter : Half) (pixels : List Half) (s : State) :
    Host.Outcome State Fault Refusal :=
  .next (takeScanLine counter pixels (hearSensor s))

/-- R131: the line silence time reaches 2000 ms. -/
def execScanner (s : State) :
    Host.Outcome State Fault Refusal :=
  .next (atMoment (scannerReached s) raiseScanner s)

/-- R75: the granted seconds of a granted zone reach 60. -/
def execHeatingMinute (zone : Zone) (s : State) :
    Host.Outcome State Fault Refusal :=
  .next (atMoment (minuteReached s zone) (countMinute zone) s)

end Sys2Proof.Machine
end

