-- ==== Sys2Proof/Machine/ItemWrites.lean ====
section
/-! DEFINITION. The meanings of SET_ITEM and of the SET_ITEM rows that name their item: each is a SET_ITEM frame taken by the port (R163), served by
R171. -/

namespace Sys2Proof.Machine

open Sys2Proof

/-- R79, R93: a write of a slot's address or weight; field 1 of the slope slot is no item. -/
def serveSlotWrite (p : Port) (slot : Slot) (param : SlotParam) (value : Word) (s : State) : Served :=
  if slot = .slope ∧ param = .weight then refuse .unknown s else serveWrite p (.slotParam slot param) value s

/-- R171: SET_ITEM by group and index. -/
def execSetItem (port : Port) (tag group : Byte) (index : Half) (value : Word) (s : State) :
    Host.Outcome State Fault Refusal :=
  .next (takeRequest port .setItem tag (serveSetItem port group index value) s)

/-- R8: SET_ITEM of the readiness band. -/
def execSetReadinessBand (port : Port) (tag : Byte) (value : Word) (s : State) :
    Host.Outcome State Fault Refusal :=
  .next (takeRequest port .setItem tag (serveWrite port .readinessBand value) s)

/-- R22: SET_ITEM of the pulses per metre. -/
def execSetPulsesPerMetre (port : Port) (tag : Byte) (value : Word) (s : State) :
    Host.Outcome State Fault Refusal :=
  .next (takeRequest port .setItem tag (serveWrite port .pulsesPerMetre value) s)

/-- R27: SET_ITEM of the standby delay code. -/
def execSetStandbyDelayCode (port : Port) (tag : Byte) (value : Word) (s : State) :
    Host.Outcome State Fault Refusal :=
  .next (takeRequest port .setItem tag (serveWrite port .standbyCode value) s)

/-- R31: SET_ITEM of the main length or a bolt-on length. -/
def execSetScreedLength (port : Port) (tag : Byte) (part : ScreedPart) (value : Word) (s : State) :
    Host.Outcome State Fault Refusal :=
  .next (takeRequest port .setItem tag (serveWrite port (.screed part) value) s)

/-- R42: SET_ITEM of a PAVE or HOLD setpoint. -/
def execSetZoneSetpoint (port : Port) (tag : Byte) (zone : Zone) (set : SetpointSet) (value : Word) (s : State) :
    Host.Outcome State Fault Refusal :=
  .next (takeRequest port .setItem tag (serveWrite port (.zoneSetpoint zone set) value) s)

/-- R58: SET_ITEM of an exclude flag. -/
def execSetExcludeFlag (port : Port) (tag : Byte) (zone : Zone) (value : Word) (s : State) :
    Host.Outcome State Fault Refusal :=
  .next (takeRequest port .setItem tag (serveWrite port (.exclude zone) value) s)

/-- R44: SET_ITEM of the extension threshold. -/
def execSetExtensionThreshold (port : Port) (tag : Byte) (value : Word) (s : State) :
    Host.Outcome State Fault Refusal :=
  .next (takeRequest port .setItem tag (serveWrite port .extThreshold value) s)

/-- R61: SET_ITEM of the generator limit. -/
def execSetGeneratorLimit (port : Port) (tag : Byte) (value : Word) (s : State) :
    Host.Outcome State Fault Refusal :=
  .next (takeRequest port .setItem tag (serveWrite port .generatorLimit value) s)

/-- R62: SET_ITEM of an element rating. -/
def execSetElementRating (port : Port) (tag : Byte) (zone : Zone) (value : Word) (s : State) :
    Host.Outcome State Fault Refusal :=
  .next (takeRequest port .setItem tag (serveWrite port (.rating zone) value) s)

/-- R79: SET_ITEM of an address or a weight; the slope slot has no weight (R93). -/
def execSetSlotAddressWeight (port : Port) (tag : Byte) (slot : Slot) (param : SlotParam) (value : Word) (s : State) :
    Host.Outcome State Fault Refusal :=
  .next (takeRequest port .setItem tag (serveSlotWrite port slot param value) s)

/-- R85: SET_ITEM of a reference kind. -/
def execSetReferenceKind (port : Port) (tag : Byte) (side : Side) (value : Word) (s : State) :
    Host.Outcome State Fault Refusal :=
  .next (takeRequest port .setItem tag (serveWrite port (.refKind side) value) s)

/-- R86: SET_ITEM of a minimum valid count. -/
def execSetMinValidCount (port : Port) (tag : Byte) (side : Side) (value : Word) (s : State) :
    Host.Outcome State Fault Refusal :=
  .next (takeRequest port .setItem tag (serveWrite port (.minValid side) value) s)

/-- R99: SET_ITEM of a grade offset or slope target. -/
def execSetGradeOffset (port : Port) (tag : Byte) (side : Side) (which : SideSetpoint) (value : Word) (s : State) :
    Host.Outcome State Fault Refusal :=
  .next (takeRequest port .setItem tag (serveWrite port (.sideSetpoint side which) value) s)

/-- R115: SET_ITEM of a level setpoint. -/
def execSetLevelSetpoint (port : Port) (tag : Byte) (channel : FeedChannel) (value : Word) (s : State) :
    Host.Outcome State Fault Refusal :=
  .next (takeRequest port .setItem tag (serveWrite port (.levelSetpoint channel) value) s)

/-- R144, R132: SET_ITEM of the record interval. -/
def execSetRecordInterval (port : Port) (tag : Byte) (value : Word) (s : State) :
    Host.Outcome State Fault Refusal :=
  .next (takeRequest port .setItem tag (serveWrite port .recordInterval value) s)

/-- R155: SET_ITEM of the MAT capacity. -/
def execSetMatCapacity (port : Port) (tag : Byte) (value : Word) (s : State) :
    Host.Outcome State Fault Refusal :=
  .next (takeRequest port .setItem tag (serveWrite port .matCapacity value) s)

/-- R176: SET_ITEM of a scaling parameter. -/
def execSetAnalogScaling (port : Port) (tag : Byte) (channel : AnalogChannel) (param : ScalingParam) (value : Word) (s : State) :
    Host.Outcome State Fault Refusal :=
  .next (takeRequest port .setItem tag (serveWrite port (.scaling channel param) value) s)

/-- R178: SET_ITEM of a detection mode or a debounce time. -/
def execSetInputMode (port : Port) (tag : Byte) (input : DigitalInput) (param : InputParam) (value : Word) (s : State) :
    Host.Outcome State Fault Refusal :=
  .next (takeRequest port .setItem tag (serveWrite port (.input input param) value) s)

/-- R179: SET_ITEM of an output polarity. -/
def execSetOutputPolarity (port : Port) (tag : Byte) (output : Output) (value : Word) (s : State) :
    Host.Outcome State Fault Refusal :=
  .next (takeRequest port .setItem tag (serveWrite port (.polarity output) value) s)

end Sys2Proof.Machine
end

