-- ==== Sys2Proof/Machine/Requests.lean ====
section
/-! DEFINITION. The meanings of the requests but SET_ITEM: each is a frame of its kind, taken by the port (R163) and served by its block. -/

namespace Sys2Proof.Machine

open Sys2Proof

/-- R173: STATUS, served in every mode. -/
def execStatus (port : Port) (tag : Byte) (s : State) :
    Host.Outcome State Fault Refusal :=
  .next (takeRequest port .status tag (serveStatus port) s)

/-- R170: READ_ITEM. -/
def execReadItem (port : Port) (tag group : Byte) (first : Half) (count : Byte) (s : State) :
    Host.Outcome State Fault Refusal :=
  .next (takeRequest port .readItem tag (serveReadItem group first count) s)

/-- R166, R167: TAKE. -/
def execTake (port : Port) (tag function override : Byte) (s : State) :
    Host.Outcome State Fault Refusal :=
  .next (takeRequest port .take tag (serveTake port function override) s)

/-- R168: RELEASE. -/
def execRelease (port : Port) (tag function : Byte) (s : State) :
    Host.Outcome State Fault Refusal :=
  .next (takeRequest port .release tag (serveRelease port function) s)

/-- R9: GO. -/
def execGo (port : Port) (tag target : Byte) (s : State) :
    Host.Outcome State Fault Refusal :=
  .next (takeRequest port .go tag (serveGo port target) s)

/-- R106, R107: SIDE_MODE. -/
def execSideMode (port : Port) (tag side target : Byte) (s : State) :
    Host.Outcome State Fault Refusal :=
  .next (takeRequest port .sideMode tag (serveSideMode port side target) s)

/-- R89: SET_REFERENCE, a delayed request. -/
def execSetReference (port : Port) (tag side : Byte) (s : State) :
    Host.Outcome State Fault Refusal :=
  .next (takeRequest port .setReference tag (serveSetReference port side) s)

/-- R110: JOG with a grade target. -/
def execJogGrade (port : Port) (tag : Byte) (side : Side) (direction duration : Byte) (s : State) :
    Host.Outcome State Fault Refusal :=
  .next (takeRequest port .jog tag (serveJogGrade port side direction duration) s)

/-- R126: JOG with a feed target; the direction is not read. -/
def execJogFeed (port : Port) (tag : Byte) (channel : FeedChannel) (_direction duration : Byte) (s : State) :
    Host.Outcome State Fault Refusal :=
  .next (takeRequest port .jog tag (serveJogFeed port channel duration) s)

/-- R34: JOG with a width target. -/
def execJogWidth (port : Port) (tag : Byte) (side : Side) (direction duration : Byte) (s : State) :
    Host.Outcome State Fault Refusal :=
  .next (takeRequest port .jog tag (serveJogWidth port side direction duration) s)

/-- R122, R123: FEED_MODE. -/
def execFeedMode (port : Port) (tag channel target : Byte) (s : State) :
    Host.Outcome State Fault Refusal :=
  .next (takeRequest port .feedMode tag (serveFeedMode port channel target) s)

/-- R57: CLEAR_FAULT. -/
def execClearFault (port : Port) (tag zone : Byte) (s : State) :
    Host.Outcome State Fault Refusal :=
  .next (takeRequest port .clearFault tag (serveClearFault port zone) s)

/-- R76: CLEAR_HEALTH. -/
def execClearHealth (port : Port) (tag zone : Byte) (s : State) :
    Host.Outcome State Fault Refusal :=
  .next (takeRequest port .clearHealth tag (serveClearHealth port zone) s)

/-- R143: MARK. -/
def execMark (port : Port) (tag code : Byte) (s : State) :
    Host.Outcome State Fault Refusal :=
  .next (takeRequest port .mark tag (serveMark port code) s)

/-- R157: WRITE_JOB. -/
def execWriteJob (port : Port) (tag : Byte) (road : List Byte) (lane layer : Byte) (start : Word) (s : State) :
    Host.Outcome State Fault Refusal :=
  .next (takeRequest port .writeJob tag (serveRoadJob port road lane layer start) s)

/-- R151: READ_RECORDS. -/
def execReadRecords (port : Port) (tag area : Byte) (start : Word) (count : Byte) (s : State) :
    Host.Outcome State Fault Refusal :=
  .next (takeRequest port .readRecords tag (serveReadRecords area start count) s)

/-- R153: ACK_RECORDS. -/
def execAckRecords (port : Port) (tag area : Byte) (sequence : Word) (s : State) :
    Host.Outcome State Fault Refusal :=
  .next (takeRequest port .ackRecords tag (serveAckRecords port area sequence) s)

/-- R30: SET_CLOCK. -/
def execSetClock (port : Port) (tag : Byte) (day : Half) (hour minute second : Byte) (s : State) :
    Host.Outcome State Fault Refusal :=
  .next (takeRequest port .setClock tag (serveSetClock port day hour minute second) s)

/-- R181: STORE_SETTINGS, a delayed request. -/
def execStoreSettings (port : Port) (tag : Byte) (s : State) :
    Host.Outcome State Fault Refusal :=
  .next (takeRequest port .storeSettings tag (serveStoreSettings port) s)

end Sys2Proof.Machine
end

