-- ==== Sys2Proof/Machine/Dispatch.lean ====
section
/-! DEFINITION. The meaning of every command: one arm per constructor of `Instr`. -/

namespace Sys2Proof.Machine

open Sys2Proof

def exec (i : Instr) (s : State) : Host.Outcome State Fault Refusal :=
  match i with
  | .reset => Sys2Proof.Machine.execReset s
  | .settingsLoadComplete readInFull => Sys2Proof.Machine.execSettingsLoadComplete readInFull s
  | .frameError port bytes => Sys2Proof.Machine.execFrameError port bytes s
  | .frameGapExpiry port => Sys2Proof.Machine.execFrameGapExpiry port s
  | .linkDown port => Sys2Proof.Machine.execLinkDown port s
  | .busy port kind tag payload => Sys2Proof.Machine.execBusy port kind tag payload s
  | .unknownRequest port kind tag payload => Sys2Proof.Machine.execUnknownRequest port kind tag payload s
  | .replySent port => Sys2Proof.Machine.execReplySent port s
  | .status port tag => Sys2Proof.Machine.execStatus port tag s
  | .readItem port tag group first count => Sys2Proof.Machine.execReadItem port tag group first count s
  | .setItem port tag group index value => Sys2Proof.Machine.execSetItem port tag group index value s
  | .setReadinessBand port tag value => Sys2Proof.Machine.execSetReadinessBand port tag value s
  | .setPulsesPerMetre port tag value => Sys2Proof.Machine.execSetPulsesPerMetre port tag value s
  | .setStandbyDelayCode port tag value => Sys2Proof.Machine.execSetStandbyDelayCode port tag value s
  | .setScreedLength port tag part value => Sys2Proof.Machine.execSetScreedLength port tag part value s
  | .setZoneSetpoint port tag zone set value => Sys2Proof.Machine.execSetZoneSetpoint port tag zone set value s
  | .setExcludeFlag port tag zone value => Sys2Proof.Machine.execSetExcludeFlag port tag zone value s
  | .setExtensionThreshold port tag value => Sys2Proof.Machine.execSetExtensionThreshold port tag value s
  | .setGeneratorLimit port tag value => Sys2Proof.Machine.execSetGeneratorLimit port tag value s
  | .setElementRating port tag zone value => Sys2Proof.Machine.execSetElementRating port tag zone value s
  | .setSlotAddressWeight port tag slot param value => Sys2Proof.Machine.execSetSlotAddressWeight port tag slot param value s
  | .setReferenceKind port tag side value => Sys2Proof.Machine.execSetReferenceKind port tag side value s
  | .setMinValidCount port tag side value => Sys2Proof.Machine.execSetMinValidCount port tag side value s
  | .setGradeOffset port tag side which value => Sys2Proof.Machine.execSetGradeOffset port tag side which value s
  | .setLevelSetpoint port tag channel value => Sys2Proof.Machine.execSetLevelSetpoint port tag channel value s
  | .setRecordInterval port tag value => Sys2Proof.Machine.execSetRecordInterval port tag value s
  | .setMatCapacity port tag value => Sys2Proof.Machine.execSetMatCapacity port tag value s
  | .setAnalogScaling port tag channel param value => Sys2Proof.Machine.execSetAnalogScaling port tag channel param value s
  | .setInputMode port tag input param value => Sys2Proof.Machine.execSetInputMode port tag input param value s
  | .setOutputPolarity port tag output value => Sys2Proof.Machine.execSetOutputPolarity port tag output value s
  | .take port tag function override => Sys2Proof.Machine.execTake port tag function override s
  | .release port tag function => Sys2Proof.Machine.execRelease port tag function s
  | .go port tag target => Sys2Proof.Machine.execGo port tag target s
  | .sideMode port tag side target => Sys2Proof.Machine.execSideMode port tag side target s
  | .setReference port tag side => Sys2Proof.Machine.execSetReference port tag side s
  | .jogGrade port tag side direction duration => Sys2Proof.Machine.execJogGrade port tag side direction duration s
  | .jogFeed port tag channel direction duration => Sys2Proof.Machine.execJogFeed port tag channel direction duration s
  | .jogWidth port tag side direction duration => Sys2Proof.Machine.execJogWidth port tag side direction duration s
  | .feedMode port tag channel target => Sys2Proof.Machine.execFeedMode port tag channel target s
  | .clearFault port tag zone => Sys2Proof.Machine.execClearFault port tag zone s
  | .clearHealth port tag zone => Sys2Proof.Machine.execClearHealth port tag zone s
  | .mark port tag code => Sys2Proof.Machine.execMark port tag code s
  | .writeJob port tag road lane layer start => Sys2Proof.Machine.execWriteJob port tag road lane layer start s
  | .readRecords port tag area start count => Sys2Proof.Machine.execReadRecords port tag area start count s
  | .ackRecords port tag area sequence => Sys2Proof.Machine.execAckRecords port tag area sequence s
  | .setClock port tag day hour minute second => Sys2Proof.Machine.execSetClock port tag day hour minute second s
  | .storeSettings port tag => Sys2Proof.Machine.execStoreSettings port tag s
  | .storeWriteEnd readBackEqual imageGood => Sys2Proof.Machine.execStoreWriteEnd readBackEqual imageGood s
  | .analogConversion channel raw => Sys2Proof.Machine.execAnalogConversion channel raw s
  | .feedHoldExpiry channel => Sys2Proof.Machine.execFeedHoldExpiry channel s
  | .pinChange input level => Sys2Proof.Machine.execPinChange input level s
  | .debounceExpiry input => Sys2Proof.Machine.execDebounceExpiry input s
  | .elementCheckDelayEnd zone => Sys2Proof.Machine.execElementCheckDelayEnd zone s
  | .sliceExpiry zone => Sys2Proof.Machine.execSliceExpiry zone s
  | .speedWindowEnd => Sys2Proof.Machine.execSpeedWindowEnd s
  | .pauseDetectorFire => Sys2Proof.Machine.execPauseDetectorFire s
  | .stopTimerMatch => Sys2Proof.Machine.execStopTimerMatch s
  | .clockStep => Sys2Proof.Machine.execClockStep s
  | .widthJogExpiry side => Sys2Proof.Machine.execWidthJogExpiry side s
  | .gradeJogExpiry side => Sys2Proof.Machine.execGradeJogExpiry side s
  | .feedJogExpiry channel => Sys2Proof.Machine.execFeedJogExpiry channel s
  | .sensorRoundStart => Sys2Proof.Machine.execSensorRoundStart s
  | .pollReply address status reading => Sys2Proof.Machine.execPollReply address status reading s
  | .pollTimeout => Sys2Proof.Machine.execPollTimeout s
  | .sensorFrameDiscard bytes => Sys2Proof.Machine.execSensorFrameDiscard bytes s
  | .sensorFrameGapExpiry => Sys2Proof.Machine.execSensorFrameGapExpiry s
  | .scanLine counter pixels => Sys2Proof.Machine.execScanLine counter pixels s
  | .scanner => Sys2Proof.Machine.execScanner s
  | .heatingMinute zone => Sys2Proof.Machine.execHeatingMinute zone s

end Sys2Proof.Machine
end

