-- ==== Sys2Proof/Machine/Spelling.lean ====
section
/-! DEFINITION. How a station spells each request row of the opcode table on its line: the kind, the TAG and the payload bytes of section 12.2,
and the group and index of each SET_ITEM row. The receiver (Machine/Links.lean) reads what is written here. -/

namespace Sys2Proof.Machine

open Sys2Proof

/-! ### Little-endian bytes of a field -/

/-- The two bytes of a half, low byte first (R184). -/
def halfBytes (h : Half) : List Byte := [h.setWidth 8, (h >>> 8).setWidth 8]

/-- The four bytes of a word, low byte first (R184). -/
def wordBytes (w : Word) : List Byte :=
  [w.setWidth 8, (w >>> 8).setWidth 8, (w >>> 16).setWidth 8, (w >>> 24).setWidth 8]

/-! ### The items that a row may write -/

/-- The number of an analog channel (section 11.1). -/
def analogCode : AnalogChannel → Nat
  | .temp z => zoneCode z
  | .ext d => 8 + sideCode d
  | .level c => 10 + feedCode c

/-- The number of a digital input (section 11.2). -/
def inputCode : DigitalInput → Nat
  | .travelPulse => 0
  | .travelDir => 1
  | .estop => 2
  | .feedback z => 3 + zoneCode z

/-- The number of an output (section 11.3). -/
def outputCode : Output → Nat
  | .gradeUp d => 2 * sideCode d
  | .gradeDown d => 2 * sideCode d + 1
  | .feed c => 4 + feedCode c
  | .widthIn d => 8 + 2 * sideCode d
  | .widthOut d => 9 + 2 * sideCode d
  | .contactor z => 12 + zoneCode z
  | .travelPermit => 20
  | .genLoad => 21
  | .alarm => 22

/-- The offset of a scaling parameter among a channel's items (R183). -/
def scalingOffset : ScalingParam → Nat
  | .rawLo => 3 | .rawHi => 4 | .engLo => 5 | .engHi => 6 | .tolerance => 7

/-- The number of a group (section 12.1). -/
def groupCode : ItemGroup → Nat
  | .system => 0 | .zone => 1 | .health => 2 | .budget => 3 | .side => 4 | .slot => 5 | .feed => 6 | .geometry => 7 | .travel => 8
  | .clock => 9 | .job => 10 | .area => 11 | .port => 12 | .settings => 13

/-- The group and index of an item that may be written, from its chapter's item table; the slope slot's weight has the index that is no
item (R93). -/
def placeOf : Setting → ItemGroup × Nat
  | .readinessBand => (.system, 4)
  | .recordInterval => (.system, 32)
  | .edgeMargin => (.system, 33)
  | .segmentWidth => (.system, 34)
  | .coldLimit => (.system, 35)
  | .diffLimit => (.system, 36)
  | .zoneSetpoint z .pave => (.zone, 16 * zoneCode z + 7)
  | .zoneSetpoint z .hold => (.zone, 16 * zoneCode z + 8)
  | .exclude z => (.zone, 16 * zoneCode z + 9)
  | .rating z => (.zone, 16 * zoneCode z + 10)
  | .hysteresis => (.zone, 128)
  | .overtempMargin => (.zone, 129)
  | .extThreshold => (.zone, 131)
  | .generatorLimit => (.budget, 0)
  | .rotationSlice => (.budget, 1)
  | .refKind d => (.side, 16 * sideCode d)
  | .minValid d => (.side, 16 * sideCode d + 1)
  | .sideSetpoint d .gradeOffset => (.side, 16 * sideCode d + 7)
  | .sideSetpoint d .slopeTarget => (.side, 16 * sideCode d + 8)
  | .obstacleWindow => (.side, 128)
  | .span => (.side, 129)
  | .creep => (.side, 133)
  | .gain .a .deadband => (.side, 134)
  | .gain .a .band => (.side, 135)
  | .gain .a .minDuty => (.side, 136)
  | .gain .b .deadband => (.side, 137)
  | .gain .b .band => (.side, 138)
  | .gain .b .minDuty => (.side, 139)
  | .slotParam x .address => (.slot, 16 * slotCode x)
  | .slotParam x .weight => (.slot, 16 * slotCode x + 1)
  | .levelSetpoint c => (.feed, 16 * feedCode c + 3)
  | .feedGain c => (.feed, 16 * feedCode c + 4)
  | .manualDuty c => (.feed, 16 * feedCode c + 5)
  | .screed .main => (.geometry, 0)
  | .screed (.boltOn d) => (.geometry, 1 + sideCode d)
  | .pulsesPerMetre => (.travel, 6)
  | .standbyCode => (.travel, 8)
  | .matCapacity => (.area, 0)
  | .scaling a p => (.settings, 16 * analogCode a + scalingOffset p)
  | .input i .mode => (.settings, 224 + 4 * inputCode i + 2)
  | .input i .debounce => (.settings, 224 + 4 * inputCode i + 3)
  | .polarity o => (.settings, 272 + 4 * outputCode o + 2)

/-- The SET_ITEM rows that name their item: the port, the TAG, the item and the value. -/
def itemWriteOf : Instr → Option (Port × Byte × Setting × Word)
  | .setReadinessBand p tag v => some (p, tag, .readinessBand, v)
  | .setPulsesPerMetre p tag v => some (p, tag, .pulsesPerMetre, v)
  | .setStandbyDelayCode p tag v => some (p, tag, .standbyCode, v)
  | .setScreedLength p tag part v => some (p, tag, .screed part, v)
  | .setZoneSetpoint p tag z set v => some (p, tag, .zoneSetpoint z set, v)
  | .setExcludeFlag p tag z v => some (p, tag, .exclude z, v)
  | .setExtensionThreshold p tag v => some (p, tag, .extThreshold, v)
  | .setGeneratorLimit p tag v => some (p, tag, .generatorLimit, v)
  | .setElementRating p tag z v => some (p, tag, .rating z, v)
  | .setSlotAddressWeight p tag x param v => some (p, tag, .slotParam x param, v)
  | .setReferenceKind p tag d v => some (p, tag, .refKind d, v)
  | .setMinValidCount p tag d v => some (p, tag, .minValid d, v)
  | .setGradeOffset p tag d which v => some (p, tag, .sideSetpoint d which, v)
  | .setLevelSetpoint p tag c v => some (p, tag, .levelSetpoint c, v)
  | .setRecordInterval p tag v => some (p, tag, .recordInterval, v)
  | .setMatCapacity p tag v => some (p, tag, .matCapacity, v)
  | .setAnalogScaling p tag a param v => some (p, tag, .scaling a param, v)
  | .setInputMode p tag i param v => some (p, tag, .input i param, v)
  | .setOutputPolarity p tag o v => some (p, tag, .polarity o, v)
  | _ => none

/-! ### Frames of the request rows -/

/-- A request as its port takes it: the port, the KIND byte, the TAG and the payload. -/
structure Spelled where
  port    : Port
  kind    : Byte
  tag     : Byte
  payload : List Byte
deriving DecidableEq, Repr

/-- The payload of a SET_ITEM (section 12.2): the value in bytes 0 to 3 of its 8-byte field, the rest 0. -/
def setItemPayload (group : Byte) (index : Half) (value : Word) : List Byte :=
  [group] ++ halfBytes index ++ wordBytes value ++ [0, 0, 0, 0]

/-- The spelling of a SET_ITEM of a named item. -/
def spellWrite (w : Port × Byte × Setting × Word) : Spelled :=
  let place := placeOf w.2.2.1
  { port := w.1, kind := kindByte .setItem, tag := w.2.1
    payload := setItemPayload (BitVec.ofNat 8 (groupCode place.1)) (BitVec.ofNat 16 place.2) w.2.2.2 }

/-- A JOG (section 12.2), by its target byte (R184). -/
def spellJog (p : Port) (tag : Byte) (target : Nat) (direction duration : Byte) : Spelled :=
  { port := p, kind := kindByte .jog, tag := tag, payload := [BitVec.ofNat 8 target, direction, duration] }

/-- How a station spells a request row, BUSY and UNKNOWN_REQUEST with the raw frame they carry; none for a row that is no request. -/
def spellingOf (i : Instr) : Option Spelled :=
  match i with
  | .busy p kind tag payload => some ⟨p, kind, tag, payload⟩
  | .unknownRequest p kind tag payload => some ⟨p, kind, tag, payload⟩
  | .status p tag => some ⟨p, kindByte .status, tag, []⟩
  | .readItem p tag group first count => some ⟨p, kindByte .readItem, tag, [group] ++ halfBytes first ++ [count]⟩
  | .setItem p tag group index value => some ⟨p, kindByte .setItem, tag, setItemPayload group index value⟩
  | .take p tag function override => some ⟨p, kindByte .take, tag, [function, override]⟩
  | .release p tag function => some ⟨p, kindByte .release, tag, [function]⟩
  | .go p tag target => some ⟨p, kindByte .go, tag, [target]⟩
  | .sideMode p tag side target => some ⟨p, kindByte .sideMode, tag, [side, target]⟩
  | .setReference p tag side => some ⟨p, kindByte .setReference, tag, [side]⟩
  | .jogGrade p tag d direction duration => some (spellJog p tag (sideCode d) direction duration)
  | .jogFeed p tag c direction duration => some (spellJog p tag (2 + feedCode c) direction duration)
  | .jogWidth p tag d direction duration => some (spellJog p tag (6 + sideCode d) direction duration)
  | .feedMode p tag channel target => some ⟨p, kindByte .feedMode, tag, [channel, target]⟩
  | .clearFault p tag zone => some ⟨p, kindByte .clearFault, tag, [zone]⟩
  | .clearHealth p tag zone => some ⟨p, kindByte .clearHealth, tag, [zone]⟩
  | .mark p tag code => some ⟨p, kindByte .mark, tag, [code]⟩
  | .writeJob p tag road lane layer start =>
    some ⟨p, kindByte .writeJob, tag, road ++ [lane, layer] ++ wordBytes start⟩
  | .readRecords p tag area start count =>
    some ⟨p, kindByte .readRecords, tag, [area] ++ wordBytes start ++ [count]⟩
  | .ackRecords p tag area sequence => some ⟨p, kindByte .ackRecords, tag, [area] ++ wordBytes sequence⟩
  | .setClock p tag day hour minute second =>
    some ⟨p, kindByte .setClock, tag, halfBytes day ++ [hour, minute, second]⟩
  | .storeSettings p tag => some ⟨p, kindByte .storeSettings, tag, []⟩
  | i => (itemWriteOf i).map spellWrite

end Sys2Proof.Machine
end

