-- ==== Sys2Proof/WellFormed.lean ====
section
/-! DEFINITION. Which commands can be spelled on the lines and at the pins: what a raw frame, a burst, a scan line and a SET_ITEM row must
be for its operands to stand for something that arrives. `exec` gives every term an outcome, an ill-formed one included. -/

namespace Sys2Proof

/-- LEN counts KIND, TAG and the payload and is at most 768, so a raw payload has at most 766 bytes (R161). -/
def payloadFits (payload : List Byte) : Bool := decide (payload.length ≤ 766)

/-- A burst of bytes has at least one. -/
def burstFits (bytes : List Byte) : Bool := decide (bytes ≠ [])

/-- The road identifier is 16 bytes (R156). -/
def roadFits (road : List Byte) : Bool := decide (road.length = 16)

/-- A scan line has 120 pixels (section 8.2). -/
def lineFits (pixels : List Half) : Bool := decide (pixels.length = 120)

/-- The slope slot has no weight (R78, R93). -/
def slotParamFits : Slot → SlotParam → Bool
  | .slope, .weight => false
  | _, _ => true

/-- The command is well formed. -/
def Instr.wf : Instr → Bool
  | .frameError _ bytes => burstFits bytes
  | .sensorFrameDiscard bytes => burstFits bytes
  | .busy _ _ _ payload => payloadFits payload
  | .unknownRequest _ _ _ payload => payloadFits payload
  | .writeJob _ _ road _ _ _ => roadFits road
  | .scanLine _ pixels => lineFits pixels
  | .setSlotAddressWeight _ _ slot param _ => slotParamFits slot param
  | .reset | .settingsLoadComplete _ | .frameGapExpiry _ | .linkDown _ | .replySent _ | .status _ _ | .readItem _ _ _ _ _
  | .setItem _ _ _ _ _ | .setReadinessBand _ _ _ | .setPulsesPerMetre _ _ _ | .setStandbyDelayCode _ _ _
  | .setScreedLength _ _ _ _ | .setZoneSetpoint _ _ _ _ _ | .setExcludeFlag _ _ _ _ | .setExtensionThreshold _ _ _
  | .setGeneratorLimit _ _ _ | .setElementRating _ _ _ _ | .setReferenceKind _ _ _ _ | .setMinValidCount _ _ _ _
  | .setGradeOffset _ _ _ _ _ | .setLevelSetpoint _ _ _ _ | .setRecordInterval _ _ _ | .setMatCapacity _ _ _
  | .setAnalogScaling _ _ _ _ _ | .setInputMode _ _ _ _ _ | .setOutputPolarity _ _ _ _ | .take _ _ _ _ | .release _ _ _
  | .go _ _ _ | .sideMode _ _ _ _ | .setReference _ _ _ | .jogGrade _ _ _ _ _ | .jogFeed _ _ _ _ _ | .jogWidth _ _ _ _ _
  | .feedMode _ _ _ _ | .clearFault _ _ _ | .clearHealth _ _ _ | .mark _ _ _ | .readRecords _ _ _ _ _ | .ackRecords _ _ _ _
  | .setClock _ _ _ _ _ _ | .storeSettings _ _ | .storeWriteEnd _ _ | .analogConversion _ _ | .feedHoldExpiry _
  | .pinChange _ _ | .debounceExpiry _ | .elementCheckDelayEnd _ | .sliceExpiry _ | .speedWindowEnd | .pauseDetectorFire
  | .stopTimerMatch | .clockStep | .widthJogExpiry _ | .gradeJogExpiry _ | .feedJogExpiry _ | .sensorRoundStart
  | .pollReply _ _ _ | .pollTimeout | .sensorFrameGapExpiry | .scanner | .heatingMinute _ => true

end Sys2Proof
end

