-- ==== Sys2Proof/Safety.lean ====
section
/-! DEFINITION. What holds of a WK620 that keeps its own rules: the invariants that the manual states in its rules, each over the state
alone, in the terms the claims use. -/

namespace Sys2Proof.Machine

open Sys2Proof

/-! ### The machine mode (R1, R11, R16) -/

/-- Pave-pending stands in PREHEAT only (R1); readiness holds in READY (R11) and not in PREHEAT (R10) or STARTING (R1); while the e-stop
latch is active the mode is PARKED or STARTING (R16). -/
def modeSound (s : State) : Bool :=
  (!s.pavePending || decide (s.mode = .preheat))
    && (decide (s.mode ≠ .ready) || s.readiness)
    && (decide (s.mode ≠ .preheat) || !s.readiness)
    && (decide (s.mode ≠ .starting) || !s.readiness)
    && (!s.estop || decide (s.mode = .parked) || decide (s.mode = .starting))

/-! ### Zones and budget (R41, R47, R63, R65) -/

/-- R47: the zone is in the grant list exactly when HEATING, and in the wait queue exactly when WAITING. -/
def zonePlaced (s : State) (z : Zone) : Bool :=
  decide (granted s z = decide ((s.zones.get z).state = .heating))
    && decide (decide (z ∈ s.queue) = decide ((s.zones.get z).state = .waiting))

/-- R41, R47, R51, R63, R65: every zone in its place, no zone twice, the granted ratings within the limit, every zone OFF outside the
heating modes. -/
def budgetSound (s : State) : Bool :=
  (allZones.all (zonePlaced s))
    && decide s.queue.Nodup
    && decide (s.grants.map (·.zone)).Nodup
    && decide (grantedSum s ≤ s.settings.generatorLimit)
    && (heatingMode s.mode || allZones.all fun z => decide ((s.zones.get z).state = .off))

/-! ### Authority (R165) -/

/-- R165: a holder's link is UP and its station kind is permitted. -/
def holderSound (s : State) (f : Function) : Bool :=
  match holderOf s.authority f with
  | none => true
  | some p => permitted p f && (s.ports.get p).up

def authoritySound (s : State) : Bool := allFunctions.all (holderSound s)

/-! ### Travel (R22, R23) -/

/-- R22, R23: the station value is that of the count, and the high-water station is not below it. -/
def travelSound (s : State) : Bool :=
  decide (s.travel.station = presentStation s) && decide (s.travel.station ≤ s.travel.highWater)

/-! ### Record areas (R145 to R149) -/

/-- The MAT capacity is in its range (R145). -/
def capacityGood (f : Settings) : Bool := decide (64 ≤ f.matCapacity) && decide (f.matCapacity ≤ 1984)

/-- The held records carry consecutive sequence numbers up to the newest (R146). -/
def numberedFrom : Nat → List Nat → Bool
  | _, [] => true
  | n, k :: rest => decide (k = n) && numberedFrom (n + 1) rest

/-- R146, R148, for one area whose records carry `numbers`. -/
def areaSound {α : Type} (capacity : Nat) (numbers : List Nat) (a : Area α) : Bool :=
  decide (a.held.length ≤ capacity)
    && decide (a.held.length ≤ a.newest)
    && decide (a.newest ≤ top32)
    && numberedFrom (oldestOf a) numbers
    && decide (oldestOf a ≤ a.ackPoint + 1)
    && decide (a.ackPoint ≤ a.newest)
    && decide (a.appended = a.held.length + a.overwritten)
    && decide (a.appended ≤ a.newest)
    && decide (a.lost ≤ a.overwritten)
    && decide (a.lostAtAck ≤ a.lost)

/-- The areas are empty until the memory opens (R147). -/
def areaUnopened {α : Type} (a : Area α) : Bool := a.held.isEmpty && decide (a.newest = 0)

/-- An image the store holds has a MAT capacity in its range (R180). -/
def arrayGood : NvArray → Bool
  | .bad => true
  | .good image => capacityGood image.settings

def snapshotGood : StoreState → Bool
  | .idle => true
  | .writing image => capacityGood image.settings

/-- R145 to R148: both areas; the memory is not open in STARTING (R147). -/
def recordsSound (s : State) : Bool :=
  capacityGood s.settings && arrayGood s.store.array && snapshotGood s.store.state
    && areaSound (capacityOf s .mat) (s.mat.held.map (·.sequence)) s.mat
    && areaSound (capacityOf s .event) (s.events.held.map (·.sequence)) s.events
    && (s.recordsOpen || (areaUnopened s.mat && areaUnopened s.events))
    && (decide (s.mode ≠ .starting) || !s.recordsOpen)

/-! ### Levelling sides (R102, R103) -/

/-- R102, R103: an engaged side stands in the state it settles to; a jog runs in MANUAL only; the duty is nonzero only in AUTO with the
run condition, or during a jog; a side with direction NONE has duty 0. -/
def sideSound (s : State) (d : Side) : Bool :=
  let r := s.sides.get d
  (!sideEngaged r.state || decide (r.state = settledState s d))
    && (decide (r.jogLeft = 0) || decide (r.state = .manual))
    && (decide (r.duty = 0) || (decide (r.state = .auto) && runCondition s) || (decide (r.state = .manual) && decide (0 < r.jogLeft)))
    && (decide (r.dir ≠ .none) || decide (r.duty = 0))

def sidesSound (s : State) : Bool := sideSound s .left && sideSound s .right

/-! ### Feed channels (R117, R118) -/

/-- R117, R118: an engaged channel is SUSPENDED exactly outside PAVING; a jog runs in MANUAL only; the duty is nonzero only in PAVING in
AUTO or HOLD_LAST, or during a jog; a hold time runs in HOLD_LAST only. -/
def feedSound (s : State) (c : FeedChannel) : Bool :=
  let r := s.feed.get c
  (!feedEngaged r.state || decide (decide (r.state = .suspended) = decide (s.mode ≠ .paving)))
    && (decide (r.jogLeft = 0) || decide (r.state = .manual))
    && (decide (r.duty = 0) || decide (r.state = .auto) || decide (r.state = .holdLast)
        || (decide (r.state = .manual) && decide (0 < r.jogLeft)))
    && (decide (r.hold = 0) || decide (r.state = .holdLast))

def feedsSound (s : State) : Bool := allFeed.all (feedSound s)

/-! ### Geometry (R32, R34, R36) -/

/-- R32, R34, R36: the position is in its range, a side is stale exactly while its channel is in FAULT, a jog has a direction exactly
while it has time left, and none runs while the e-stop latch is active or the channel is in FAULT. -/
def extensionSound (s : State) (d : Side) : Bool :=
  let r := s.geometry.get d
  decide (0 ≤ r.position) && decide (r.position ≤ 2500)
    && decide (r.stale = (s.analog.ext.get d).fault)
    && decide (decide (r.jogDir = .none) = decide (r.jogLeft = 0))
    && (decide (r.jogDir = .none) || (!s.estop && !r.stale))

def geometrySound (s : State) : Bool := extensionSound s .left && extensionSound s .right

/-! ### Station ports (R160) -/

/-- R160: the BUSY queue holds at most four entries, and nothing waits for a free transmitter. -/
def portSound (r : PortState) : Bool :=
  decide ((busyQueue r).length ≤ 4) && (r.sending.isSome || r.waiting.isEmpty)

def portsSound (s : State) : Bool := allPorts.all fun p => portSound (s.ports.get p)

/-! ### Readiness is the truth (R7, R20, R43) -/

/-- R43, R40: a zone that is OFF has no active set, and any other has the set and setpoint its mode selects. -/
def zoneSelected (s : State) (z : Zone) : Bool :=
  let r := s.zones.get z
  if r.state = .off then decide (r.activeSet = .none) && decide (r.activeSetpoint = 0)
  else decide (r.activeSet = selectedSet s z) && decide (r.activeSetpoint = setpointOf s z r.activeSet)

/-- R45, R54, R55: a zone that is not OFF is in FAULT exactly while its latch is set or its channel is in FAULT. -/
def zoneJudged (s : State) (z : Zone) : Bool :=
  let r := s.zones.get z
  decide (r.state = .off) || decide (decide (r.state = .fault) = (r.latch || zoneChannelFault s z))

/-- R41: zones are OFF outside the heating modes, and a zone that is not active is OFF in every mode. -/
def zoneResting (s : State) (z : Zone) : Bool :=
  (heatingMode s.mode && zoneActive s z) || decide ((s.zones.get z).state = .off)

/-- R7, R20: outside STARTING the flag and the count are those of the zones as they stand. -/
def readinessCurrent (s : State) : Bool :=
  decide (s.mode = .starting)
    || (decide (s.readiness = (failingZones s).isEmpty) && decide (s.failing = (failingZones s).length))

/-- The zones stand where R41, R43 and R45 put them, and the mode controller knows it. -/
def readinessSound (s : State) : Bool :=
  modeSound s && readinessCurrent s && allZones.all fun z => zoneSelected s z && zoneJudged s z && zoneResting s z

/-- The mode and the readiness flag agree with the zones, so that a readiness evaluation moves nothing. -/
def quiet (s : State) : Bool := modeSound s && readinessCurrent s

/-! ### How a request is taken and answered (R161, R163) -/

/-- A request on the port finds none in flight and the transmitter free. -/
def portIdle (s : State) (p : Port) : Bool := (s.ports.get p).inFlight.isNone && (s.ports.get p).sending.isNone

/-- A request on the port is accepted and answered at once: the port is idle and the mode is not STARTING. -/
def portOpen (s : State) (p : Port) : Bool := decide (s.mode ≠ .starting) && portIdle s p

/-- A port that has taken a request and not yet answered it. -/
def opened (kind tag : Byte) (r : PortState) : PortState :=
  { heardBy r with inFlight := some { kind := kind, tag := tag } }

/-- The reply frame of an answer to a request. -/
def replyOf (kind tag : Byte) (a : Answer) : Reply :=
  { kind := replyKind kind, tag := tag, status := a.status, payload := a.payload }

/-- The state `t` with the port having taken a request that is still in flight. -/
def withOpened (p : Port) (kind tag : Byte) (t : State) : State := setPort p (opened kind tag (t.ports.get p)) t

/-- The state `t` with the port having taken a request and the reply handed to its transmitter. -/
def withReply (p : Port) (kind tag : Byte) (a : Answer) (t : State) : State :=
  setPort p (transmit (replyOf kind tag a) (opened kind tag (t.ports.get p))) t

/-- An OK answer. -/
def okAnswer (payload : List Byte) : Answer := { status := .ok, payload := payload }

/-- An answer without a payload. -/
def bareAnswer (status : Status) : Answer := { status := status }

/-- The command writes the item: by the row that names it, or as the SET_ITEM of the item's group and index (R171, section 12.1). The slope
slot has no weight (R78). -/
def writesItem (i : Instr) (p : Port) (tag : Byte) (x : Setting) (v : Word) : Prop :=
  x ≠ .slotParam .slope .weight
    ∧ (itemWriteOf i = some (p, tag, x, v)
        ∨ i = .setItem p tag (BitVec.ofNat 8 (groupCode (placeOf x).1)) (BitVec.ofNat 16 (placeOf x).2) v)

/-! ### Event records appended by one command (R147, R158) -/

/-- The EVENT area after event records, each from its origin, are handed on one after another under the clock, the station and the
boundary of `s`. -/
def eventsAfter (s : State) (handed : List (Origin × Event)) : Area EventRecord :=
  handed.foldl
    (fun a h => if s.recordsOpen then appendTo (capacityOf s .event) (stampEvent s h.1 h.2) a else a) s.events

/-! ### The moments of the timed commands -/

/-- Whether the moment of a timed command has come, as its rule gives it; none for a command that time does not bring. -/
def moment (s : State) : Instr → Option Bool
  | .frameGapExpiry p => some (match (s.ports.get p).receiver with | .hunting => false | .inFrame _ gap => decide (2 < gap))
  | .linkDown p => some ((s.ports.get p).up && decide (500 ≤ (s.ports.get p).silence))
  | .feedHoldExpiry c =>
    some (decide ((s.feed.get c).state = .holdLast) && decide ((s.feed.get c).hold = 1) && decide (100 ≤ (s.feed.get c).holdMs))
  | .debounceExpiry i => some (decide ((s.inputs.get i).timer = some 0))
  | .elementCheckDelayEnd z =>
    some (decide ((s.zones.get z).state = .heating) && decide ((s.zones.get z).check = .delay)
      && decide (2000 ≤ (s.zones.get z).checkMs))
  | .sliceExpiry z => some (s.grants.any fun g => decide (g.zone = z) && decide (s.settings.rotationSlice ≤ g.elapsed))
  | .speedWindowEnd => some (decide (250 ≤ s.travel.windowMs))
  | .pauseDetectorFire => some (decide (s.mode = .paving) && decide (1000 ≤ s.travel.pauseMs))
  | .stopTimerMatch =>
    some (decide (s.travel.stop.state = .running) && decide (s.travel.stop.codeInForce ≠ 0)
      && decide (compareOf s.travel.stop.codeInForce ≤ s.travel.stop.elapsed))
  | .clockStep => some (decide (125 ≤ s.clockPhase))
  | .widthJogExpiry d => some (decide ((s.geometry.get d).jogLeft = 1) && decide (100 ≤ (s.geometry.get d).jogMs))
  | .gradeJogExpiry d => some (decide ((s.sides.get d).jogLeft = 1) && decide (100 ≤ (s.sides.get d).jogMs))
  | .feedJogExpiry c => some (decide ((s.feed.get c).jogLeft = 1) && decide (100 ≤ (s.feed.get c).jogMs))
  | .sensorRoundStart => some (decide (s.mode ≠ .starting) && decide (40 ≤ s.sensors.sinceStart))
  | .pollTimeout => some (match s.sensors.round with | none => false | some r => decide (3 ≤ r.waited))
  | .sensorFrameGapExpiry => some (match s.sensorReceiver with | .hunting => false | .inFrame _ gap => decide (2 < gap))
  | .scanner => some (decide (s.mode = .paving) && !s.profiler.scanner && decide (2000 ≤ s.profiler.lineSilence))
  | .heatingMinute z => some (decide (59 ≤ (s.health.get z).seconds) && decide (1000 ≤ (s.health.get z).subMs))
  | _ => none

/-! ### The table of GO (R9) -/

/-- The mode that GO(target) enters in a mode, none where the mode stays; the outer none is a pair that is not in the table. -/
def goEntry : GoTarget → Mode → Option (Option Mode)
  | .preheat, .parked => some (some .preheat)
  | .preheat, .standby => some (some .preheat)
  | .preheat, .preheat => some none
  | .pave, .parked => some (some .preheat)
  | .pave, .standby => some (some .preheat)
  | .pave, .preheat => some none
  | .pave, .ready => some (some .paving)
  | .pave, .paving => some none
  | .pave, .paused => some none
  | .stop, .paving => some (some .ready)
  | .stop, .paused => some (some .ready)
  | .standby, .preheat => some (some .standby)
  | .standby, .ready => some (some .standby)
  | .standby, .paving => some (some .standby)
  | .standby, .paused => some (some .standby)
  | .park, .parked => some none
  | .park, .preheat => some (some .parked)
  | .park, .ready => some (some .parked)
  | .park, .paving => some (some .parked)
  | .park, .paused => some (some .parked)
  | .park, .standby => some (some .parked)
  | _, _ => none

/-- Where a GO of the table leaves the mode and pave-pending, with the follow-on changes of R10 and R11; `hot` and `hotAfter` say that
readiness holds before and after. -/
def goLeaves (target : GoTarget) (mode : Mode) (hot hotAfter : Bool) : Mode × Bool :=
  match target, mode with
  | .preheat, _ => (if hotAfter then .ready else .preheat, false)
  | .pave, .parked | .pave, .standby | .pave, .preheat =>
    if hot || hotAfter then (.paving, false) else (.preheat, true)
  | .pave, .paused => (.paused, false)
  | .pave, _ => (.paving, false)
  | .stop, _ => (if hotAfter then .ready else .preheat, false)
  | .standby, _ => (.standby, false)
  | .park, _ => (.parked, false)

end Sys2Proof.Machine
end

