-- ==== Sys2Proof/Certificates/Slice0/Obligations.lean ====
section
/-! DEFINITION. The statements about the WK620, for the provers. Each names what it states; its docstring gives the rules of spec/ it comes
from and, where it rests on a choice of the model, the log entry. A command's effect is stated as an equation of the next state, so that
everything the equation does not name is unchanged, or as a next state `t` with the fields that may differ from `s` named in a record update. -/

open Sys2Proof Sys2Proof.Machine

/-! ### The machine as a whole -/

/-- The command at the front of the queue is the one run, on the state with the queue's rest; on an empty queue one millisecond passes,
and the commands whose moment it brings join the queue (the model's choice, assumption 7). -/
def Obligations.StepTakesTheFrontCommand : Prop :=
  (∀ (c : Instr) (s : State), step { s with pending := c :: s.pending } = exec c s)
    ∧ ∀ s : State, s.pending = [] → step s = .next { elapse s with pending := due (elapse s) }

/-- R174 and the scope's "takes": no command stops the part, and none sends another: every command of the table ends in a next state with
the queue as it stood. -/
def Obligations.EveryCommandIsTaken : Prop :=
  ∀ (c : Instr) (s : State), ∃ t, exec c s = .next t ∧ t.pending = s.pending

/-- R3: a reset taken in any state puts every block at its reset value. What reset does not decide stays: the pin levels, the nonvolatile
array (bad when a store was being written, R182) and the waiting commands. The model's choices: assumptions 12, 23 and 26. -/
def Obligations.ResetEntersStarting : Prop :=
  ∀ s : State, ∃ t, exec .reset s = .next t
    ∧ t = { State.reset with
            estop := !s.inputs.estop.pin
            inputs := t.inputs
            store := { State.reset.store with array := t.store.array }
            pending := s.pending }
    ∧ (∀ i : DigitalInput, t.inputs.get i
        = { pin := (s.inputs.get i).pin, debounced := (s.inputs.get i).pin, timer := none })
    ∧ t.store.array = (match s.store.state with | .idle => s.store.array | .writing _ => .bad)
    ∧ ∀ o : Output, driven t o = 0

/-- Every invariant below holds right after reset. The first power-on is as assumptions 3 and 4 take it. -/
def Obligations.ResetMeetsEveryRule : Prop :=
  modeSound State.reset = true ∧ budgetSound State.reset = true ∧ authoritySound State.reset = true
    ∧ travelSound State.reset = true ∧ recordsSound State.reset = true ∧ sidesSound State.reset = true
    ∧ feedsSound State.reset = true ∧ geometrySound State.reset = true ∧ portsSound State.reset = true
    ∧ readinessSound State.reset = true

/-! ### Invariants that every step keeps -/

/-- R1, R10, R11, R16: pave-pending stands in PREHEAT only, readiness agrees with READY and PREHEAT, and an active e-stop latch holds the
mode in PARKED or STARTING. -/
def Obligations.ModeRulesKept : Prop :=
  ∀ s t : State, modeSound s = true → step s = .next t → modeSound t = true

/-- R41, R47, R51, R63, R65: the wait queue holds exactly the WAITING zones and the grant list exactly the HEATING ones, each once, and
the granted ratings never exceed the generator limit. -/
def Obligations.BudgetRulesKept : Prop :=
  ∀ s t : State, budgetSound s = true → step s = .next t → budgetSound t = true

/-- R165: a holder's link is UP, and its station kind is permitted for the function. R160: at most four BUSY replies wait on a port. -/
def Obligations.LinkRulesKept : Prop :=
  (∀ s t : State, authoritySound s = true → step s = .next t → authoritySound t = true)
    ∧ (∀ s t : State, portsSound s = true → step s = .next t → portsSound t = true)

/-- R22, R23: the station value is always that of the pulse count, and the high-water station is never below it. R32, R34, R36: extension
positions stay within 0 to 2500 mm, and no width jog runs under the e-stop latch or on a faulted channel. -/
def Obligations.TravelAndGeometryRulesKept : Prop :=
  (∀ s t : State, travelSound s = true → step s = .next t → travelSound t = true)
    ∧ (∀ s t : State, geometrySound s = true → step s = .next t → geometrySound t = true)

/-- R145 to R148: both areas hold at most their capacity, numbered without a gap up to the newest, with sound ack points and counts. -/
def Obligations.RecordAreaRulesKept : Prop :=
  ∀ s t : State, recordsSound s = true → step s = .next t → recordsSound t = true

/-- R102, R103, R111: an engaged side stands in the state it settles to, and a valve is driven only where the manual allows it. R117,
R118, R127: an engaged channel is SUSPENDED exactly outside PAVING, and a channel runs only where the manual allows it. -/
def Obligations.ValveAndFeedRulesKept : Prop :=
  (∀ s t : State, sidesSound s = true → step s = .next t → sidesSound t = true)
    ∧ (∀ s t : State, feedsSound s = true → step s = .next t → feedsSound t = true)

/-- R7, R20, R41, R43, R45: the zones stand where their rules put them, and the readiness flag and the failing count are those of the
zones as they stand, while the queue and the grant list are in order too (BudgetRulesKept). -/
def Obligations.ReadinessIsTheTruth : Prop :=
  ∀ s t : State, readinessSound s = true → budgetSound s = true → step s = .next t → readinessSound t = true

/-! ### Start-up (R5, R6) -/

/-- R5, R6: the end of the settings load takes STARTING to PARKED: the SETTINGS record of a bad load first, then the numbered job's
JOB_STARTED, then MODE_CHANGED with cause START; a good image replaces the defaults; the blocks see PARKED, which finds sides and feed
channels OFF (R108, R124); and the first sensor round begins (R80), as RoundStartsWithFirstUsedSlot says. In another mode the load has
ended already. The model's choices: assumptions 13 and 25. -/
def Obligations.LoadEndsStartUp : Prop :=
  ∀ (s : State) (readInFull : Bool),
    (s.mode ≠ .starting → exec (.settingsLoadComplete readInFull) s = .next s)
    ∧ (s.mode = .starting → (∀ d : Side, (s.sides.get d).state = .off) →
        ∃ u, exec (.settingsLoadComplete readInFull) s = .next (startRound u)
          ∧ (s.sensors.round = none → (startRound u).sensors.sinceStart = 0)
          ∧ u = { s with
                  mode := .parked, readiness := u.readiness, failing := u.failing, travel := u.travel, health := u.health
                  sides := u.sides, feed := u.feed
                  profiler := { s.profiler with nextMark := u.profiler.nextMark, flags := u.profiler.flags }
                  events := u.events, recordsOpen := true, job := { s.job with number := u.job.number }, store := u.store
                  settings := u.settings }
          ∧ (∀ d : Side, u.sides.get d
              = { s.sides.get d with
                  duty := 0, dir := .none, jogLeft := 0
                  jogMs := if (s.sides.get d).jogLeft = 0 then (s.sides.get d).jogMs else 0
                  lastEnd := if (s.sides.get d).jogLeft = 0 then (s.sides.get d).lastEnd else .parked })
          ∧ (∀ c : FeedChannel, u.feed.get c
              = { s.feed.get c with
                  state := .off, duty := 0, hold := 0, holdMs := 0, jogLeft := 0
                  jogDuty := if (s.feed.get c).jogLeft = 0 then (s.feed.get c).jogDuty else 0
                  jogMs := if (s.feed.get c).jogLeft = 0 then (s.feed.get c).jogMs else 0
                  lastEnd := if (s.feed.get c).jogLeft = 0 then (s.feed.get c).lastEnd else .parked })
          ∧ u.profiler.flags.afterPause = true
          ∧ u.readiness = (failingZones u).isEmpty ∧ u.failing = (failingZones u).length
          ∧ (match (if readInFull then s.store.array else .bad) with
             | .bad =>
               u.settings = s.settings ∧ u.health = s.health ∧ u.travel = s.travel ∧ u.job.number = 1
               ∧ u.profiler.nextMark = s.profiler.nextMark
               ∧ u.store = { s.store with loadOutcome := .defaulted, defaulted := true }
               ∧ u.events = eventsAfter { s with recordsOpen := true }
                   [(.settingsStore, .settings .defaulted),
                    (.modeController, .jobStarted u.job.number s.job.lane s.job.layer s.job.start),
                    (.modeController, .modeChanged .starting .parked .start)]
             | .good image =>
               u.settings = image.settings ∧ (∀ z : Zone, u.health.get z = (image.health.get z).stored)
               ∧ u.job.number = (image.lastJob + 1) % 65536
               ∧ u.store = { s.store with loadOutcome := .good, defaulted := false }
               ∧ u.travel = { s.travel with
                   stop := { s.travel.stop with codeInForce := image.settings.standbyCode, pending := false }
                   station := stationOf s.job.start s.travel.pulseCount image.settings.pulsesPerMetre
                   highWater := max s.travel.highWater u.travel.station
                   windowStart := s.travel.windowStart + (u.travel.station - s.travel.station) }
               ∧ u.profiler.nextMark = nextMarkOf s.job.start u.travel.highWater image.settings.recordInterval
               ∧ u.events = eventsAfter { s with recordsOpen := true, settings := image.settings, travel := u.travel }
                   [(.modeController, .jobStarted u.job.number s.job.lane s.job.layer s.job.start),
                    (.modeController, .modeChanged .starting .parked .start)]))

/-! ### The station lines (R161 to R164) -/

/-- R161: each discarded frame raises the port's frame error count by one, holding at 65535, and changes nothing else; bytes without a
SYNC are counted nowhere. The discards: more than 2 ms between two bytes of a frame, a LEN below 2 or above 768, and a sum that is not 0.
A frame that the bytes do not end is held, and bytes that come within 2 ms go on with it; the byte that ends a longer gap is the first
byte hunted. Bytes without a gap between them are one command (assumptions 18 and 43). -/
def Obligations.DiscardedFrameIsOnlyCounted : Prop :=
  ∀ (s : State) (p : Port) (bytes : List Byte) (lo hi : Byte),
    let r := s.ports.get p
    let counted : State := setPort p { r with receiver := .hunting, frameErrors := min 65535 (r.frameErrors + 1) } s
    let held (taken : List Byte) : State := setPort p { r with receiver := .inFrame taken 0 } s
    (∀ taken gap, r.receiver = .inFrame taken gap →
      (2 < gap →
        exec (.frameGapExpiry p) s = .next counted
        ∧ (bytes ≠ [] → exec (.frameError p bytes) s = exec (.frameError p bytes) counted))
      ∧ (gap ≤ 2 →
        exec (.frameGapExpiry p) s = .next s
        ∧ (bytes ≠ [] →
            exec (.frameError p bytes) s
              = exec (.frameError p (taken ++ bytes)) (setPort p { r with receiver := .hunting } s))))
    ∧ (r.receiver = .hunting →
        exec (.frameGapExpiry p) s = .next s
        ∧ (stationSync ∉ bytes → exec (.frameError p bytes) s = .next s)
        ∧ (bytes.length < 2 → exec (.frameError p (stationSync :: bytes)) s = .next (held (stationSync :: bytes)))
        ∧ (((half lo hi).toNat < 2 ∨ 768 < (half lo hi).toNat) → stationSync ∉ bytes →
            exec (.frameError p (stationSync :: lo :: hi :: bytes)) s = .next counted)
        ∧ (2 ≤ (half lo hi).toNat → (half lo hi).toNat ≤ 768 → bytes.length < (half lo hi).toNat + 1 →
            exec (.frameError p (stationSync :: lo :: hi :: bytes)) s = .next (held (stationSync :: lo :: hi :: bytes)))
        ∧ (2 ≤ (half lo hi).toNat → (half lo hi).toNat ≤ 768 → bytes.length = (half lo hi).toNat + 1 →
            byteSum (lo :: hi :: bytes) ≠ 0 → exec (.frameError p (stationSync :: lo :: hi :: bytes)) s = .next counted))

/-- Sections 12.1 and 12.2, R161, R163, R184: for every well-formed request command, with every operand at every value, the bytes of its
frame are taken by the receiver exactly as the command, whether it hunts or a gap has ended the frame it was in: no byte of a frame is
dropped or misread. R171, section 12.1: each SET_ITEM row that names its item is the SET_ITEM of that item's group and index. The model's
choices: assumptions 18, 19, 20 and 35. -/
def Obligations.RequestFramesSpellTheirCommands : Prop :=
  (∀ (i : Instr) (w : Spelled) (s : State), i.wf = true → spellingOf i = some w →
     ((s.ports.get w.port).receiver = .hunting ∨ ∃ taken gap, (s.ports.get w.port).receiver = .inFrame taken gap ∧ 2 < gap) →
     exec (.frameError w.port (requestFrame w.kind w.tag w.payload)) s = exec i s)
    ∧ (∀ (i : Instr) (p : Port) (tag : Byte) (x : Setting) (v : Word) (s : State), itemWriteOf i = some (p, tag, x, v) →
         exec i s
           = exec (.setItem p tag (BitVec.ofNat 8 (groupCode (placeOf x).1)) (BitVec.ofNat 16 (placeOf x).2) v) s)

/-- R163 case 1, R161, R162: a good frame that meets a request in flight is answered BUSY with its own KIND and TAG and not executed; with
four BUSY replies waiting already it is discarded unanswered and counted; either way it brings the link UP. A frame that a gap has ended
is dropped and counted. R4, case 2: in STARTING every request but STATUS is answered NOT_READY. Cases 3 and 4: a frame whose kind is none
of the eighteen, or whose payload has not its kind's length, is answered UNKNOWN. When a reply has gone, the oldest waiting one begins;
the in-flight request ends with its own reply, not with a BUSY reply. The model's choices: assumptions 16, 19 and 35. -/
def Obligations.RequestsAreTakenOneAtATime : Prop :=
  (∀ (i : Instr) (w : Spelled) (s : State), spellingOf i = some w → (s.ports.get w.port).inFlight.isSome = true →
     exec i s =
       .next (setPort w.port
         (let r := { dropFrame (s.ports.get w.port) with up := true, silence := 0 }
          if (busyQueue r).length < 4 then transmit (replyOf w.kind w.tag (bareAnswer .busy)) r
          else { r with frameErrors := min 65535 (r.frameErrors + 1) }) s))
    ∧ (∀ (i : Instr) (w : Spelled) (s : State), spellingOf i = some w → s.mode = .starting →
         (s.ports.get w.port).inFlight = none → w.kind ≠ kindByte .status →
         exec i s = .next (withReply w.port w.kind w.tag (bareAnswer .notReady) s))
    ∧ (∀ (p : Port) (kind tag : Byte) (payload : List Byte) (s : State), s.mode ≠ .starting → (s.ports.get p).inFlight = none →
         (18 < kind.toNat ∨ kind = 0
           ∨ (∃ k ∈ allKinds, kindByte k = kind
               ∧ payload.length ≠ (match k with
                 | .status => 0 | .readItem => 4 | .setItem => 11 | .take => 2 | .release => 1 | .go => 1 | .sideMode => 2
                 | .setReference => 1 | .jog => 3 | .feedMode => 2 | .clearFault => 1 | .clearHealth => 1 | .mark => 1
                 | .writeJob => 22 | .readRecords => 6 | .ackRecords => 5 | .setClock => 5 | .storeSettings => 0))) →
         exec (.unknownRequest p kind tag payload) s = .next (withReply p kind tag (bareAnswer .unknown) s)
         ∧ exec (.busy p kind tag payload) s = .next (withReply p kind tag (bareAnswer .unknown) s))
    ∧ (∀ (p : Port) (s : State),
         ((s.ports.get p).sending = none → exec (.replySent p) s = .next s)
         ∧ ∀ sent, (s.ports.get p).sending = some sent →
             exec (.replySent p) s =
               .next (setPort p
                 { s.ports.get p with
                   sending := (s.ports.get p).waiting.head?
                   waiting := (s.ports.get p).waiting.tail
                   inFlight := if sent.status = .busy then (s.ports.get p).inFlight else none } s))

/-- R162, R169, R18, R109, R125: 500 ms of silence on an UP link make it DOWN; every function the station held becomes free, in function
order, each with its AUTHORITY record, and the jogs running under them end with AUTHORITY. Where MODE is not among them nothing more
happens; the loss of MODE clears pave-pending and takes PAVING and PAUSED to READY, or to PREHEAT without readiness, where the jogs stay
as they then are. A silence below 500 ms, as after a good frame taken first, leaves the link UP. -/
def Obligations.LinkSilenceFreesFunctions : Prop :=
  ∀ (p : Port) (s : State),
    let r := s.ports.get p
    ((r.up = false ∨ r.silence < 500) → exec (.linkDown p) s = .next s)
    ∧ (r.up = true → 500 ≤ r.silence →
        ∃ u t, exec (.linkDown p) s = .next t
          ∧ u = { s with
                  ports := s.ports.set p { r with up := false }
                  authority := u.authority, geometry := u.geometry, sides := u.sides, feed := u.feed
                  events := eventsAfter s
                    ((allFunctions.filter (holds s p)).map fun f => (.authorityTable, .authority f .loss p)) }
          ∧ (∀ f : Function, holderOf u.authority f = if holds s p f then none else holderOf s.authority f)
          ∧ (∀ d : Side, u.geometry.get d
              = if holds s p (.width d) = true ∧ (s.geometry.get d).jogDir ≠ .none then
                  { s.geometry.get d with jogDir := .none, jogLeft := 0, jogMs := 0, lastEnd := .authority }
                else s.geometry.get d)
          ∧ (∀ d : Side, u.sides.get d
              = if holds s p (.grade d) = true ∧ 0 < (s.sides.get d).jogLeft then
                  { s.sides.get d with duty := 0, dir := .none, jogLeft := 0, jogMs := 0, lastEnd := .authority }
                else s.sides.get d)
          ∧ (∀ c : FeedChannel, u.feed.get c
              = if holds s p (.feed (feedSide c)) = true ∧ 0 < (s.feed.get c).jogLeft then
                  { s.feed.get c with duty := 0, jogDuty := 0, jogLeft := 0, jogMs := 0, lastEnd := .authority }
                else s.feed.get c)
          ∧ (holds s p .mode = false → t = u)
          ∧ (holds s p .mode = true → s.mode ≠ .paving → s.mode ≠ .paused → t = { u with pavePending := false })
          ∧ (holds s p .mode = true → (s.mode = .paving ∨ s.mode = .paused) →
              t.mode = (if t.readiness then .ready else .preheat)
              ∧ (∃ later, t.events = eventsAfter u ((.modeController, .modeChanged s.mode .ready .authorityLoss) :: later))
              ∧ (∀ d : Side, t.sides.get d
                  = { u.sides.get d with
                      state := (t.sides.get d).state, duty := (t.sides.get d).duty, dir := (t.sides.get d).dir })
              ∧ (∀ d : Side, sideEngaged (s.sides.get d).state = false → t.sides.get d = u.sides.get d)
              ∧ (∀ c : FeedChannel, feedEngaged (s.feed.get c).state = false → t.feed.get c = u.feed.get c)
              ∧ t = { u with
                      mode := t.mode, pavePending := false, readiness := t.readiness, failing := t.failing, zones := t.zones
                      health := t.health, queue := t.queue, grants := t.grants, sides := t.sides, feed := t.feed
                      profiler := t.profiler, events := t.events }))

/-! ### STATUS and items (R170 to R173) -/

/-- R173, section 12.3: STATUS is served in every mode, changes nothing beyond its port, and its payload shows the mode, the three flags,
the holders, the requester's functions, the standing alarms and the area counts, in 32 + k bytes, at most 43. An alarm stands exactly
while its condition does, and the alarms are listed in the order of R173. R179: each output's commanded value is its owner's, the driven
value is 0 in STARTING and under the e-stop latch, and the pin stands at the active level of its polarity for the duty's share, or at the
inactive level when off. That these are functions of the state is assumption 34. -/
def Obligations.StatusAndOutputsShowTheState : Prop :=
  (∀ (p : Port) (tag : Byte) (s : State), (s.ports.get p).inFlight = none →
    ∃ payload, exec (.status p tag) s = .next (withReply p (kindByte .status) tag (okAnswer payload) s)
      ∧ payload.length = 32 + (standingAlarms s).length ∧ payload.length ≤ 43
      ∧ payload.take 4
          = u8 (modeCode s.mode) ++ boolByte s.pavePending ++ boolByte s.readiness ++ boolByte s.estop
      ∧ (∀ f : Function, payload[4 + functionCode f]? = (holderByte (holderOf s.authority f)).head?)
      ∧ (payload.drop 13).take 2 = u16 (functionMask s.authority p)
      ∧ payload[15]? = some (BitVec.ofNat 8 (standingAlarms s).length)
      ∧ (payload.drop 16).take (standingAlarms s).length = (standingAlarms s).map (fun a => BitVec.ofNat 8 (alarmCode a))
      ∧ payload.drop (16 + (standingAlarms s).length)
          = u32 (unacked s.mat) ++ u32 (unacked s.events) ++ u32 s.mat.newest ++ u32 s.events.newest)
    ∧ (∀ s : State,
        (standingAlarms s).Pairwise (fun a b => alarmCode a < alarmCode b)
        ∧ ∀ a : Alarm, a ∈ standingAlarms s ↔
            match a with
            | .zoneFault => ∃ z : Zone, (s.zones.get z).state = .fault ∨ (s.zones.get z).latch = true
            | .overtemp => ∃ z : Zone, (s.zones.get z).state = .overtemp
            | .sideHold => ∃ d : Side, (s.sides.get d).state = .hold
            | .feedHold => ∃ c : FeedChannel, (s.feed.get c).state = .holdLast ∨ (s.feed.get c).state = .sensorHold
            | .sensorLink => s.sensors.staleRounds = 10
            | .scanner => s.profiler.scanner = true
            | .recordNearFull =>
              9 * s.settings.matCapacity ≤ 10 * (s.mat.newest - s.mat.ackPoint)
                ∨ 9 * (2048 - s.settings.matCapacity) ≤ 10 * (s.events.newest - s.events.ackPoint)
            | .recordLoss => s.mat.lostAtAck < s.mat.lost ∨ s.events.lostAtAck < s.events.lost
            | .settingsDefaulted => s.store.defaulted = true
            | .geometryStale => ∃ d : Side, (s.geometry.get d).stale = true
            | .readinessLost => (s.mode = .paving ∨ s.mode = .paused) ∧ s.readiness = false)
    ∧ ∀ (s : State) (o : Output),
        commanded s o =
          (match o with
           | .gradeUp d => if (s.sides.get d).dir = .up then (s.sides.get d).duty else 0
           | .gradeDown d => if (s.sides.get d).dir = .down then (s.sides.get d).duty else 0
           | .feed c => (s.feed.get c).duty
           | .widthIn d => if (s.geometry.get d).jogDir = .inward then 1 else 0
           | .widthOut d => if (s.geometry.get d).jogDir = .outward then 1 else 0
           | .contactor z => if (s.zones.get z).state = .heating then 1 else 0
           | .travelPermit => if (s.mode = .paving ∨ s.mode = .paused) ∧ s.estop = false then 1 else 0
           | .genLoad => if s.grants.length = 0 then 0 else 1
           | .alarm => if (standingAlarms s).length = 0 then 0 else 1)
        ∧ driven s o = (if s.mode = .starting ∨ s.estop = true then 0 else commanded s o)
        ∧ let share : Int := match o with
            | .gradeUp _ | .gradeDown _ | .feed _ => driven s o
            | .widthIn _ | .widthOut _ | .contactor _ | .travelPermit | .genLoad | .alarm => 1000 * driven s o
          (s.settings.polarity.get o = .activeHigh → pinHighShare s o = share)
          ∧ (s.settings.polarity.get o = .activeLow → pinHighShare s o = 1000 - share)

/-- R170: READ_ITEM changes nothing beyond its port; an unknown group or an index that is no item is UNKNOWN with no values, a count of 0
or above 16 is RANGE, and otherwise the reply carries the items' eight-byte fields in index order, the port's own request shown in flight.
The codes of the fields are those of assumptions 5, 21, 22 and 42. -/
def Obligations.ReadItemChangesNothing : Prop :=
  ∀ (p : Port) (tag group count : Byte) (first : Half) (s : State), portOpen s p = true →
    (13 < group.toNat →
      exec (.readItem p tag group first count) s = .next (withReply p (kindByte .readItem) tag (bareAnswer .unknown) s))
    ∧ ∀ g, allGroups[group.toNat]? = some g →
        ((count.toNat = 0 ∨ 16 < count.toNat) →
          exec (.readItem p tag group first count) s = .next (withReply p (kindByte .readItem) tag (bareAnswer .range) s))
        ∧ (1 ≤ count.toNat → count.toNat ≤ 16 →
            ∀ fields : List (Option (List Byte)),
              fields = (List.range count.toNat).map
                (fun k => itemField (withOpened p (kindByte .readItem) tag s) g (first.toNat + k)) →
              (none ∈ fields →
                exec (.readItem p tag group first count) s
                  = .next (withReply p (kindByte .readItem) tag (bareAnswer .unknown) s))
              ∧ (none ∉ fields →
                exec (.readItem p tag group first count) s
                    = .next (withReply p (kindByte .readItem) tag (okAnswer (fields.filterMap id).flatten) s)
                  ∧ (fields.filterMap id).flatten.length = 8 * count.toNat))

/-! ### Authority (R165 to R169) -/

/-- R166: TAKE is answered by the first case that applies: NOT_READY, UNKNOWN, NOT_PERMITTED, OK for a function held already, OK for a
free one, OK for a takeover by OC, HELD. The reply to an OK carries the function and its holder. R167: a takeover makes port 0 the holder,
ends the jogs under the function with cause AUTHORITY, leaves everything else of the block as it stands, and appends AUTHORITY with cause
OVERRIDE and the previous holder, origin port 0; no other case changes more than the holder. -/
def Obligations.TakeByFirstCase : Prop :=
  (∀ (p : Port) (tag function override : Byte) (s : State), portIdle s p = true →
     let reply (a : Answer) (t : State) := withReply p (kindByte .take) tag a t
     (s.mode = .starting → exec (.take p tag function override) s = .next (reply (bareAnswer .notReady) s))
     ∧ (s.mode ≠ .starting → 8 < function.toNat →
         exec (.take p tag function override) s = .next (reply (bareAnswer .unknown) s))
     ∧ ∀ f : Function, s.mode ≠ .starting → function.toNat = functionCode f →
         (permitted p f = false → exec (.take p tag function override) s = .next (reply (bareAnswer .notPermitted) s))
         ∧ (permitted p f = true → holderOf s.authority f = some p →
             exec (.take p tag function override) s = .next (reply (okAnswer (u8 (functionCode f) ++ u8 (portCode p))) s))
         ∧ (permitted p f = true → holderOf s.authority f = none →
             exec (.take p tag function override) s
               = .next (reply (okAnswer (u8 (functionCode f) ++ u8 (portCode p)))
                   { s with authority := setHolderIn s.authority f (some p) }))
         ∧ ∀ q : Port, permitted p f = true → holderOf s.authority f = some q → q ≠ p →
             (p = .oc ∧ override ≠ 0 ∧ f ≠ .records →
               exec (.take p tag function override) s
                 = .next (reply (okAnswer (u8 (functionCode f) ++ u8 (portCode p))) (takeOver f q s)))
             ∧ (¬ (p = .oc ∧ override ≠ 0 ∧ f ≠ .records) →
               exec (.take p tag function override) s = .next (reply (bareAnswer .held) s)))
    ∧ (∀ (f : Function) (q : Port) (s : State), geometrySound s = true → ∃ t, takeOver f q s = t
         ∧ t = { s with
                 authority := setHolderIn s.authority f (some .oc)
                 geometry := t.geometry, sides := t.sides, feed := t.feed
                 events := eventsAfter s [(.port .oc, .authority f .override q)] }
         ∧ (∀ d : Side, t.geometry.get d
             = if f = .width d ∧ 0 < (s.geometry.get d).jogLeft then
                 { s.geometry.get d with jogDir := .none, jogLeft := 0, jogMs := 0, lastEnd := .authority }
               else s.geometry.get d)
         ∧ (∀ d : Side, t.sides.get d
             = if f = .grade d ∧ 0 < (s.sides.get d).jogLeft then
                 { s.sides.get d with duty := 0, dir := .none, jogLeft := 0, jogMs := 0, lastEnd := .authority }
               else s.sides.get d)
         ∧ (∀ c : FeedChannel, t.feed.get c
             = if f = .feed (feedSide c) ∧ 0 < (s.feed.get c).jogLeft then
                 { s.feed.get c with duty := 0, jogDuty := 0, jogLeft := 0, jogMs := 0, lastEnd := .authority }
               else s.feed.get c))

/-- R168, R18, R109, R125: RELEASE frees a function its requester holds, ends the jogs running under it with cause AUTHORITY, and appends
no record of its own; a release of MODE clears pave-pending and takes PAVING and PAUSED to READY, or to PREHEAT without readiness. -/
def Obligations.ReleaseFreesFunction : Prop :=
  ∀ (p : Port) (tag function : Byte) (s : State), portOpen s p = true →
    (8 < function.toNat →
      exec (.release p tag function) s = .next (withReply p (kindByte .release) tag (bareAnswer .unknown) s))
    ∧ ∀ f : Function, function.toNat = functionCode f →
        (holds s p f = false →
          exec (.release p tag function) s = .next (withReply p (kindByte .release) tag (bareAnswer .notHolder) s))
        ∧ (holds s p f = true → f ≠ .mode →
            ∃ t, exec (.release p tag function) s = .next (withReply p (kindByte .release) tag (okAnswer []) t)
              ∧ t = { s with
                      authority := setHolderIn s.authority f none
                      geometry := t.geometry, sides := t.sides, feed := t.feed }
              ∧ (∀ d : Side, t.geometry.get d
                  = if f = .width d ∧ (s.geometry.get d).jogDir ≠ .none then
                      { s.geometry.get d with jogDir := .none, jogLeft := 0, jogMs := 0, lastEnd := .authority }
                    else s.geometry.get d)
              ∧ (∀ d : Side, t.sides.get d
                  = if f = .grade d ∧ 0 < (s.sides.get d).jogLeft then
                      { s.sides.get d with duty := 0, dir := .none, jogLeft := 0, jogMs := 0, lastEnd := .authority }
                    else s.sides.get d)
              ∧ (∀ c : FeedChannel, t.feed.get c
                  = if f = .feed (feedSide c) ∧ 0 < (s.feed.get c).jogLeft then
                      { s.feed.get c with duty := 0, jogDuty := 0, jogLeft := 0, jogMs := 0, lastEnd := .authority }
                    else s.feed.get c))
        ∧ (holds s p f = true → f = .mode → s.mode ≠ .paving → s.mode ≠ .paused →
            exec (.release p tag function) s
              = .next (withReply p (kindByte .release) tag (okAnswer [])
                  { s with authority := setHolderIn s.authority .mode none, pavePending := false }))
        ∧ (holds s p f = true → f = .mode → (s.mode = .paving ∨ s.mode = .paused) → modeSound s = true →
            ∃ t later, exec (.release p tag function) s = .next (withReply p (kindByte .release) tag (okAnswer []) t)
              ∧ t.mode = (if t.readiness then .ready else .preheat) ∧ t.pavePending = false
              ∧ holderOf t.authority .mode = none
              ∧ t.events = eventsAfter s ((.modeController, .modeChanged s.mode .ready .authorityLoss) :: later)
              ∧ t = { s with
                      mode := t.mode, pavePending := false, readiness := t.readiness, failing := t.failing
                      authority := setHolderIn s.authority .mode none, zones := t.zones, health := t.health, queue := t.queue
                      grants := t.grants, sides := t.sides, feed := t.feed, profiler := t.profiler, events := t.events })

/-! ### The machine mode (R9 to R19) -/

/-- R9, R2, R10, R11: a GO of the table is answered OK with the mode and pave-pending as they then stand; the mode it enters is recorded
first, with cause REQUEST and the requester as origin, and readiness carries PREHEAT on to READY or PAVING, and its absence READY back to
PREHEAT. A pair that is not in the table, and every GO under the e-stop latch, is refused with STATE; a requester without MODE with
NOT_HOLDER; an unknown target with UNKNOWN. The code of pave-pending and the order of a chain are the model's choices: assumptions 6 and
9. -/
def Obligations.GoFollowsItsTable : Prop :=
  ∀ (p : Port) (tag target : Byte) (s : State), portOpen s p = true →
    let refusal (status : Status) : Host.Outcome State Fault Refusal :=
      .next (withReply p (kindByte .go) tag (bareAnswer status) s)
    (holds s p .mode = false → exec (.go p tag target) s = refusal .notHolder)
    ∧ (holds s p .mode = true → 4 < target.toNat → exec (.go p tag target) s = refusal .unknown)
    ∧ ∀ g : GoTarget, goTargetOfByte target = some g → holds s p .mode = true →
        (s.estop = true → exec (.go p tag target) s = refusal .state)
        ∧ (s.estop = false → goEntry g s.mode = none → exec (.go p tag target) s = refusal .state)
        ∧ ∀ entered : Option Mode, s.estop = false → goEntry g s.mode = some entered → modeSound s = true →
            ∃ t later,
              exec (.go p tag target) s
                = .next (withReply p (kindByte .go) tag (okAnswer (u8 (modeCode t.mode) ++ boolByte t.pavePending)) t)
              ∧ (t.mode, t.pavePending) = goLeaves g s.mode s.readiness t.readiness
              ∧ (∀ m, entered = some m →
                  t.events = eventsAfter s ((.port p, .modeChanged s.mode m .request) :: later))
              ∧ (entered = none → t.mode = s.mode →
                  t = { s with pavePending := t.pavePending, readiness := t.readiness, failing := t.failing })
              ∧ t = { s with
                      mode := t.mode, pavePending := t.pavePending, readiness := t.readiness, failing := t.failing
                      travel := { s.travel with pauseMs := t.travel.pauseMs }, zones := t.zones, health := t.health
                      queue := t.queue, grants := t.grants, sides := t.sides, feed := t.feed, profiler := t.profiler
                      events := t.events }

/-- R51, R108, R124, R19: a GO(PARK) out of a heating mode turns every zone OFF and empties the queue and the grant list, forces sides and
feed channels OFF with their jogs ended, and leaves no heater, valve, feed or travel output commanded; one record is appended. -/
def Obligations.ParkingStopsEveryBlock : Prop :=
  ∀ (p : Port) (tag : Byte) (s : State), portOpen s p = true → holds s p .mode = true → s.estop = false →
    s.mode ≠ .parked → sidesSound s = true → feedsSound s = true →
    ∃ t, exec (.go p tag 4) s = .next (withReply p (kindByte .go) tag (okAnswer [1, 0]) t)
      ∧ t = { s with
              mode := .parked, pavePending := false, readiness := t.readiness, failing := t.failing
              zones := t.zones, queue := [], grants := [], sides := t.sides, feed := t.feed
              profiler := { s.profiler with scanner := t.profiler.scanner, flags := t.profiler.flags }
              events := eventsAfter s [(.port p, .modeChanged s.mode .parked .request)] }
      ∧ (∀ z : Zone, t.zones.get z
          = { s.zones.get z with state := .off, activeSet := .none, activeSetpoint := 0, check := .idle, checkMs := 0 })
      ∧ (∀ d : Side, (t.sides.get d).state = (if (s.sides.get d).state = .referencing then .referencing else .off)
          ∧ (t.sides.get d).duty = 0 ∧ (t.sides.get d).jogLeft = 0
          ∧ (0 < (s.sides.get d).jogLeft → (t.sides.get d).lastEnd = .parked))
      ∧ (∀ c : FeedChannel, (t.feed.get c).state = .off ∧ (t.feed.get c).duty = 0 ∧ (t.feed.get c).jogLeft = 0
          ∧ (0 < (s.feed.get c).jogLeft → (t.feed.get c).lastEnd = .parked))
      ∧ t.profiler.flags.afterPause = true
      ∧ (∀ d : Side, commanded t (.gradeUp d) = 0 ∧ commanded t (.gradeDown d) = 0)
      ∧ (∀ c : FeedChannel, commanded t (.feed c) = 0) ∧ (∀ z : Zone, commanded t (.contactor z) = 0)
      ∧ commanded t .travelPermit = 0 ∧ commanded t .genLoad = 0

/-- R16, R36, R177: the debounced ESTOP becoming active sets the latch, forces every output off, ends the width jogs with cause E_STOP,
clears pave-pending, and takes a running machine to PARKED with cause E_STOP; STARTING stays. R17: becoming inactive clears the latch and
nothing else. -/
def Obligations.EstopParksTheMachine : Prop :=
  ∀ s : State, s.inputs.estop.timer = some 0 → modeSound s = true →
    (s.inputs.estop.pin = true → s.inputs.estop.debounced = false →
      exec (.debounceExpiry .estop) s
        = .next { s with estop := false, inputs := { s.inputs with estop := { pin := true, debounced := true, timer := none } } })
    ∧ (s.inputs.estop.pin = false → s.inputs.estop.debounced = true →
      ∃ t, exec (.debounceExpiry .estop) s = .next t
        ∧ t.estop = true ∧ t.pavePending = false ∧ (∀ o : Output, driven t o = 0)
        ∧ t.mode = (if s.mode = .starting then .starting else .parked)
        ∧ (∀ d : Side, (t.geometry.get d).jogDir = .none
            ∧ ((s.geometry.get d).jogDir ≠ .none → (t.geometry.get d).lastEnd = .eStop))
        ∧ (s.mode ≠ .starting → (∀ d : Side, (t.sides.get d).state = .off ∨ (t.sides.get d).state = .referencing)
            ∧ ∀ c : FeedChannel, (t.feed.get c).state = .off)
        ∧ (s.mode ≠ .starting → s.mode ≠ .parked → t.queue = [] ∧ t.grants = [] ∧ ∀ z : Zone, (t.zones.get z).state = .off)
        ∧ t.events = eventsAfter s
            (if s.mode = .starting ∨ s.mode = .parked then []
             else [(.modeController, .modeChanged s.mode .parked .eStop)])
        ∧ t = { s with
                mode := t.mode, pavePending := false, readiness := t.readiness, failing := t.failing, estop := true
                geometry := t.geometry, zones := t.zones, queue := t.queue, grants := t.grants, sides := t.sides, feed := t.feed
                profiler := { s.profiler with scanner := t.profiler.scanner, flags := t.profiler.flags }, events := t.events
                inputs := { s.inputs with estop := { pin := false, debounced := false, timer := none } } })

/-- R14, R25: the pause detector fires in PAVING when 1.0 s has run: the mode becomes PAUSED with cause PAUSE, the stop timer restarts
(R28), and levelling and feed are suspended; in another mode, and before the 1.0 s has run, as after an edge taken first, it does not
fire. R28, R15: the stop timer matches when its elapsed count reaches the compare value, and the count holds there; in PAUSED the mode
becomes STANDBY with cause TIMER and STANDBY_ENTERED follows the MODE_CHANGED record; in every other mode nothing more happens. A timer
that does not run, that has not reached the value, or with code 0 in force, does not match. The place of STANDBY_ENTERED is assumption 11.
-/
def Obligations.StopsSuspendPaving : Prop :=
  (∀ s : State,
     ((s.mode ≠ .paving ∨ s.travel.pauseMs < 1000) → exec .pauseDetectorFire s = .next s)
     ∧ (s.mode = .paving → 1000 ≤ s.travel.pauseMs → sidesSound s = true → ∃ t later, exec .pauseDetectorFire s = .next t
         ∧ t.mode = .paused
         ∧ t.events = eventsAfter s ((.modeController, .modeChanged .paving .paused .pause) :: later)
         ∧ t.travel = { s.travel with
             stop := { state := .running, elapsed := 0, subMs := 0, pending := false
                       codeInForce := if s.travel.stop.pending then s.settings.standbyCode else s.travel.stop.codeInForce } }
         ∧ (∀ d : Side, (t.sides.get d).state ≠ .auto ∧ (t.sides.get d).state ≠ .hold)
         ∧ (∀ c : FeedChannel, (t.feed.get c).state ≠ .auto ∧ (t.feed.get c).state ≠ .holdLast ∧ (t.feed.get c).state ≠ .sensorHold)
         ∧ t.profiler.flags.afterPause = true
         ∧ t = { s with
                 mode := .paused, readiness := t.readiness, failing := t.failing, travel := t.travel, zones := t.zones
                 health := t.health, queue := t.queue, grants := t.grants, sides := t.sides, feed := t.feed
                 profiler := t.profiler, events := t.events }))
    ∧ (∀ s : State,
         let t0 := s.travel.stop
         let matched : Travel := { s.travel with stop := { t0 with state := .matched, elapsed := compareOf t0.codeInForce, subMs := 0 } }
         ((t0.state ≠ .running ∨ t0.codeInForce = 0 ∨ t0.elapsed < compareOf t0.codeInForce) →
           exec .stopTimerMatch s = .next s)
         ∧ (t0.state = .running → t0.codeInForce ≠ 0 → compareOf t0.codeInForce ≤ t0.elapsed →
             (s.mode ≠ .paused → exec .stopTimerMatch s = .next { s with travel := matched })
             ∧ (s.mode = .paused → ∃ t later, exec .stopTimerMatch s = .next t
                 ∧ t.mode = .standby
                 ∧ t.events = eventsAfter s
                     ((.modeController, .modeChanged .paused .standby .timer)
                       :: (.travelUnit, .standbyEntered t0.codeInForce (compareOf t0.codeInForce) s.travel.highWater) :: later)
                 ∧ (∀ c : FeedChannel, (t.feed.get c).jogLeft = 0)
                 ∧ t = { s with
                         mode := .standby, readiness := t.readiness, failing := t.failing, travel := matched, zones := t.zones
                         health := t.health, queue := t.queue, grants := t.grants, sides := t.sides, feed := t.feed
                         profiler := t.profiler, events := t.events })))

/-! ### Travel and time (chapter 2) -/

/-- R24: the end of a 250 ms speed window sets the window change, the speed in 0.1 m/min truncated toward zero and held within its bounds,
and the next window's start; R26: in PAUSED a forward window resumes PAVING with cause RESUME. -/
def Obligations.WindowEndMeasuresSpeed : Prop :=
  ∀ s : State, 250 ≤ s.travel.windowMs →
    let change := s.travel.station - s.travel.windowStart
    ∃ t later, exec .speedWindowEnd s = .next t
      ∧ t.travel = { s.travel with
          windowChange := change, speed := max (-32767) (min 32767 ((change * 12).tdiv 5)), windowStart := s.travel.station
          windowMs := 0, pauseMs := t.travel.pauseMs }
      ∧ (s.mode = .paused → 0 < change →
          t.mode = .paving ∧ t.travel.pauseMs = 0
          ∧ t.events = eventsAfter { s with travel := t.travel }
              ((.modeController, .modeChanged .paused .paving .resume) :: later))
      ∧ (quiet s = true → ¬ (s.mode = .paused ∧ 0 < change) → t.mode = s.mode ∧ t.travel.pauseMs = s.travel.pauseMs)
      ∧ (quiet s = true → s.mode ≠ .paving → s.mode ≠ .paused → t = { s with travel := t.travel })
      ∧ (sidesSound s = true → t.mode = .paving →
          ∀ d : Side, sideEngaged (t.sides.get d).state = true → ((t.sides.get d).state = .suspended ↔ t.travel.speed ≤ 0))

/-- R29: the paving clock is 0 after reset, and at each sixteenth of a second, which is 125 half milliseconds, a step of it finds each
field as the table of R29 says and carries into the next; nothing else changes, and the next sixteenth runs from it. R30: SET_CLOCK, from
a holder of MODE or RECORDS outside STARTING, sets the clock as written with the sixteenth 0, and appends CLOCK_SET with the old value,
stamped with the new. That SET_CLOCK leaves the running sixteenth is the model's choice: assumption 27. -/
def Obligations.ClockCarriesAndIsSet : Prop :=
  (∀ s : State, 125 ≤ s.clockPhase →
     ∃ c : ClockValue, exec .clockStep s = .next { s with clock := c, clockPhase := s.clockPhase - 125 }
     ∧ let carrySecond := decide (s.clock.sixteenth.toNat = 15)
       let carryMinute := carrySecond && decide (59 ≤ s.clock.second.toNat)
       let carryHour := carryMinute && decide (59 ≤ s.clock.minute.toNat)
       let carryDay := carryHour && decide (23 ≤ s.clock.hour.toNat)
       c.sixteenth.toNat = (if carrySecond then 0 else s.clock.sixteenth.toNat + 1)
       ∧ c.second.toNat = (if carryMinute then 0 else if carrySecond then s.clock.second.toNat + 1 else s.clock.second.toNat)
       ∧ c.minute.toNat = (if carryHour then 0 else if carryMinute then s.clock.minute.toNat + 1 else s.clock.minute.toNat)
       ∧ c.hour.toNat = (if carryDay then 0 else if carryHour then s.clock.hour.toNat + 1 else s.clock.hour.toNat)
       ∧ c.day.toNat = (if carryDay then (if s.clock.day.toNat = 65535 then 0 else s.clock.day.toNat + 1) else s.clock.day.toNat))
    ∧ (∀ s t : State, exec .reset s = .next t → t.clock = { day := 0, hour := 0, minute := 0, second := 0, sixteenth := 0 })
    ∧ (∀ (p : Port) (tag : Byte) (day : Half) (hour minute second : Byte) (s : State), portIdle s p = true →
         (s.mode = .starting →
           exec (.setClock p tag day hour minute second) s
             = .next (withReply p (kindByte .setClock) tag (bareAnswer .notReady) s))
         ∧ (s.mode ≠ .starting → holds s p .mode = false → holds s p .records = false →
           exec (.setClock p tag day hour minute second) s
             = .next (withReply p (kindByte .setClock) tag (bareAnswer .notHolder) s))
         ∧ (s.mode ≠ .starting → holds s p .mode = true ∨ holds s p .records = true →
             let set : State := { s with clock := { day := day, hour := hour, minute := minute, second := second, sixteenth := 0 } }
             exec (.setClock p tag day hour minute second) s
               = .next (withReply p (kindByte .setClock) tag (okAnswer [])
                   { set with events := eventsAfter set [(.port p, .clockSet s.clock)] })))

/-- R27: while the stop timer RUNS, a written standby delay code waits: the code in force stays and the pending flag is set; otherwise it
comes in force at once. A value beyond 0 to 200 is stored at the bound and answered OK_CLAMPED; a station without MODE is refused. The
answer to a clamped write of the value held is assumption 37. -/
def Obligations.StandbyCodeWaitsWhileRunning : Prop :=
  ∀ (p : Port) (tag : Byte) (value : Word) (s : State), portOpen s p = true →
    (holds s p .mode = false →
      exec (.setStandbyDelayCode p tag value) s = .next (withReply p (kindByte .setItem) tag (bareAnswer .notHolder) s))
    ∧ (holds s p .mode = true →
        ∃ code : Nat, (code : Int) = max 0 (min 200 value.toInt)
          ∧ exec (.setStandbyDelayCode p tag value) s
            = .next (withReply p (kindByte .setItem) tag
                { status := if (code : Int) = value.toInt then .ok else .okClamped, payload := natField code }
                { s with
                  settings := { s.settings with standbyCode := code }
                  travel := { s.travel with
                    stop :=
                      if s.travel.stop.state = .running then { s.travel.stop with pending := true }
                      else { s.travel.stop with codeInForce := code, pending := false } } }))

/-- R22 to R24: a write of the pulses per metre computes the station value again; the high-water station takes it only when exceeded, and
the speed window's start moves with the station value. No profile record can follow, since the mode is PARKED. That a lower value may
raise the high-water station is assumption 36. -/
def Obligations.PulsesPerMetreMovesStation : Prop :=
  ∀ (p : Port) (tag : Byte) (value : Word) (s : State), portOpen s p = true → holds s p .mode = true → s.mode = .parked →
    100 ≤ value.toInt → value.toInt ≤ 20000 →
    ∃ t, exec (.setPulsesPerMetre p tag value) s = .next (withReply p (kindByte .setItem) tag (okAnswer (numField value.toInt)) t)
      ∧ t.travel.station
          = max (-2147483648) (min 2147483647 (s.job.start + (s.travel.pulseCount * 1000).tdiv value.toInt))
      ∧ t.travel = { s.travel with
          station := t.travel.station
          highWater := max s.travel.highWater t.travel.station
          windowStart := s.travel.windowStart + (t.travel.station - s.travel.station) }
      ∧ (t.travel.station ≤ s.travel.highWater → t.profiler = s.profiler)
      ∧ t = { s with settings := { s.settings with pulsesPerMetre := value.toInt }, travel := t.travel, profiler := t.profiler }

/-! ### Width jogs and extension positions (R32 to R36) -/

/-- R34: a width jog runs from acceptance with its duration held within 1 to 50, replacing one that runs; its checks are taken in order,
and a refused jog changes nothing. -/
def Obligations.WidthJogRuns : Prop :=
  ∀ (p : Port) (tag : Byte) (d : Side) (direction duration : Byte) (s : State), portOpen s p = true →
    let refusal (status : Status) : Host.Outcome State Fault Refusal :=
      .next (withReply p (kindByte .jog) tag (bareAnswer status) s)
    (holds s p (.width d) = false → exec (.jogWidth p tag d direction duration) s = refusal .notHolder)
    ∧ (holds s p (.width d) = true → 1 < direction.toNat → exec (.jogWidth p tag d direction duration) s = refusal .unknown)
    ∧ ∀ dir : WidthDir, holds s p (.width d) = true →
        ((direction = 0 ∧ dir = .inward) ∨ (direction = 1 ∧ dir = .outward)) →
        let blocked := s.estop || (s.analog.ext.get d).fault
          || decide (dir = .inward ∧ (s.geometry.get d).position ≤ 20)
          || decide (dir = .outward ∧ 2480 ≤ (s.geometry.get d).position)
        (blocked = true → exec (.jogWidth p tag d direction duration) s = refusal .state)
        ∧ (blocked = false →
            exec (.jogWidth p tag d direction duration) s
              = .next (withReply p (kindByte .jog) tag
                  (bareAnswer (if 1 ≤ duration.toNat ∧ duration.toNat ≤ 50 then .ok else .okClamped))
                  { s with
                    geometry := s.geometry.set d
                      { s.geometry.get d with
                        jogDir := dir, jogLeft := max 1 (min 50 duration.toNat), jogMs := 0
                        lastEnd := if (s.geometry.get d).jogDir = .none then (s.geometry.get d).lastEnd else .replaced } }))

/-- The moments of the timed commands, as R24, R25, R28, R29, R36, R55, R68, R75, R80, R81, R111, R119, R127, R131, R161, R162, R177 and
R185 give them (`moment`), are the model's millisecond's to bring: on an empty queue every counter that runs with time moves by one
millisecond, nothing else changes, and the queue then holds exactly the commands whose moment has come. Before its moment a timed command
changes nothing. The model's choices: assumptions 7, 8 and 28. R36, R111, R127: at the moment a running jog ends with cause EXPIRY and its
output off. -/
def Obligations.TimedCommandsKeepTheirMoments : Prop :=
  (∀ (c : Instr) (s : State), moment s c = some false → exec c s = .next s)
    ∧ (∀ s : State, s.pending = [] → ∃ t, step s = .next t
         ∧ (∀ c : Instr, c ∈ t.pending ↔ moment t c = some true)
         ∧ t = { s with
                 ports := t.ports, travel := t.travel, clockPhase := s.clockPhase + 2, geometry := t.geometry, zones := t.zones
                 health := t.health, grants := t.grants, sensorReceiver := t.sensorReceiver, sensors := t.sensors
                 sides := t.sides, feed := t.feed
                 profiler := { s.profiler with lineSilence := min 65535 (s.profiler.lineSilence + 1) }, inputs := t.inputs
                 pending := t.pending }
         ∧ (let later (r : Receiver) : Receiver := match r with
              | .hunting => .hunting
              | .inFrame taken gap => .inFrame taken (min 3 (gap + 1))
            t.sensorReceiver = later s.sensorReceiver
            ∧ ∀ p : Port, t.ports.get p
                = { s.ports.get p with
                    receiver := later (s.ports.get p).receiver, silence := min 65535 ((s.ports.get p).silence + 1) })
         ∧ t.travel = { s.travel with
             pulseSilence := min 65535 (s.travel.pulseSilence + 1), windowMs := s.travel.windowMs + 1
             pauseMs := min 65535 (s.travel.pauseMs + 1), stop := t.travel.stop }
         ∧ (s.travel.stop.state ≠ .running → t.travel.stop = s.travel.stop)
         ∧ (s.travel.stop.state = .running → t.travel.stop =
             if s.travel.stop.subMs < 999 then { s.travel.stop with subMs := s.travel.stop.subMs + 1 }
             else { s.travel.stop with elapsed := min 65535 (s.travel.stop.elapsed + 1), subMs := 0 })
         ∧ (∀ z : Zone, t.zones.get z
             = if (s.zones.get z).check = .delay then { s.zones.get z with checkMs := (s.zones.get z).checkMs + 1 }
               else s.zones.get z)
         ∧ (∀ z : Zone, let h := s.health.get z
             (granted s z = false → t.health.get z = h)
             ∧ (granted s z = true → h.seconds = 59 → t.health.get z = { h with subMs := min 1000 (h.subMs + 1) })
             ∧ (granted s z = true → h.seconds < 59 → t.health.get z =
                 if h.subMs < 999 then { h with subMs := h.subMs + 1 } else { h with seconds := h.seconds + 1, subMs := 0 }))
         ∧ t.grants = s.grants.map (fun g =>
             if g.subMs < 999 then { g with subMs := g.subMs + 1 }
             else { g with elapsed := min 300 (g.elapsed + 1), subMs := 0 })
         ∧ t.sensors = { s.sensors with
             sinceStart := s.sensors.sinceStart + 1
             round := s.sensors.round.map (fun r => { r with waited := r.waited + 1 }) }
         ∧ (∀ i : DigitalInput, t.inputs.get i
             = { s.inputs.get i with timer := (s.inputs.get i).timer.map (fun n => n - 1) })
         ∧ let left (n ms : Nat) : Nat × Nat :=
             if n = 0 then (0, 0) else if n = 1 then (1, min 100 (ms + 1)) else if ms < 99 then (n, ms + 1) else (n - 1, 0)
           (∀ d : Side,
             t.geometry.get d
               = { s.geometry.get d with
                   jogLeft := (left (s.geometry.get d).jogLeft (s.geometry.get d).jogMs).1
                   jogMs := (left (s.geometry.get d).jogLeft (s.geometry.get d).jogMs).2 }
             ∧ t.sides.get d
               = { s.sides.get d with
                   jogLeft := (left (s.sides.get d).jogLeft (s.sides.get d).jogMs).1
                   jogMs := (left (s.sides.get d).jogLeft (s.sides.get d).jogMs).2 })
           ∧ ∀ c : FeedChannel, t.feed.get c
               = { s.feed.get c with
                   jogLeft := (left (s.feed.get c).jogLeft (s.feed.get c).jogMs).1
                   jogMs := (left (s.feed.get c).jogLeft (s.feed.get c).jogMs).2
                   hold := (left (s.feed.get c).hold (s.feed.get c).holdMs).1
                   holdMs := (left (s.feed.get c).hold (s.feed.get c).holdMs).2 })
    ∧ ∀ (d : Side) (c : FeedChannel) (s : State),
        ((s.geometry.get d).jogLeft = 1 → 100 ≤ (s.geometry.get d).jogMs →
          exec (.widthJogExpiry d) s
            = .next (if (s.geometry.get d).jogDir = .none then s
                else { s with
                       geometry := s.geometry.set d
                         { s.geometry.get d with jogDir := .none, jogLeft := 0, jogMs := 0, lastEnd := .expiry } }))
        ∧ ((s.sides.get d).jogLeft = 1 → 100 ≤ (s.sides.get d).jogMs →
          exec (.gradeJogExpiry d) s
            = .next { s with
                sides := s.sides.set d
                  { s.sides.get d with duty := 0, dir := .none, jogLeft := 0, jogMs := 0, lastEnd := .expiry } })
        ∧ ((s.feed.get c).jogLeft = 1 → 100 ≤ (s.feed.get c).jogMs →
          exec (.feedJogExpiry c) s
            = .next { s with
                feed := s.feed.set c
                  { s.feed.get c with duty := 0, jogDuty := 0, jogLeft := 0, jogMs := 0, lastEnd := .expiry } })

/-! ### Heated zones (chapter 3) -/

/-- R45, R46, R52 to R54: an evaluation of a zone takes the first test that holds: a latched zone stays, a faulted channel means the entry
to FAULT and a temperature over the ceiling the entry to OVERTEMP (FaultEntriesAreCounted says what an entry counts and records); a
returning or SATISFIED zone with demand joins the queue and is granted at once only from an empty queue under enough free power; a HEATING
zone is released at its setpoint, a WAITING zone without demand leaves the queue. -/
def Obligations.ZoneEvaluationFollowsItsTests : Prop :=
  ∀ (z : Zone) (s : State), budgetSound s = true →
    let r := s.zones.get z
    let after := (evaluateZone z s).zones.get z
    let temp := zoneTemp s z
    let hot := decide (r.activeSetpoint + s.settings.overtempMargin < temp ∨ 2200 < temp)
    let wants := decide (temp < r.activeSetpoint - s.settings.hysteresis)
    let joined : ZoneState :=
      if wants = false then .satisfied
      else if s.queue = [] ∧ ((s.settings.zones.get z).rating : Int) ≤ freePower s then .heating else .waiting
    ((r.state = .off ∨ r.latch = true) → evaluateZone z s = s)
    ∧ (r.state ≠ .off → r.latch = false →
        (zoneChannelFault s z = true →
            after.state = .fault ∧ evaluateZone z s = if r.state = .fault then s else enterSensorFault z s)
        ∧ (zoneChannelFault s z = false → hot = true →
            after.state = .overtemp ∧ evaluateZone z s = if r.state = .overtemp then s else enterOvertemp z s)
        ∧ (zoneChannelFault s z = false → hot = false →
            (r.state = .satisfied ∨ r.state = .fault → after.state = joined)
            ∧ (r.state = .overtemp → after.state = if temp ≤ r.activeSetpoint then joined else .overtemp)
            ∧ (r.state = .heating → after.state = if r.activeSetpoint ≤ temp then .satisfied else .heating)
            ∧ (r.state = .waiting → after.state = if wants then .waiting else .satisfied)))
    ∧ (∀ y : Zone, y ≠ z → (evaluateZone z s).zones.get y ≠ s.zones.get y →
        (s.zones.get y).state = .waiting ∧ ((evaluateZone z s).zones.get y).state = .heating)

/-- R52, R54, R55, R74: an entry to OVERTEMP, to FAULT by the sensor or to FAULT by the element counts once in the zone's health record,
with the last fault, its clock value and its station replaced together, and appends its record; nothing else of the record changes. The
entries are those that an evaluation (ZoneEvaluationFollowsItsTests) and the element check (ElementCheckJudgesFeedback) take. -/
def Obligations.FaultEntriesAreCounted : Prop :=
  ∀ (z : Zone) (s : State),
    let h := s.health.get z
    let stamped (k : HealthFault) (h : Health) : Health :=
      { h with lastFault := k, lastStamp := s.clock, lastStation := s.travel.station }
    ((enterOvertemp z s).health = s.health.set z (stamped .overtemp { h with overtemp := min 65535 (h.overtemp + 1) })
      ∧ (enterOvertemp z s).events
          = eventsAfter s [(.heating, .zoneOvertemp z (zoneTemp s z) ((enterOvertemp z s).zones.get z).activeSetpoint)])
    ∧ ((enterSensorFault z s).health = s.health.set z (stamped .sensor { h with sensorFault := min 65535 (h.sensorFault + 1) })
      ∧ (enterSensorFault z s).events = eventsAfter s [(.heating, .zoneFault z .sensor (zoneTemp s z))])
    ∧ ((elementFail z s).health = s.health.set z (stamped .element { h with elementOpen := min 65535 (h.elementOpen + 1) })
      ∧ (elementFail z s).events = eventsAfter s [(.heating, .zoneFault z .element (zoneTemp s z))]
      ∧ ((elementFail z s).zones.get z).latch = true)

/-- R55, R56: 2.0 s after a grant the element check passes to WATCH with the feedback input active, and fails with it inactive: the grant
ends, the latch is set and the zone enters FAULT. A check that is not in DELAY, or a zone that is not HEATING, is not judged. -/
def Obligations.ElementCheckJudgesFeedback : Prop :=
  ∀ (z : Zone) (s : State), quiet s = true → budgetSound s = true →
    let r := s.zones.get z
    (¬ (r.state = .heating ∧ r.check = .delay) → exec (.elementCheckDelayEnd z) s = .next s)
    ∧ (r.state = .heating → r.check = .delay → 2000 ≤ r.checkMs → inputActive s (.feedback z) = true →
        exec (.elementCheckDelayEnd z) s = .next { s with zones := s.zones.set z { r with check := .watch, checkMs := 0 } })
    ∧ (r.state = .heating → r.check = .delay → 2000 ≤ r.checkMs → inputActive s (.feedback z) = false →
        ∃ t later, exec (.elementCheckDelayEnd z) s = .next t
          ∧ t = settleReadiness (elementFail z s)
          ∧ (t.zones.get z).state = .fault ∧ (t.zones.get z).latch = true ∧ (t.zones.get z).check = .idle
          ∧ granted t z = false ∧ commanded t (.contactor z) = 0
          ∧ (t.health.get z).elementOpen = min 65535 ((s.health.get z).elementOpen + 1)
          ∧ (t.health.get z).lastFault = .element
          ∧ t.events = eventsAfter s ((.heating, .zoneFault z .element (zoneTemp s z)) :: later)
          ∧ t.mode = (if s.mode = .ready ∧ t.readiness = false then .preheat else s.mode)
          ∧ t = { s with
                  mode := t.mode, readiness := t.readiness, failing := t.failing, zones := t.zones, health := t.health
                  queue := t.queue, grants := t.grants, sides := t.sides, feed := t.feed, profiler := t.profiler
                  events := t.events })

/-- R57: CLEAR_FAULT clears a set element latch, with its ZONE_CLEARED record first; a zone that is OFF stays OFF, and a zone in FAULT is
evaluated again and is in FAULT afterwards only by its channel. A clear latch is refused with STATE. -/
def Obligations.ClearFaultFreesTheZone : Prop :=
  ∀ (p : Port) (tag zone : Byte) (s : State), portOpen s p = true →
    let refusal (status : Status) : Host.Outcome State Fault Refusal :=
      .next (withReply p (kindByte .clearFault) tag (bareAnswer status) s)
    (holds s p .heat = false → exec (.clearFault p tag zone) s = refusal .notHolder)
    ∧ (holds s p .heat = true → 7 < zone.toNat → exec (.clearFault p tag zone) s = refusal .unknown)
    ∧ ∀ z : Zone, holds s p .heat = true → zone.toNat = zoneCode z →
        ((s.zones.get z).latch = false → exec (.clearFault p tag zone) s = refusal .state)
        ∧ ((s.zones.get z).latch = true → ∃ t later,
            exec (.clearFault p tag zone) s = .next (withReply p (kindByte .clearFault) tag (okAnswer []) t)
            ∧ (t.zones.get z).latch = false
            ∧ t.events = eventsAfter s ((.port p, .zoneCleared z (zoneTemp s z)) :: later)
            ∧ (quiet s = true → (s.zones.get z).state = .off →
                t = { s with
                      zones := s.zones.set z { s.zones.get z with latch := false }
                      events := eventsAfter s [(.port p, .zoneCleared z (zoneTemp s z))] })
            ∧ (budgetSound s = true → (s.zones.get z).state = .fault →
                ((t.zones.get z).state = .fault ↔ zoneChannelFault s z = true))
            ∧ t = { s with
                    mode := t.mode, pavePending := t.pavePending, readiness := t.readiness, failing := t.failing
                    travel := { s.travel with pauseMs := t.travel.pauseMs }, zones := t.zones, health := t.health
                    queue := t.queue, grants := t.grants, sides := t.sides, feed := t.feed, profiler := t.profiler
                    events := t.events })

/-- R42, R43: a PAVE or HOLD setpoint from the holder of HEAT is stored within 500 to 1800; the zone heated to that set takes it as its
active setpoint at once, and no other setting changes. A write of the value already held changes nothing. The answer to a clamped write of
the value held is assumption 37. -/
def Obligations.ZoneSetpointIsTakenAtOnce : Prop :=
  ∀ (p : Port) (tag : Byte) (z : Zone) (set : SetpointSet) (value : Word) (s : State), portOpen s p = true →
    (holds s p .heat = false →
      exec (.setZoneSetpoint p tag z set value) s = .next (withReply p (kindByte .setItem) tag (bareAnswer .notHolder) s))
    ∧ (holds s p .heat = true →
        let v := max 500 (min 1800 value.toInt)
        let answer : Answer := { status := if v = value.toInt then .ok else .okClamped, payload := numField v }
        (settingValue s.settings (.zoneSetpoint z set) = v →
          exec (.setZoneSetpoint p tag z set value) s = .next (withReply p (kindByte .setItem) tag answer s))
        ∧ ∃ t, exec (.setZoneSetpoint p tag z set value) s = .next (withReply p (kindByte .setItem) tag answer t)
          ∧ settingValue t.settings (.zoneSetpoint z set) = v
          ∧ (∀ y : Setting, y ≠ .zoneSetpoint z set → settingValue t.settings y = settingValue s.settings y)
          ∧ (readinessSound s = true → (s.zones.get z).state ≠ .off → (t.zones.get z).state ≠ .off →
              (t.zones.get z).activeSetpoint = setpointOf t z (selectedSet t z))
          ∧ (s.mode = .parked → t = { s with settings := t.settings, readiness := t.readiness, failing := t.failing, zones := t.zones
                                             health := t.health, queue := t.queue, grants := t.grants, events := t.events })
          ∧ t = { s with
                  settings := t.settings, mode := t.mode, pavePending := t.pavePending, readiness := t.readiness
                  failing := t.failing, travel := { s.travel with pauseMs := t.travel.pauseMs }, zones := t.zones
                  health := t.health, queue := t.queue, grants := t.grants, sides := t.sides, feed := t.feed
                  profiler := t.profiler, events := t.events })

/-- R58: exclusion takes a zone out of its grant or queue place and makes it OFF, its latch kept; inclusion in a heating mode takes a
fitted zone out of OFF; readiness follows either write, so that excluding the one failing zone in PREHEAT runs the mode on. The answer to
a clamped write of the value held is assumption 37. -/
def Obligations.ExclusionTakesTheZoneOut : Prop :=
  ∀ (p : Port) (tag : Byte) (z : Zone) (value : Word) (s : State), portOpen s p = true →
    (holds s p .heat = false →
      exec (.setExcludeFlag p tag z value) s = .next (withReply p (kindByte .setItem) tag (bareAnswer .notHolder) s))
    ∧ (holds s p .heat = true → readinessSound s = true → budgetSound s = true →
        let v := max 0 (min 1 value.toInt)
        let answer : Answer := { status := if v = value.toInt then .ok else .okClamped, payload := numField v }
        (settingValue s.settings (.exclude z) = v →
          exec (.setExcludeFlag p tag z value) s = .next (withReply p (kindByte .setItem) tag answer s))
        ∧ ∃ t, exec (.setExcludeFlag p tag z value) s = .next (withReply p (kindByte .setItem) tag answer t)
          ∧ settingValue t.settings (.exclude z) = v
          ∧ (∀ y : Setting, y ≠ .exclude z → settingValue t.settings y = settingValue s.settings y)
          ∧ (t.zones.get z).latch = (s.zones.get z).latch
          ∧ (v = 1 → (t.zones.get z).state = .off ∧ (t.zones.get z).activeSet = .none ∧ granted t z = false ∧ z ∉ t.queue)
          ∧ (v = 0 → settingValue s.settings (.exclude z) = 1 → fitted s z = true → heatingMode s.mode = true → (t.zones.get z).state ≠ .off)
          ∧ (v = 0 → (fitted s z = false ∨ heatingMode s.mode = false) → (t.zones.get z).state = .off)
          ∧ (s.mode = .preheat → t.readiness = true → t.mode = if s.pavePending then .paving else .ready)
          ∧ (s.mode = .ready → t.readiness = false → t.mode = .preheat)
          ∧ t = { s with
                  settings := t.settings, mode := t.mode, pavePending := t.pavePending, readiness := t.readiness
                  failing := t.failing, travel := { s.travel with pauseMs := t.travel.pauseMs }, zones := t.zones
                  health := t.health, queue := t.queue, grants := t.grants, sides := t.sides, feed := t.feed
                  profiler := t.profiler, events := t.events })

/-! ### Budget and health (chapter 4) -/

/-- R66: the allocator grants in strict queue order, head after head while its rating is at most the free power: some first zones of the
queue leave it and join the grant list, HEATING, with the clock as their start and their element check in DELAY; the new head, if any,
does not fit; the limit is never passed; and nothing else changes. -/
def Obligations.AllocationIsStrict : Prop :=
  ∀ s : State, ∃ n, n ≤ s.queue.length
    ∧ (allocate s).queue = s.queue.drop n
    ∧ (allocate s).grants
        = s.grants ++ (s.queue.take n).map (fun z => { zone := z, start := s.clock, elapsed := 0, subMs := 0 })
    ∧ (∀ z : Zone, (allocate s).zones.get z
        = if z ∈ s.queue.take n then { s.zones.get z with state := .heating, check := .delay, checkMs := 0 } else s.zones.get z)
    ∧ (grantedSum s ≤ s.settings.generatorLimit → grantedSum (allocate s) ≤ s.settings.generatorLimit)
    ∧ (∀ z rest, (allocate s).queue = z :: rest → freePower (allocate s) < ((s.settings.zones.get z).rating : Int))
    ∧ allocate s = { s with queue := (allocate s).queue, grants := (allocate s).grants, zones := (allocate s).zones }

/-- R68 to R71: when the slice elapsed of a grant reaches the rotation slice, an empty queue renews the grant, its start kept; otherwise
the grant is rotated: the contactor drops, the check returns to IDLE, the zone joins the tail with demand or becomes SATISFIED without,
and allocation is evaluated. A zone without a grant has no slice. -/
def Obligations.SliceExpiryRotatesOrRenews : Prop :=
  ∀ (z : Zone) (s : State), quiet s = true → budgetSound s = true →
    (granted s z = false → exec (.sliceExpiry z) s = .next s)
    ∧ ((∃ g ∈ s.grants, g.zone = z ∧ s.settings.rotationSlice ≤ g.elapsed) → s.queue = [] →
        exec (.sliceExpiry z) s
          = .next { s with grants := s.grants.map (fun g => if g.zone = z then { g with elapsed := 0, subMs := 0 } else g) })
    ∧ ((∃ g ∈ s.grants, g.zone = z ∧ s.settings.rotationSlice ≤ g.elapsed) → s.queue ≠ [] →
        let wants := decide (zoneTemp s z < (s.zones.get z).activeSetpoint - s.settings.hysteresis)
        exec (.sliceExpiry z) s
          = .next (allocate
              { s with
                grants := s.grants.filter (fun g => g.zone ≠ z)
                queue := s.queue ++ (if wants then [z] else [])
                zones := s.zones.set z
                  { s.zones.get z with state := if wants then .waiting else .satisfied, check := .idle, checkMs := 0 } }))

/-- R75: when a zone's granted seconds reach 60, the sixtieth having run its 1000 ms, they become 0 and its heating minutes rise by one,
holding at 4294967295. R76: CLEAR_HEALTH from the holder of HEAT returns the named record, or all eight, to the values after reset and
appends HEALTH_CLEARED; zones, latches and grants are not touched. -/
def Obligations.HealthCountsMinutesAndClears : Prop :=
  (∀ (z : Zone) (s : State), (s.health.get z).seconds = 59 → 1000 ≤ (s.health.get z).subMs →
     exec (.heatingMinute z) s
       = .next { s with
           health := s.health.set z
             { s.health.get z with seconds := 0, subMs := 0, minutes := min 4294967295 ((s.health.get z).minutes + 1) } })
    ∧ (∀ (p : Port) (tag zone : Byte) (s : State), portOpen s p = true →
         let refusal (status : Status) : Host.Outcome State Fault Refusal :=
           .next (withReply p (kindByte .clearHealth) tag (bareAnswer status) s)
         let cleared (which : Option Zone) (h : PerZone Health) : Host.Outcome State Fault Refusal :=
           .next (withReply p (kindByte .clearHealth) tag (okAnswer [])
             { s with health := h, events := eventsAfter s [(.port p, .healthCleared which)] })
         let zero : Health :=
           { elementOpen := 0, overtemp := 0, sensorFault := 0, minutes := 0, seconds := 0, subMs := 0, maxTemp := 0, lastFault := .none
             lastStamp := ⟨0, 0, 0, 0, 0⟩, lastStation := 0 }
         (holds s p .heat = false → exec (.clearHealth p tag zone) s = refusal .notHolder)
         ∧ (holds s p .heat = true →
             (8 < zone.toNat → exec (.clearHealth p tag zone) s = refusal .unknown)
             ∧ (zone.toNat = 8 → exec (.clearHealth p tag zone) s = cleared none ⟨zero, zero, zero, zero, zero, zero, zero, zero⟩)
             ∧ ∀ z : Zone, zone.toNat = zoneCode z → exec (.clearHealth p tag zone) s = cleared (some z) (s.health.set z zero)))

/-! ### Levelling: requests and jogs (chapters 5 and 6) -/

/-- R106, R107, R103, R105: SIDE_MODE changes a side's operation with its valves off and a running jog ended with SIDE_MODE; a side
engaged by AUTO stands at once where R103 settles it, with SIDE_HOLD at an entry to HOLD. The checks are taken in their order. The class
of a SLOPE side's SIDE_HOLD is the model's choice: assumption 15. -/
def Obligations.SideModeSetsOperation : Prop :=
  ∀ (p : Port) (tag side target : Byte) (s : State), portOpen s p = true →
    let refusal (status : Status) : Host.Outcome State Fault Refusal :=
      .next (withReply p (kindByte .sideMode) tag (bareAnswer status) s)
    ((1 < side.toNat ∨ 2 < target.toNat) → exec (.sideMode p tag side target) s = refusal .unknown)
    ∧ ∀ (d : Side) (g : OperationTarget), side.toNat = sideCode d → operationOfByte target = some g →
        let r := s.sides.get d
        let kind := (s.settings.sides.get d).kind
        let present := (g = .off ∧ r.state = .off) ∨ (g = .manual ∧ r.state = .manual) ∨ (g = .auto ∧ sideEngaged r.state = true)
        let barred := (g ≠ .off ∧ s.estop = true) ∨ (g = .auto ∧ s.mode ≠ .paving ∧ s.mode ≠ .paused)
        let few := g = .auto ∧ kind = .grade ∧ refValidCount s d < (s.settings.sides.get d).minValid
        let enters : SideState := match g with
          | .off => .off
          | .manual => .manual
          | .auto => if s.mode ≠ .paving ∨ s.travel.speed ≤ 0 then .suspended else if r.verdict = .short then .hold else .auto
        (holds s p (.grade d) = false → exec (.sideMode p tag side target) s = refusal .notHolder)
        ∧ (holds s p (.grade d) = true → r.state = .referencing → exec (.sideMode p tag side target) s = refusal .state)
        ∧ (holds s p (.grade d) = true → r.state ≠ .referencing →
            (present → exec (.sideMode p tag side target) s
              = .next (withReply p (kindByte .sideMode) tag (okAnswer (u8 (sideStateCode r.state))) s))
            ∧ (¬ present → barred → exec (.sideMode p tag side target) s = refusal .state)
            ∧ (¬ present → ¬ barred → few → exec (.sideMode p tag side target) s = refusal .config)
            ∧ (¬ present → ¬ barred → ¬ few → ∃ t,
                exec (.sideMode p tag side target) s
                  = .next (withReply p (kindByte .sideMode) tag (okAnswer (u8 (sideStateCode enters))) t)
                ∧ t = { s with
                        sides := s.sides.set d
                          { r with
                            state := enters, duty := 0, dir := .none, jogLeft := 0, jogMs := if r.jogLeft = 0 then r.jogMs else 0
                            lastEnd := if r.jogLeft = 0 then r.lastEnd else .sideMode }
                        events := eventsAfter s (if enters = .hold then [(.levelling, .sideHold d (holdDetail s d))] else [])
                        profiler := { s.profiler with flags := t.profiler.flags } }
                ∧ (enters ≠ .hold → t.profiler.flags = s.profiler.flags)
                ∧ (enters = .hold → (match d with | .left => t.profiler.flags.levelHoldL | .right => t.profiler.flags.levelHoldR)
                    = true)))

/-- R89, R163: an accepted SET_REFERENCE stays in flight and makes the side REFERENCING with its return state noted; a side of kind SLOPE,
one that is neither OFF nor MANUAL, and one with a jog running refuse it with STATE and a count of 0. -/
def Obligations.SetReferenceWaitsForRound : Prop :=
  ∀ (p : Port) (tag side : Byte) (s : State), portOpen s p = true →
    (1 < side.toNat →
      exec (.setReference p tag side) s = .next (withReply p (kindByte .setReference) tag (bareAnswer .unknown) s))
    ∧ ∀ d : Side, side.toNat = sideCode d →
        let r := s.sides.get d
        let free := (s.settings.sides.get d).kind = .grade ∧ (r.state = .off ∨ (r.state = .manual ∧ r.jogLeft = 0))
        (holds s p (.grade d) = false →
          exec (.setReference p tag side) s = .next (withReply p (kindByte .setReference) tag (bareAnswer .notHolder) s))
        ∧ (holds s p (.grade d) = true → ¬ free →
          exec (.setReference p tag side) s
            = .next (withReply p (kindByte .setReference) tag { status := .state, payload := [0] } s))
        ∧ (holds s p (.grade d) = true → free →
          exec (.setReference p tag side) s
            = .next (withOpened p (kindByte .setReference) tag
                { s with
                  sides := s.sides.set d
                    { r with
                      state := .referencing, returnManual := decide (r.state = .manual), capturePort := p
                      captureArmed := false } }))

/-- R110: a grade jog runs in MANUAL from acceptance, with duty 1000 in its direction and its duration held within 1 to 20, replacing one
that runs. R126: a feed jog runs in MANUAL outside STANDBY at the channel's manual duty, with its duration held within 1 to 50 and its
direction not read. Refused jogs change nothing. -/
def Obligations.GradeAndFeedJogsRun : Prop :=
  (∀ (p : Port) (tag : Byte) (d : Side) (direction duration : Byte) (s : State), portOpen s p = true →
     let r := s.sides.get d
     let refusal (status : Status) : Host.Outcome State Fault Refusal :=
       .next (withReply p (kindByte .jog) tag (bareAnswer status) s)
     (holds s p (.grade d) = false → exec (.jogGrade p tag d direction duration) s = refusal .notHolder)
     ∧ (holds s p (.grade d) = true → 1 < direction.toNat → exec (.jogGrade p tag d direction duration) s = refusal .unknown)
     ∧ (holds s p (.grade d) = true → direction.toNat ≤ 1 → r.state ≠ .manual →
         exec (.jogGrade p tag d direction duration) s = refusal .state)
     ∧ (holds s p (.grade d) = true → direction.toNat ≤ 1 → r.state = .manual →
         exec (.jogGrade p tag d direction duration) s
           = .next (withReply p (kindByte .jog) tag
               (bareAnswer (if 1 ≤ duration.toNat ∧ duration.toNat ≤ 20 then .ok else .okClamped))
               { s with
                 sides := s.sides.set d
                   { r with
                     duty := 1000, dir := if direction = 0 then .up else .down, jogLeft := max 1 (min 20 duration.toNat), jogMs := 0
                     lastEnd := if r.jogLeft = 0 then r.lastEnd else .replaced } })))
    ∧ (∀ (p : Port) (tag : Byte) (c : FeedChannel) (direction duration : Byte) (s : State), portOpen s p = true →
         let r := s.feed.get c
         let refusal (status : Status) : Host.Outcome State Fault Refusal :=
           .next (withReply p (kindByte .jog) tag (bareAnswer status) s)
         let manual := (s.settings.feed.get c).manualDuty
         (holds s p (.feed (feedSide c)) = false → exec (.jogFeed p tag c direction duration) s = refusal .notHolder)
         ∧ (holds s p (.feed (feedSide c)) = true → (r.state ≠ .manual ∨ s.mode = .standby) →
             exec (.jogFeed p tag c direction duration) s = refusal .state)
         ∧ (holds s p (.feed (feedSide c)) = true → r.state = .manual → s.mode ≠ .standby →
             exec (.jogFeed p tag c direction duration) s
               = .next (withReply p (kindByte .jog) tag
                   (bareAnswer (if 1 ≤ duration.toNat ∧ duration.toNat ≤ 50 then .ok else .okClamped))
                   { s with
                     feed := s.feed.set c
                       { r with
                         duty := manual, jogDuty := manual, jogLeft := max 1 (min 50 duration.toNat), jogMs := 0
                         lastEnd := if r.jogLeft = 0 then r.lastEnd else .replaced } })))

/-! ### Levelling: rounds (R80 to R105) -/

/-- R80, R78, R87: a round begins outside STARTING when 40 ms have passed since the start of the one before: unused slots become UNUSED, a
REFERENCING side is noted, and the first used slot in slot order is polled; with no used slot the round ends at its start. In STARTING, or
while a round runs, nothing happens. A start while a round runs is the model's choice: assumption 13. -/
def Obligations.RoundStartsWithFirstUsedSlot : Prop :=
  ∀ s : State,
    ((s.mode = .starting ∨ s.sensors.round.isSome = true) → exec .sensorRoundStart s = .next s ∧ startRound s = s)
    ∧ (s.mode ≠ .starting → 40 ≤ s.sensors.sinceStart → exec .sensorRoundStart s = .next (startRound s))
    ∧ (s.mode ≠ .starting → s.sensors.round = none → ∃ b,
        (∀ d k, (b.gradeSlots.get d).get k
          = if gradeUsed s.settings d k then (s.gradeSlots.get d).get k
            else { (s.gradeSlots.get d).get k with cls := .unused })
        ∧ b.slopeSlot = (if slopeUsed s.settings then s.slopeSlot else { s.slopeSlot with cls := .unused })
        ∧ (∀ d, b.sides.get d = { s.sides.get d with captureArmed := decide ((s.sides.get d).state = .referencing) })
        ∧ b = { s with
                gradeSlots := b.gradeSlots, slopeSlot := b.slopeSlot, sides := b.sides
                sensors := { s.sensors with sinceStart := 0 } }
        ∧ (∀ slot earlier later, allSlots = earlier ++ slot :: later →
            slotUsed s.settings slot = true → (∀ x ∈ earlier, slotUsed s.settings x = false) →
            startRound s = { b with
              sensors := { s.sensors with
                sinceStart := 0
                round := some
                  { slot := slot, address := slotAddress s.settings slot, waited := 0, fresh := false, polled := false } } })
        ∧ ((∀ x ∈ allSlots, slotUsed s.settings x = false) → startRound s = endRound false false b))

/-- R81 to R83: a fresh reply, or the end of its 3 ms, completes the poll waited on: the slot's class, last reading and deviation follow
the first case that applies, and the next used slot is polled, or the round ends (R80, R87). The slope slot takes a fresh reading within
−1000 to +1000 as VALID, any other fresh reply as INVALID, none as STALE. A slot no longer used is not judged. A reply from another
address, with another status, or with no poll waiting is discarded. The model's choices: a slot no longer used, assumption 14; a reply
given whole leaves the sensor port's receiver hunting, assumption 35. When the use of a slot is judged is assumption 38. -/
def Obligations.PollJudgesItsSlot : Prop :=
  ∀ (address status : Byte) (reading : Half) (s : State),
    exec (.pollReply address status reading) s = exec (.pollReply address status reading) { s with sensorReceiver := .hunting }
    ∧ (s.sensors.round = none →
        (s.sensorReceiver = .hunting → exec (.pollReply address status reading) s = .next s) ∧ exec .pollTimeout s = .next s)
    ∧ ∀ r : Round, s.sensors.round = some r →
        let onward (fresh polled : Bool) (t : State) : State :=
          match (allSlots.filter (fun x => decide (slotCode r.slot < slotCode x) && slotUsed s.settings x)).head? with
          | some x =>
            { t with
              sensors := { s.sensors with
                round := some
                  { slot := x, address := slotAddress s.settings x, waited := 0, fresh := fresh, polled := polled } } }
          | none => endRound fresh polled t
        let fits := s.sensorReceiver = .hunting ∧ address.toNat = r.address ∧ status.toNat ≤ 1
        let ends := 3 ≤ r.waited
        (s.sensorReceiver = .hunting → ¬ fits → exec (.pollReply address status reading) s = .next s)
        ∧ (slotUsed s.settings r.slot = false →
            (ends → exec .pollTimeout s = .next (onward r.fresh r.polled s))
            ∧ (fits → exec (.pollReply address status reading) s = .next (onward r.fresh r.polled s)))
        ∧ (∀ d k, slotUsed s.settings r.slot = true → r.slot = .grade d k →
            let old := (s.gradeSlots.get d).get k
            let v : Int := reading.toNat
            let judged (x : GradeSlotRec) : State :=
              { s with gradeSlots := s.gradeSlots.set d ((s.gradeSlots.get d).set k x) }
            (ends → exec .pollTimeout s = .next (onward r.fresh true (judged { old with cls := .stale })))
            ∧ (fits →
                exec (.pollReply address status reading) s
                  = .next (onward true true (judged
                      (if status = 1 ∨ 6000 < v then { old with cls := .invalid }
                       else if old.refValid = false then { old with cls := .noRef, reading := v }
                       else
                         { old with
                           cls := if s.settings.obstacleWindow < |v - old.reference| then .excluded else .valid
                           reading := v, deviation := v - old.reference })))))
        ∧ (slotUsed s.settings r.slot = true → r.slot = .slope →
            (ends → exec .pollTimeout s = .next (endRound r.fresh true { s with slopeSlot := { s.slopeSlot with cls := .stale } }))
            ∧ (fits →
                exec (.pollReply address status reading) s
                  = .next (endRound true true
                      { s with
                        slopeSlot :=
                          if status = 0 ∧ -1000 ≤ reading.toInt ∧ reading.toInt ≤ 1000 then
                            { reading := reading.toInt, cls := .valid }
                          else { s.slopeSlot with cls := .invalid } })))

/-- R87, R88, R96 to R103: the end of a round raises the round count, updates the link watch, completes each capture that is due, in side
order (as CaptureTakesFreshReadings says), and then evaluates each side on what stands: valid count, verdict, the combined deviation
rounded half away from zero, the error, the gain set, the settled state, and the duty and direction of a side in AUTO; a side that is not
engaged keeps its valves. R88, R105: SENSOR_LINK is appended when the stale round count comes to 10, before the captures, and for each
side, in side order, SIDE_HOLD at an entry to HOLD and SIDE_RESUMED at a return from it, after them; nothing else changes. The model's
choices: the slots that the valid count takes, assumption 39; the used slots that SENSOR_LINK counts, assumption 40; the class of a SLOPE
side's SIDE_HOLD, assumption 15. -/
def Obligations.RoundEndEvaluatesSides : Prop :=
  ∀ (fresh polled : Bool) (s : State),
    let count := (s.sensors.roundCount + 1) % 65536
    let stale := if fresh then 0 else if polled then min 10 (s.sensors.staleRounds + 1) else s.sensors.staleRounds
    let watched : State := { s with
      sensors := { s.sensors with roundCount := count, staleRounds := stale, round := none }
      events := eventsAfter s
        (if stale = 10 ∧ s.sensors.staleRounds ≠ 10 then [(.levelling, .sensorLink (usedSlotCount s.settings) count)] else []) }
    let c := completeCapture .right (completeCapture .left watched)
    let t := endRound fresh polled s
    let holds (d : Side) := (t.sides.get d).state = .hold ∧ (c.sides.get d).state ≠ .hold
    let sideRecords (d : Side) : List (Origin × Event) :=
      if (t.sides.get d).state = .hold ∧ (c.sides.get d).state ≠ .hold then
        [(.levelling, .sideHold d (match (c.settings.sides.get d).kind with
          | .grade => .validCount (t.sides.get d).validCount
          | .slope => .slopeClass c.slopeSlot.cls))]
      else if (t.sides.get d).state = .auto ∧ (c.sides.get d).state = .hold then
        [(.levelling, .sideResumed d
          (match (c.settings.sides.get d).kind with | .grade => (t.sides.get d).validCount | .slope => 0) (t.sides.get d).error)]
      else []
    t = { c with
          sides := t.sides, events := eventsAfter c (sideRecords .left ++ sideRecords .right)
          profiler := { c.profiler with flags := t.profiler.flags } }
    ∧ ((∀ d : Side, ¬ holds d) → t.profiler.flags = c.profiler.flags)
    ∧ (holds .left → t.profiler.flags.levelHoldL = true) ∧ (holds .right → t.profiler.flags.levelHoldR = true)
    ∧ ∀ d : Side,
        let r := c.sides.get d
        let k := c.settings.sides.get d
        let valid := (usedPlaces c.settings d).filter (fun n => ((c.gradeSlots.get d).get n).cls = .valid)
        let weight (n : GradePlace) : Nat := ((c.settings.gradeSlots.get d).get n).weight
        let num : Int := (valid.map (fun n => (weight n : Int) * ((c.gradeSlots.get d).get n).deviation)).sum
        let den : Nat := (valid.map weight).sum
        let good := match k.kind with | .grade => decide (k.minValid ≤ valid.length) | .slope => decide (c.slopeSlot.cls = .valid)
        let e := c.slopeSlot.reading - k.slopeTarget
        let q := t.sides.get d
        let run := decide (c.mode = .paving ∧ 0 < c.travel.speed)
        let g := if c.settings.creep ≤ c.travel.speed then c.settings.gainA else c.settings.gainB
        q = { r with
              state := q.state, verdict := if good then .good else .short, deviation := q.deviation, error := q.error
              gain := if c.settings.creep ≤ c.travel.speed then .a else .b
              duty := q.duty, dir := q.dir, validCount := valid.length, verdictClass := c.slopeSlot.cls }
        ∧ (good = false → q.deviation = r.deviation ∧ q.error = r.error)
        ∧ (good = true → k.kind = .grade → 0 < den → q.deviation = num.sign * ((2 * num.natAbs + den) / (2 * den) : Nat))
        ∧ (good = true → k.kind = .slope →
            q.deviation = (match d with | .left => -e * c.settings.span | .right => e * c.settings.span).tdiv 1000)
        ∧ (good = true → q.error = max (-9999) (min 9999 (q.deviation - k.gradeOffset)))
        ∧ (sideEngaged r.state = true →
            q.state = (if run = false then .suspended else if good then .auto else .hold)
            ∧ (q.state ≠ .auto → q.state ≠ r.state → q.duty = 0 ∧ q.dir = .none)
            ∧ (q.state ≠ .auto → q.state = r.state → q.duty = r.duty ∧ q.dir = r.dir))
        ∧ (sideEngaged r.state = false → q.state = r.state ∧ q.duty = r.duty ∧ q.dir = r.dir)
        ∧ (q.state = .auto →
            (|q.error| ≤ g.deadband → q.duty = 0 ∧ q.dir = .none)
            ∧ (g.deadband < |q.error| →
                q.duty = max g.minDuty (min 1000 (((|q.error| - g.deadband) * 1000).tdiv g.band))
                ∧ q.dir = (if 0 < q.error then .down else .up)))

/-- R91: the capture takes each used slot with a fresh reading in range: its reference becomes its last reading, valid, its deviation 0
and its class VALID; other slots keep theirs. The side returns to its return state, and the reply lists the captured slots with their
references, or is STATE with a count of 0 and no record when none was captured. -/
def Obligations.CaptureTakesFreshReadings : Prop :=
  ∀ (d : Side) (s : State), (s.sides.get d).state = .referencing → (s.sides.get d).captureArmed = true →
    let r := s.sides.get d
    let taken := (usedPlaces s.settings d).filter
      (fun k => ((s.gradeSlots.get d).get k).cls = .noRef ∨ ((s.gradeSlots.get d).get k).cls = .excluded
        ∨ ((s.gradeSlots.get d).get k).cls = .valid)
    let t := completeCapture d s
    (∀ k, (t.gradeSlots.get d).get k
      = if k ∈ taken then
          { (s.gradeSlots.get d).get k with
            reference := ((s.gradeSlots.get d).get k).reading, refValid := true, deviation := 0, cls := .valid }
        else (s.gradeSlots.get d).get k)
    ∧ (∀ d' : Side, d' ≠ d → t.gradeSlots.get d' = s.gradeSlots.get d')
    ∧ t.sides = s.sides.set d { r with state := if r.returnManual then .manual else .off, captureArmed := false }
    ∧ t.events = eventsAfter s (if taken = [] then [] else [(.port r.capturePort, .referenceSet d taken.length taken)])
    ∧ (∀ f, (s.ports.get r.capturePort).inFlight = some f →
        t.ports = s.ports.set r.capturePort
          (transmit
            (replyOf f.kind f.tag
              (if taken = [] then { status := .state, payload := [0] }
               else okAnswer (u8 taken.length
                 ++ (taken.map (fun k => u8 (4 * sideCode d + placeCode k) ++ i16 ((s.gradeSlots.get d).get k).reading)).flatten)))
            (s.ports.get r.capturePort)))
    ∧ t = { s with gradeSlots := t.gradeSlots, sides := t.sides, events := t.events, ports := t.ports }

/-! ### Feed (chapter 7) -/

/-- R122, R123, R118, R120: FEED_MODE changes a channel's operation with a running jog ended with FEED_MODE; a channel engaged by AUTO is
SUSPENDED outside PAVING, SENSOR_HOLD with FEED_HOLD on a faulted level, and otherwise AUTO with its duty computed and driven at once. -/
def Obligations.FeedModeSetsOperation : Prop :=
  ∀ (p : Port) (tag channel target : Byte) (s : State), portOpen s p = true →
    let refusal (status : Status) : Host.Outcome State Fault Refusal :=
      .next (withReply p (kindByte .feedMode) tag (bareAnswer status) s)
    ((3 < channel.toNat ∨ 2 < target.toNat) → exec (.feedMode p tag channel target) s = refusal .unknown)
    ∧ ∀ (c : FeedChannel) (g : OperationTarget), channel.toNat = feedCode c → operationOfByte target = some g →
        let r := s.feed.get c
        let present := (g = .off ∧ r.state = .off) ∨ (g = .manual ∧ r.state = .manual) ∨ (g = .auto ∧ feedEngaged r.state = true)
        let barred := (g ≠ .off ∧ s.estop = true) ∨ (g = .auto ∧ s.mode = .parked)
        let enters : FeedState := match g with
          | .off => .off
          | .manual => .manual
          | .auto => if s.mode ≠ .paving then .suspended else if feedFault s c then .sensorHold else .auto
        (holds s p (.feed (feedSide c)) = false → exec (.feedMode p tag channel target) s = refusal .notHolder)
        ∧ (holds s p (.feed (feedSide c)) = true →
            (present → exec (.feedMode p tag channel target) s
              = .next (withReply p (kindByte .feedMode) tag (okAnswer (u8 (feedStateCode r.state))) s))
            ∧ (¬ present → barred → exec (.feedMode p tag channel target) s = refusal .state)
            ∧ (¬ present → ¬ barred → ∃ t,
                exec (.feedMode p tag channel target) s
                  = .next (withReply p (kindByte .feedMode) tag (okAnswer (u8 (feedStateCode enters))) t)
                ∧ t = { s with
                        feed := s.feed.set c
                          { r with
                            state := enters
                            duty := if enters = .auto ∧ 0 < r.error then
                                min 1000 ((r.error * (s.settings.feed.get c).gain).tdiv 100) else 0
                            hold := 0, holdMs := 0, jogDuty := if r.jogLeft = 0 then r.jogDuty else 0, jogLeft := 0
                            jogMs := if r.jogLeft = 0 then r.jogMs else 0
                            lastEnd := if r.jogLeft = 0 then r.lastEnd else .feedMode }
                        events := eventsAfter s (if enters = .sensorHold then [(.feed, .feedHold c (feedLevel s c) 0)] else [])
                        profiler := { s.profiler with flags := t.profiler.flags } }
                ∧ (enters ≠ .sensorHold → t.profiler.flags = s.profiler.flags)
                ∧ (enters = .sensorHold → t.profiler.flags.feedHold = true)))

/-- R114 to R116, R119, R120: each valid level conversion computes the error and, in AUTO or HOLD_LAST, the duty; a fault in AUTO freezes
the duty for 3.0 s; the hold's end means SENSOR_HOLD with FEED_HOLD, and the first valid conversion there returns to AUTO with
FEED_RESUMED. A written level setpoint recomputes the error, and the duty in AUTO. The answer to a clamped write of the value held is
assumption 37. -/
def Obligations.FeedFollowsItsLevel : Prop :=
  ∀ (c : FeedChannel) (s : State),
    let r := s.feed.get c
    let f := s.settings.feed.get c
    let law (e : Int) : Int := if e ≤ 0 then 0 else min 1000 ((e * f.gain).tdiv 100)
    (∀ raw : BitVec 12,
      let x := judgeRaw (.level c) (s.settings.scaling.level.get c) raw.toNat (s.analog.level.get c)
      let s1 : State := { s with analog := s.analog.set (.level c) x }
      let e := f.setpoint - x.value
      (x.fault = true → r.state ≠ .auto → exec (.analogConversion (.level c) raw) s = .next s1)
      ∧ (x.fault = true → r.state = .auto → ∃ t, exec (.analogConversion (.level c) raw) s = .next t
          ∧ t.profiler.flags.feedHold = true
          ∧ t = { s1 with
                  feed := s.feed.set c { r with state := .holdLast, hold := 30, holdMs := 0 }
                  profiler := { s.profiler with flags := t.profiler.flags } })
      ∧ (x.fault = false → r.state = .off ∨ r.state = .manual ∨ r.state = .suspended →
          exec (.analogConversion (.level c) raw) s = .next { s1 with feed := s.feed.set c { r with error := e } })
      ∧ (x.fault = false → r.state = .auto ∨ r.state = .holdLast ∨ r.state = .sensorHold →
          exec (.analogConversion (.level c) raw) s
            = .next { s1 with
                feed := s.feed.set c { r with state := .auto, error := e, duty := law e, hold := 0, holdMs := 0 }
                events := eventsAfter s (if r.state = .sensorHold then [(.feed, .feedResumed c x.value (law e))] else []) }))
    ∧ (r.state ≠ .holdLast → exec (.feedHoldExpiry c) s = .next s)
    ∧ (r.state = .holdLast → r.hold = 1 → 100 ≤ r.holdMs → ∃ t, exec (.feedHoldExpiry c) s = .next t
        ∧ t.profiler.flags.feedHold = true
        ∧ t = { s with
                feed := s.feed.set c { r with state := .sensorHold, duty := 0, hold := 0, holdMs := 0 }
                events := eventsAfter s [(.feed, .feedHold c (feedLevel s c) r.duty)]
                profiler := { s.profiler with flags := t.profiler.flags } })
    ∧ ∀ (p : Port) (tag : Byte) (value : Word), portOpen s p = true →
        let v := max 100 (min 900 value.toInt)
        let e := v - feedLevel s c
        (holds s p (.feed (feedSide c)) = false →
          exec (.setLevelSetpoint p tag c value) s = .next (withReply p (kindByte .setItem) tag (bareAnswer .notHolder) s))
        ∧ (holds s p (.feed (feedSide c)) = true →
            exec (.setLevelSetpoint p tag c value) s
              = .next (withReply p (kindByte .setItem) tag
                  { status := if v = value.toInt then .ok else .okClamped, payload := numField v }
                  { s with
                    settings := { s.settings with feed := s.settings.feed.set c { f with setpoint := v } }
                    feed := s.feed.set c
                      (if r.state = .auto then { r with error := e, duty := law e, hold := 0, holdMs := 0 }
                       else { r with error := e }) }))

/-! ### Mat profiler (chapter 8) -/

/-- R130, R131, R134, R185: a scan line sets the line counter, ends the silence and the SCANNER condition, and is accumulated pixel by
pixel only in PAVING at the high-water station; 2 s of silence in PAVING raise SCANNER with its record. A good frame on the sensor line is
the command it spells. What is discarded there is counted nowhere and changes nothing: bytes without a SYNC, a kind byte other than 0x02
and 0x03, the echo 0x01 of a poll included, a wrong check, and a frame in which more than 2 ms pass, which is held until then and goes on
with bytes that come before. The model's choices: assumptions 18, 35 and 43. -/
def Obligations.ScanLinesAreAccumulated : Prop :=
  ∀ s : State,
    (∀ (counter : Half) (pixels : List Half), pixels.length = 120 →
      let heard := { s.profiler with lastCounter := counter.toNat, lineSilence := 0, scanner := false }
      (¬ (s.mode = .paving ∧ s.travel.station = s.travel.highWater) →
        exec (.scanLine counter pixels) s = .next { s with sensorReceiver := .hunting, profiler := heard })
      ∧ (s.mode = .paving → s.travel.station = s.travel.highWater → ∃ t, exec (.scanLine counter pixels) s = .next t
          ∧ t = { s with
                  sensorReceiver := .hunting
                  profiler := { heard with lines := min 65535 (s.profiler.lines + 1), pixels := t.profiler.pixels } }
          ∧ (∀ (k : Nat) (x : Pixel) (v : Half), s.profiler.pixels[k]? = some x → pixels[k]? = some v →
              t.profiler.pixels[k]?
                = some (if v.toNat ≤ 600 ∧ x.count < 65535 then { sum := x.sum + v.toNat, count := x.count + 1 } else x))))
    ∧ (s.mode = .paving → s.profiler.scanner = false → 2000 ≤ s.profiler.lineSilence →
        exec .scanner s = .next { s with
          profiler := { s.profiler with scanner := true }
          events := eventsAfter s
            [(.profiler, .scanner s.profiler.lastCounter s.profiler.lineSilence s.travel.highWater)] })
    ∧ ((s.mode ≠ .paving ∨ s.profiler.scanner = true) → exec .scanner s = .next s)
    ∧ (∀ taken gap, s.sensorReceiver = .inFrame taken gap →
        (gap ≤ 2 →
          exec .sensorFrameGapExpiry s = .next s
          ∧ ∀ bytes, bytes ≠ [] →
              exec (.sensorFrameDiscard bytes) s
                = exec (.sensorFrameDiscard (taken ++ bytes)) { s with sensorReceiver := .hunting })
        ∧ (2 < gap →
          exec .sensorFrameGapExpiry s = .next { s with sensorReceiver := .hunting }
          ∧ ∀ bytes, bytes ≠ [] →
              exec (.sensorFrameDiscard bytes) s = exec (.sensorFrameDiscard bytes) { s with sensorReceiver := .hunting }))
    ∧ (s.sensorReceiver = .hunting →
        exec .sensorFrameGapExpiry s = .next s
        ∧ (∀ bytes : List Byte, sensorSync ∉ bytes → exec (.sensorFrameDiscard bytes) s = .next s)
        ∧ (∀ (kind : Byte) (bytes : List Byte), kind ≠ 0x02 → kind ≠ 0x03 →
            exec (.sensorFrameDiscard (sensorSync :: kind :: bytes)) s = exec (.sensorFrameDiscard bytes) s)
        ∧ ∀ body : List Byte,
            ((∃ (address status : Byte) (reading : Half), body = [0x02, address, status] ++ halfBytes reading)
              ∨ (∃ (counter : Half) (pixels : List Half), pixels.length = 120
                  ∧ body = [0x03] ++ halfBytes counter ++ (pixels.map halfBytes).flatten)) →
            (∀ (check : Byte) (more : List Byte), check ≠ checkByte body →
              exec (.sensorFrameDiscard ([sensorSync] ++ body ++ [check] ++ more)) s = exec (.sensorFrameDiscard more) s)
            ∧ ∀ n, n ≤ body.length →
                exec (.sensorFrameDiscard ([sensorSync] ++ body.take n)) s
                  = .next { s with sensorReceiver := .inFrame ([sensorSync] ++ body.take n) 0 })
    ∧ ((s.sensorReceiver = .hunting ∨ ∃ taken gap, s.sensorReceiver = .inFrame taken gap ∧ 2 < gap) →
        (∀ (address status : Byte) (reading : Half),
          let body : List Byte := [0x02, address, status] ++ halfBytes reading
          exec (.sensorFrameDiscard ([sensorSync] ++ body ++ [checkByte body])) s = exec (.pollReply address status reading) s)
        ∧ ∀ (counter : Half) (pixels : List Half), pixels.length = 120 →
            let body : List Byte := [0x03] ++ halfBytes counter ++ (pixels.map halfBytes).flatten
            exec (.sensorFrameDiscard ([sensorSync] ++ body ++ [checkByte body])) s = exec (.scanLine counter pixels) s)

/-- R143: a MARK from OC, LS or RS in PAVING or PAUSED takes a mark slot, and its reply carries the slot and the next mark; RU is refused
with NOT_PERMITTED, code 0 with UNKNOWN, another mode with STATE, and a third mark with FULL. -/
def Obligations.MarkTakesASlot : Prop :=
  ∀ (p : Port) (tag code : Byte) (s : State), portOpen s p = true →
    let refusal (status : Status) : Host.Outcome State Fault Refusal :=
      .next (withReply p (kindByte .mark) tag (bareAnswer status) s)
    (p = .ru → exec (.mark p tag code) s = refusal .notPermitted)
    ∧ (p ≠ .ru → code = 0 → exec (.mark p tag code) s = refusal .unknown)
    ∧ (p ≠ .ru → code ≠ 0 → s.mode ≠ .paving → s.mode ≠ .paused → exec (.mark p tag code) s = refusal .state)
    ∧ (p ≠ .ru → code ≠ 0 → (s.mode = .paving ∨ s.mode = .paused) →
        (2 ≤ s.profiler.marks.length → exec (.mark p tag code) s = refusal .full)
        ∧ (s.profiler.marks.length < 2 →
            exec (.mark p tag code) s
              = .next (withReply p (kindByte .mark) tag
                  (okAnswer (u8 (s.profiler.marks.length + 1) ++
                    (match s.profiler.nextMark with | some m => i32 m ++ [0] | none => [0xFF, 0xFF, 0xFF, 0xFF, 0xFF])))
                  { s with profiler := { s.profiler with marks := s.profiler.marks ++ [{ code := code, port := p }] } })))

/-- R21 to R23, R132, R133, R135, R136, R149, R177: a counted travel edge, at a change of the pin or at the end of its debounce time,
moves the pulse count by one in the direction of TRAVEL_DIR and computes the station; a high-water station that rises to the next mark
closes the interval: one profile record in PAVING or PAUSED, none elsewhere, the accumulators cleared, the flags those standing, and the
next mark the next grid point. -/
def Obligations.EdgesCloseIntervals : Prop :=
  ∀ (i : Instr) (level : Bool) (s : State),
    ((i = .pinChange .travelPulse level ∧ (s.settings.inputs.get .travelPulse).debounce = 0 ∧ s.inputs.travelPulse.pin ≠ level)
      ∨ (i = .debounceExpiry .travelPulse ∧ s.inputs.travelPulse.timer = some 0 ∧ s.inputs.travelPulse.pin = level)) →
    s.inputs.travelPulse.debounced ≠ level →
    let s0 : State := { s with inputs := { s.inputs with travelPulse := { pin := level, debounced := level, timer := none } } }
    let counts := match s.settings.inputs.travelPulse.mode with
      | .rising => level | .falling => !level | .both => true | .levelHigh => false | .levelLow => false
    (counts = false → exec i s = .next s0)
    ∧ (counts = true →
        let count := max (-2147483648) (min 2147483647
          (s.travel.pulseCount + if inputActive s .travelDir then -1 else 1))
        let station := max (-2147483648) (min 2147483647
          (s.job.start + (count * 1000).tdiv s.settings.pulsesPerMetre))
        let s1 : State := { s0 with
          travel := { s.travel with
            pulseCount := count, station := station, highWater := max s.travel.highWater station, pulseSilence := 0, pauseMs := 0 } }
        let closes := s.travel.highWater < station ∧ ∃ m, s.profiler.nextMark = some m ∧ m ≤ station
        let records := s.recordsOpen = true ∧ (s.mode = .paving ∨ s.mode = .paused)
        let loses := records ∧ s.mat.newest < 4294967295 ∧ capacityOf s .mat ≤ s.mat.held.length
          ∧ s.mat.ackPoint < oldestOf s.mat ∧ s.mat.firstLost = none
        (¬ closes → exec i s = .next s1)
        ∧ (closes → ∃ t, exec i s = .next t
            ∧ t = { s1 with profiler := t.profiler, mat := t.mat, events := t.events }
            ∧ (¬ records → t.mat = s.mat)
            ∧ (records → { t.mat with firstLost := s.mat.firstLost } = appendTo (capacityOf s .mat) (buildProfile s1) s.mat)
            ∧ (loses → t.mat.firstLost = some (oldestOf s.mat)
                ∧ t.events = eventsAfter s1 [(.recordMemory, .recordsLost (oldestOf s.mat) (capacityOf s .mat))])
            ∧ (¬ loses → t.mat.firstLost = s.mat.firstLost ∧ t.events = s.events)
            ∧ t.profiler = { s.profiler with
                pixels := List.replicate 120 { sum := 0, count := 0 }, lines := 0, marks := [], flags := standingFlags s1
                nextMark := t.profiler.nextMark }
            ∧ (0 < s.settings.recordInterval → s.job.start ≤ station → ∀ m, t.profiler.nextMark = some m →
                station < m ∧ m ≤ station + s.settings.recordInterval ∧ (m - s.job.start) % s.settings.recordInterval = 0)
            ∧ (0 < s.settings.recordInterval → s.job.start ≤ station → t.profiler.nextMark = none →
                2147483647 < station + s.settings.recordInterval)))

/-- R138 to R142: a record's figures are in order: at most 16 segments, as many as the width asks for; minimum, mean and maximum in order
and within the pixel means; the cold count at most 120, with COLD and DIFFERENTIAL by their limits; without a line or a valid pixel the
record is SCAN_STALE. The snapshot is that of the close. -/
def Obligations.ReductionOrdersFigures : Prop :=
  ∀ (s : State) (n : Nat),
    let rec0 := buildProfile s n
    let means := validMeans s
    let stale := decide (s.profiler.lines = 0) || means.isEmpty
    rec0.segments.length ≤ 16
    ∧ (stale = true → rec0.segments = [] ∧ rec0.matMin = 65535 ∧ rec0.matMax = 65535 ∧ rec0.matMean = 65535 ∧ rec0.cold = 0
        ∧ rec0.flags = flagMask s.profiler.flags + 256)
    ∧ (stale = false →
        rec0.segments.length = min 16 (((screedWidth s).toNat + s.settings.segmentWidth.toNat - 1) / s.settings.segmentWidth.toNat)
        ∧ rec0.matMin ≤ rec0.matMean ∧ rec0.matMean ≤ rec0.matMax
        ∧ (∃ m ∈ means, m.2 = rec0.matMin) ∧ (∃ m ∈ means, m.2 = rec0.matMax)
        ∧ (∀ m ∈ means, rec0.matMin ≤ m.2 ∧ m.2 ≤ rec0.matMax)
        ∧ rec0.cold = (means.filter (fun m => m.2 < s.settings.coldLimit)).length ∧ rec0.cold ≤ 120
        ∧ rec0.flags = flagMask s.profiler.flags + (if 0 < rec0.cold then 64 else 0)
            + (if s.settings.diffLimit ≤ rec0.matMax - rec0.matMin then 128 else 0))
    ∧ (∀ m ∈ means, edgeL s + s.settings.edgeMargin ≤ m.1 ∧ m.1 ≤ edgeR s - s.settings.edgeMargin)
    ∧ rec0.sequence = n ∧ rec0.job = s.job.number ∧ rec0.station = s.travel.station ∧ rec0.clock = s.clock
    ∧ rec0.width = screedWidth s ∧ rec0.xL = edgeL s ∧ rec0.lines = min 255 s.profiler.lines ∧ rec0.marks = s.profiler.marks
    ∧ rec0.speed = s.travel.speed
    ∧ (∀ d : Side, rec0.errors.get d = (s.sides.get d).error ∧ rec0.sideStates.get d = (s.sides.get d).state)
    ∧ (∀ c : FeedChannel, rec0.levels.get c = feedLevel s c) ∧ (∀ z : Zone, rec0.zoneStates.get z = (s.zones.get z).state)

/-! ### Record memory (chapter 9) -/

/-- R157, R22 to R24, R132: an accepted WRITE_JOB numbers the new job, restarts the odometer at its start station with the speed window's
start moved along, begins an interval without a record, and appends JOB_STARTED under the new station; its reply carries the number. -/
def Obligations.WriteJobBeginsAJob : Prop :=
  ∀ (p : Port) (tag : Byte) (road : List Byte) (lane layer : Byte) (start : Word) (s : State), portIdle s p = true → road.length = 16 →
    let refusal (status : Status) : Host.Outcome State Fault Refusal :=
      .next (withReply p (kindByte .writeJob) tag (bareAnswer status) s)
    (s.mode = .starting → exec (.writeJob p tag road lane layer start) s = refusal .notReady)
    ∧ (s.mode ≠ .starting → holds s p .mode = false → exec (.writeJob p tag road lane layer start) s = refusal .notHolder)
    ∧ (holds s p .mode = true → (s.mode = .paving ∨ s.mode = .paused) →
        exec (.writeJob p tag road lane layer start) s = refusal .state)
    ∧ (holds s p .mode = true → s.mode ≠ .starting → s.mode ≠ .paving → s.mode ≠ .paused →
        (2 < layer.toNat → exec (.writeJob p tag road lane layer start) s = refusal .unknown)
        ∧ (layer.toNat ≤ 2 → 15 < lane.toNat → exec (.writeJob p tag road lane layer start) s = refusal .range)
        ∧ ∀ k : Layer, layer.toNat = layerCode k → lane.toNat ≤ 15 →
            let number := if s.job.number = 65535 then 0 else s.job.number + 1
            let jobbed : State := { s with
              job := { number := number, road := road, lane := lane.toNat, layer := k, start := start.toInt }
              travel := { s.travel with
                pulseCount := 0, station := start.toInt, highWater := start.toInt
                windowStart := s.travel.windowStart + (start.toInt - s.travel.station) } }
            s.job.number ≤ 65535 →
            exec (.writeJob p tag road lane layer start) s
              = .next (withReply p (kindByte .writeJob) tag (okAnswer (u16 number))
                  { jobbed with
                    profiler := { s.profiler with
                      pixels := List.replicate 120 { sum := 0, count := 0 }, lines := 0, marks := [], flags := standingFlags s
                      nextMark :=
                        if 2147483647 < start.toInt + s.settings.recordInterval then none
                        else some (start.toInt + s.settings.recordInterval) }
                    events := eventsAfter jobbed [(.port p, .jobStarted number lane.toNat k start.toInt)] }))

/-- R151: READ_RECORDS moves no area state: below the oldest it is GONE with the oldest, above the newest OK without records, and
otherwise the reply carries the held records from the asked one on, OK when as many as asked, else PARTIAL. R153: ACK_RECORDS moves the
ack point up only, takes the lost count, and may end a MAT loss run. Sequence numbers are taken within 32 bits, as R146 gives them
(assumption 2 has the one beyond). -/
def Obligations.RecordsAreReadAndAcknowledged : Prop :=
  ∀ (p : Port) (tag area count : Byte) (number : Word) (s : State), portIdle s p = true →
    let read := exec (.readRecords p tag area number count) s
    let ack := exec (.ackRecords p tag area number) s
    let readReply (a : Answer) : Host.Outcome State Fault Refusal := .next (withReply p (kindByte .readRecords) tag a s)
    let ackRefusal (status : Status) : Host.Outcome State Fault Refusal :=
      .next (withReply p (kindByte .ackRecords) tag (bareAnswer status) s)
    (s.mode = .starting → read = readReply (bareAnswer .notReady) ∧ ack = ackRefusal .notReady)
    ∧ (s.mode ≠ .starting → 1 < area.toNat → read = readReply (bareAnswer .unknown))
    ∧ (s.mode ≠ .starting → area.toNat ≤ 1 → 8 < count.toNat → read = readReply (bareAnswer .range))
    ∧ (s.mode ≠ .starting → holds s p .records = false → ack = ackRefusal .notHolder)
    ∧ (s.mode ≠ .starting → holds s p .records = true → 1 < area.toNat → ack = ackRefusal .unknown)
    ∧ (s.mode ≠ .starting →
       let asked := if count = 0 then 8 else count.toNat
       let reads (oldest newest : Nat) (held : List (List Byte)) :=
         oldest ≤ 4294967295 → count.toNat ≤ 8 →
           (number.toNat < oldest → read = readReply { status := .gone, payload := u32 oldest })
           ∧ (newest < number.toNat → oldest ≤ number.toNat → read = readReply (okAnswer (u32 oldest)))
           ∧ (oldest ≤ number.toNat → number.toNat ≤ newest →
               read = readReply
                 { status := if asked ≤ newest + 1 - number.toNat then .ok else .partialOk
                   payload := u32 oldest ++ ((held.drop (number.toNat - oldest)).take asked).flatten })
       (area = 0 → s.mat.held.length ≤ s.mat.newest → reads (oldestOf s.mat) s.mat.newest (s.mat.held.map profileBytes))
       ∧ (area = 1 → s.events.held.length ≤ s.events.newest →
           reads (oldestOf s.events) s.events.newest (s.events.held.map eventBytes)))
    ∧ (s.mode ≠ .starting → holds s p .records = true →
        (area = 0 → s.mat.newest < number.toNat → ack = ackRefusal .range)
        ∧ (area = 1 → s.events.newest < number.toNat → ack = ackRefusal .range)
        ∧ (area = 0 → number.toNat ≤ s.mat.newest →
            let point := max s.mat.ackPoint number.toNat
            ack = .next (withReply p (kindByte .ackRecords) tag (okAnswer (u32 point ++ u32 (s.mat.newest - point)))
              { s with
                mat := { s.mat with
                  ackPoint := point, lostAtAck := s.mat.lost
                  firstLost := if s.mat.newest - point < capacityOf s .mat then none else s.mat.firstLost } }))
        ∧ (area = 1 → number.toNat ≤ s.events.newest → s.events.firstLost = none →
            let point := max s.events.ackPoint number.toNat
            ack = .next (withReply p (kindByte .ackRecords) tag (okAnswer (u32 point ++ u32 (s.events.newest - point)))
              { s with events := { s.events with ackPoint := point, lostAtAck := s.events.lost } })))

/-- R155: a new MAT capacity discards every record of both areas, zeroes their counts and keeps their numbering, and appends
AREAS_CLEARED; the present one changes nothing; a value outside 64 to 1984 is refused with RANGE. -/
def Obligations.BoundaryChangeEmptiesAreas : Prop :=
  ∀ (p : Port) (tag : Byte) (value : Word) (s : State), portOpen s p = true → holds s p .mode = true → s.mode = .parked →
    let answered (a : Answer) (t : State) : Host.Outcome State Fault Refusal := .next (withReply p (kindByte .setItem) tag a t)
    ((value.toInt < 64 ∨ 1984 < value.toInt) → exec (.setMatCapacity p tag value) s = answered (bareAnswer .range) s)
    ∧ ∀ n : Nat, value.toInt = n → 64 ≤ n → n ≤ 1984 →
        (n = s.settings.matCapacity → exec (.setMatCapacity p tag value) s = answered (okAnswer (natField n)) s)
        ∧ (n ≠ s.settings.matCapacity →
            let emptied : State := { s with
              settings := { s.settings with matCapacity := n }
              mat := { held := [], newest := s.mat.newest, ackPoint := s.mat.newest, appended := 0, overwritten := 0, lost := 0
                       lostAtAck := 0, firstLost := none }
              events := { held := [], newest := s.events.newest, ackPoint := s.events.newest, appended := 0, overwritten := 0, lost := 0
                          lostAtAck := 0, firstLost := none } }
            exec (.setMatCapacity p tag value) s
              = answered (okAnswer (natField n))
                  { emptied with
                    events := eventsAfter emptied
                      [(.recordMemory, .areasCleared s.mat.newest s.events.newest n)] })

/-! ### Writes of items (R171 and the owning rules) -/

/-- R171, R79, R85, R86, R99, R61, R62, R31, R176, R178, R179, for SET_ITEM and every row that names its item: an accepted configuration
value is stored as written, its item reads it, and no other item changes; a grade offset or slope target is stored at the nearest bound
and nothing follows at once. What follows a write: readiness after the band, the threshold and a screed length, the references of a side
after a slot write that changes a value, the next mark after the record interval. The answer to a clamped write of the value held is
assumption 37. -/
def Obligations.WritesAreStored : Prop :=
  ∀ (i : Instr) (p : Port) (tag : Byte) (x : Setting) (value : Word) (s : State), writesItem i p tag x value → portOpen s p = true →
    (∀ d which, x = .sideSetpoint d which → holds s p (.grade d) = true →
      let v := max (boundsOf x).1 (min (boundsOf x).2 value.toInt)
      exec i s = .next (withReply p (kindByte .setItem) tag
        { status := if v = value.toInt then .ok else .okClamped, payload := numField v }
        { s with settings := storeSetting s.settings x v }))
    ∧ (setpointOwner x = none → x ≠ .input .estop .mode → x ≠ .matCapacity → x ≠ .pulsesPerMetre →
        holds s p .mode = true → s.mode = .parked → budgetSound s = true → inRange x value.toInt = true →
        furtherCheck s x value.toInt = none →
        ∃ t, exec i s = .next (withReply p (kindByte .setItem) tag (okAnswer (numField value.toInt)) t)
          ∧ settingValue t.settings x = value.toInt
          ∧ (∀ y : Setting, y ≠ x → settingValue t.settings y = settingValue s.settings y)
          ∧ t = { s with
                  settings := t.settings, readiness := t.readiness, failing := t.failing, gradeSlots := t.gradeSlots
                  profiler := { s.profiler with nextMark := t.profiler.nextMark } }
          ∧ ((x = .readinessBand ∨ x = .extThreshold ∨ (∃ part, x = .screed part)) →
              t.readiness = (failingZones t).isEmpty ∧ t.failing = (failingZones t).length)
          ∧ (∀ d k,
              ((∃ k' param, x = .slotParam (.grade d k') param) → settingValue s.settings x ≠ value.toInt →
                (t.gradeSlots.get d).get k = { (s.gradeSlots.get d).get k with refValid := false })
              ∧ ((∀ k' param, x ≠ .slotParam (.grade d k') param) ∨ settingValue s.settings x = value.toInt →
                (t.gradeSlots.get d).get k = (s.gradeSlots.get d).get k))
          ∧ (x ≠ .recordInterval → t.profiler.nextMark = s.profiler.nextMark)
          ∧ (x = .recordInterval → t.profiler.nextMark = nextMarkOf s.job.start s.travel.highWater value.toInt))

/-- R171, R174, for SET_ITEM and every row that names its item: a write is refused by its first failing check and then changes nothing
beyond its port: UNKNOWN for an unknown group or index, STATE for a read-only item, NOT_HOLDER without the owning function, STATE outside
PARKED, RANGE, then the owning block's CONFIG or STATE: a limit below a rating and a rating above the limit (R61, R62), a doubled address,
too few used slots for a GRADE side or no slope slot for a SLOPE side (R79, R85, R86), both sides SLOPE, a slot or kind of a REFERENCING
side, raw_hi at or below raw_lo (R176), and a detection mode the input does not allow (R178, R21, R55; the codes of the modes are the
model's, assumption 21). -/
def Obligations.WritesAreRefusedInOrder : Prop :=
  ∀ (i : Instr) (p : Port) (tag : Byte) (x : Setting) (value : Word) (s : State), writesItem i p tag x value → portOpen s p = true →
    let refused (status : Status) := exec i s = .next (withReply p (kindByte .setItem) tag (bareAnswer status) s)
    let v := value.toInt
    let ready := holds s p .mode = true ∧ s.mode = .parked ∧ inRange x v = true
    (x = .input .estop .mode → refused .state)
    ∧ (∀ owner, setpointOwner x = some owner → holds s p owner = false → refused .notHolder)
    ∧ (setpointOwner x = none → x ≠ .input .estop .mode → holds s p .mode = false → refused .notHolder)
    ∧ (setpointOwner x = none → holds s p .mode = true → s.mode ≠ .parked → refused .state)
    ∧ (setpointOwner x = none → x ≠ .input .estop .mode → holds s p .mode = true → s.mode = .parked → inRange x v = false →
        refused .range)
    ∧ (ready →
        (x = .generatorLimit → (∃ z : Zone, v < ((s.settings.zones.get z).rating : Int)) → refused .config)
        ∧ (∀ z, x = .rating z → (s.settings.generatorLimit : Int) < v → refused .config)
        ∧ (∀ slot param, x = .slotParam slot param →
            let f := storeSetting s.settings x v
            let held := match slot with
              | .grade d _ => decide ((s.sides.get d).state = .referencing)
              | .slope => decide (s.sides.left.state = .referencing) || decide (s.sides.right.state = .referencing)
            (held = true → refused .state)
            ∧ (held = false →
                ((∃ a b : Slot, a ≠ b ∧ slotAddress f a = slotAddress f b ∧ slotAddress f a ≠ 0)
                  ∨ (∃ d : Side, (f.sides.get d).kind = .grade ∧ (usedPlaces f d).length < (f.sides.get d).minValid)
                  ∨ (∃ d : Side, (f.sides.get d).kind = .slope ∧ slopeUsed f = false)) → refused .config))
        ∧ (∀ d, x = .refKind d →
            let other := match d with | .left => s.settings.sides.right.kind | .right => s.settings.sides.left.kind
            ((s.sides.get d).state = .referencing → refused .state)
            ∧ ((s.sides.get d).state ≠ .referencing →
                ((v = 1 ∧ other = .slope) ∨ (v = 1 ∧ slopeUsed s.settings = false)
                  ∨ (v = 0 ∧ (usedPlaces s.settings d).length < (s.settings.sides.get d).minValid)) → refused .config))
        ∧ (∀ d, x = .minValid d → (s.settings.sides.get d).kind = .grade → ((usedPlaces s.settings d).length : Int) < v →
            refused .config)
        ∧ (∀ a, x = .scaling a .rawLo → (s.settings.scaling.get a).rawHi ≤ v → refused .config)
        ∧ (∀ a, x = .scaling a .rawHi → v ≤ (s.settings.scaling.get a).rawLo → refused .config)
        ∧ (x = .input .travelPulse .mode → v < 2 → refused .config)
        ∧ (∀ k, k ≠ .travelPulse → k ≠ .estop → x = .input k .mode → 1 < v → refused .config))
    ∧ (∀ (group : Byte) (index : Half), 13 < group.toNat →
        exec (.setItem p tag group index value) s = .next (withReply p (kindByte .setItem) tag (bareAnswer .unknown) s))
    ∧ ∀ (g : ItemGroup) (index : Half), settingAt g index.toNat = none →
        exec (.setItem p tag (BitVec.ofNat 8 (groupCode g)) index value) s
          = .next (withReply p (kindByte .setItem) tag
              (bareAnswer (if (readOnlyField s g index.toNat).isSome then .state else .unknown)) s)

/-! ### Settings store (chapter 11) -/

/-- R181, R182: an accepted STORE_SETTINGS takes its snapshot at once and stays in flight; the end of the write returns the store to IDLE
and is answered on port 0: OK with the image's check value when the image reads back equal, ending SETTINGS_DEFAULTED, and STATE
otherwise, with a STORE_FAILED record; a write end without a store changes nothing. The model's choices: assumptions 1, 17 and 32. -/
def Obligations.StoreWritesItsSnapshot : Prop :=
  ∀ s : State,
    (∀ (p : Port) (tag : Byte), portOpen s p = true →
      (holds s p .mode = false →
        exec (.storeSettings p tag) s = .next (withReply p (kindByte .storeSettings) tag (bareAnswer .notHolder) s))
      ∧ (holds s p .mode = true → s.mode ≠ .parked → s.mode ≠ .ready →
        exec (.storeSettings p tag) s = .next (withReply p (kindByte .storeSettings) tag (bareAnswer .state) s))
      ∧ (holds s p .mode = true → (s.mode = .parked ∨ s.mode = .ready) → ∃ image : SettingsImage,
          exec (.storeSettings p tag) s
            = .next (withOpened p (kindByte .storeSettings) tag { s with store := { s.store with state := .writing image } })
          ∧ image.settings = s.settings ∧ image.lastJob = s.job.number
          ∧ ∀ z : Zone, image.health.get z = { s.health.get z with seconds := 0, subMs := 0 }))
    ∧ ∀ equal good : Bool,
        (s.store.state = .idle → exec (.storeWriteEnd equal good) s = .next s)
        ∧ ∀ (image : SettingsImage) (f : InFlight), s.store.state = .writing image → s.ports.oc.inFlight = some f →
            let replied (a : Answer) (t : State) : State :=
              { t with ports := { s.ports with oc := transmit (replyOf f.kind f.tag a) s.ports.oc } }
            (equal = true →
              exec (.storeWriteEnd equal good) s
                = .next (replied (okAnswer (u16 (imageCheck image).toNat))
                    { s with
                      store := { s.store with state := .idle, lastOutcome := .ok, defaulted := false, array := .good image } }))
            ∧ (equal = false →
              exec (.storeWriteEnd equal good) s
                = .next (replied (bareAnswer .state)
                    { s with
                      store := { s.store with
                        state := .idle, lastOutcome := .failed, array := if good then .good image else .bad }
                      events := eventsAfter s [(.settingsStore, .settings .storeFailed)] }))

/-! ### Field channels (chapter 11) -/

/-- R175, R32, R43, R45, R75: a conversion is judged against the channel's scaling parameters, the value is held in FAULT, and it is
handed to its consumer at once. A temperature: the zone's health maximum takes a higher valid value, outside STARTING, the zone is
evaluated (ZoneEvaluationFollowsItsTests), and readiness follows. An extension position: the geometry unit takes a valid one, ending a
width jog at its soft limit, and the extension zone selects its active set again, which evaluates it on a change; a fault makes the side
stale with GEOMETRY_STALE, ends its jog, and moves no zone; readiness follows either. A level is FeedFollowsItsLevel. -/
def Obligations.ConversionIsJudged : Prop :=
  ∀ (a : AnalogChannel) (raw : BitVec 12) (s : State),
    let c := s.settings.scaling.get a
    let old := s.analog.get a
    let n : Int := raw.toNat
    let value :=
      if n < c.rawLo then c.engLo else if c.rawHi < n then c.engHi
      else c.engLo + ((n - c.rawLo) * (c.engHi - c.engLo)).tdiv (c.rawHi - c.rawLo)
    let x : Analog :=
      if n < c.rawLo - c.tolerance ∨ c.rawHi + c.tolerance < n then { old with raw := raw.toNat, fault := true }
      else { raw := raw.toNat, value := max (engLow a) (min (engHigh a) value), fault := false }
    let s1 : State := { s with analog := s.analog.set a x }
    (∃ t, exec (.analogConversion a raw) s = .next t ∧ t.analog = s1.analog)
    ∧ (∀ z, a = .temp z →
        exec (.analogConversion a raw) s
          = .next (settleReadiness (evaluateZone z
              { s1 with
                health := s.health.set z
                  { s.health.get z with
                    maxTemp :=
                      if s.mode ≠ .starting ∧ x.fault = false then max (s.health.get z).maxTemp x.value
                      else (s.health.get z).maxTemp } })))
    ∧ (∀ d, a = .ext d →
        let r := s.geometry.get d
        let ended (r : Extension) (cause : WidthEnd) : Extension :=
          { r with jogDir := .none, jogLeft := 0, jogMs := 0, lastEnd := cause }
        (x.fault = true → ∃ u, exec (.analogConversion a raw) s = .next (settleReadiness u)
          ∧ u = { s1 with
                  geometry := s.geometry.set d { (if r.jogDir = .none then r else ended r .fault) with stale := true }
                  events := eventsAfter s (if r.stale then [] else [(.geometryUnit, .geometryStale d r.position s.travel.station)])
                  profiler := { s.profiler with flags := u.profiler.flags } }
          ∧ (r.stale = true → u.profiler.flags = s.profiler.flags)
          ∧ (r.stale = false → u.profiler.flags.geometryStale = true))
        ∧ (x.fault = false →
            let moved := { r with position := max 0 (min 2500 x.value), stale := false }
            let limit := (r.jogDir = .inward ∧ moved.position ≤ 20) ∨ (r.jogDir = .outward ∧ 2480 ≤ moved.position)
            let s2 : State := { s1 with geometry := s.geometry.set d (if limit then ended moved .limit else moved) }
            let z := extensionZone d
            let set := selectedSet s2 z
            exec (.analogConversion a raw) s
              = .next (settleReadiness
                  (if (s.zones.get z).state = .off
                      ∨ ((s.zones.get z).activeSet = set ∧ (s.zones.get z).activeSetpoint = setpointOf s2 z set) then s2
                   else evaluateZone z
                     { s2 with
                       zones := s.zones.set z
                         { s.zones.get z with activeSet := set, activeSetpoint := setpointOf s2 z set } }))))

/-- R177, R55: a pin's change restarts its debounce timer, and the debounced level takes the pin's when the timer runs out, or at once
with a time of 0, with all that the level's change sets off; a pin back at the debounced level gives no change. TRAVEL_DIR only takes its
level; a feedback input seen inactive in WATCH fails the element. An edge of TRAVEL_PULSE is EdgesCloseIntervals, and ESTOP is
EstopParksTheMachine. A timer that does not run gives no expiry, and one that still runs none yet (assumption 8). -/
def Obligations.PinsAreDebounced : Prop :=
  ∀ (k : DigitalInput) (level : Bool) (s : State),
    let r := s.inputs.get k
    let time := (s.settings.inputs.get k).debounce
    (r.pin = level → exec (.pinChange k level) s = .next s)
    ∧ (r.pin ≠ level → time ≠ 0 →
        exec (.pinChange k level) s = .next { s with inputs := s.inputs.set k { r with pin := level, timer := some time } })
    ∧ (r.pin ≠ level → time = 0 → r.debounced = level →
        exec (.pinChange k level) s = .next { s with inputs := s.inputs.set k { pin := level, debounced := level, timer := none } })
    ∧ (r.pin ≠ level → time = 0 →
        exec (.pinChange k level) s
          = exec (.debounceExpiry k) { s with inputs := s.inputs.set k { r with pin := level, timer := some 0 } })
    ∧ (r.timer ≠ some 0 → exec (.debounceExpiry k) s = .next s)
    ∧ (r.timer = some 0 → r.pin = r.debounced →
        exec (.debounceExpiry k) s = .next { s with inputs := s.inputs.set k { r with timer := none } })
    ∧ (r.timer = some 0 → k = .travelDir →
        exec (.debounceExpiry k) s = .next { s with inputs := s.inputs.set k { r with debounced := r.pin, timer := none } })
    ∧ (∀ z, k = .feedback z → r.timer = some 0 → r.pin ≠ r.debounced → quiet s = true → budgetSound s = true →
        let s1 : State := { s with inputs := s.inputs.set k { r with debounced := r.pin, timer := none } }
        let watched := (s.zones.get z).state = .heating ∧ (s.zones.get z).check = .watch
        ((¬ watched ∨ inputActive s1 k = true) → exec (.debounceExpiry k) s = .next s1)
        ∧ (watched → inputActive s1 k = false → ∃ t later, exec (.debounceExpiry k) s = .next t
            ∧ t = settleReadiness (elementFail z s1)
            ∧ (t.zones.get z).state = .fault ∧ (t.zones.get z).latch = true ∧ granted t z = false
            ∧ t.inputs = s1.inputs
            ∧ t.events = eventsAfter s ((.heating, .zoneFault z .element (zoneTemp s z)) :: later)))
end

