-- ==== Sys2Proof/Laws/State.lean ====
section
/-! SUPPORT. One lemma per field per update of State, and the reading of a container after a write: true by unfolding, so that no later proof
unfolds a record update. -/

namespace Sys2Proof.Machine

open Sys2Proof

variable {α : Type} (s : State)

@[simp] theorem PerZone.get_set_same (v : PerZone α) (z : Zone) (x : α) : (v.set z x).get z = x := by cases z <;> rfl
theorem PerZone.get_set_other (v : PerZone α) (z y : Zone) (x : α) (h : y ≠ z) : (v.set z x).get y = v.get y := by
  cases z <;> cases y <;> first | rfl | exact absurd rfl h
theorem PerZone.get_set (v : PerZone α) (z y : Zone) (x : α) : (v.set z x).get y = if y = z then x else v.get y := by
  cases z <;> cases y <;> rfl
@[simp] theorem PerZone.set_get (v : PerZone α) (z : Zone) : v.set z (v.get z) = v := by cases z <;> rfl
@[simp] theorem PerZone.set_set (v : PerZone α) (z : Zone) (x y : α) : (v.set z x).set z y = v.set z y := by cases z <;> rfl
@[simp] theorem PerZone.get_all (x : α) (z : Zone) : (PerZone.all x).get z = x := by cases z <;> rfl

@[simp] theorem PerSide.get_set_same (v : PerSide α) (d : Side) (x : α) : (v.set d x).get d = x := by cases d <;> rfl
theorem PerSide.get_set_other (v : PerSide α) (d y : Side) (x : α) (h : y ≠ d) : (v.set d x).get y = v.get y := by
  cases d <;> cases y <;> first | rfl | exact absurd rfl h
theorem PerSide.get_set (v : PerSide α) (d y : Side) (x : α) : (v.set d x).get y = if y = d then x else v.get y := by
  cases d <;> cases y <;> rfl
@[simp] theorem PerSide.set_get (v : PerSide α) (d : Side) : v.set d (v.get d) = v := by cases d <;> rfl
@[simp] theorem PerSide.set_set (v : PerSide α) (d : Side) (x y : α) : (v.set d x).set d y = v.set d y := by cases d <;> rfl
@[simp] theorem PerSide.get_all (x : α) (d : Side) : (PerSide.all x).get d = x := by cases d <;> rfl

@[simp] theorem PerPort.get_set_same (v : PerPort α) (p : Port) (x : α) : (v.set p x).get p = x := by cases p <;> rfl
theorem PerPort.get_set_other (v : PerPort α) (p y : Port) (x : α) (h : y ≠ p) : (v.set p x).get y = v.get y := by
  cases p <;> cases y <;> first | rfl | exact absurd rfl h
theorem PerPort.get_set (v : PerPort α) (p y : Port) (x : α) : (v.set p x).get y = if y = p then x else v.get y := by
  cases p <;> cases y <;> rfl
@[simp] theorem PerPort.set_get (v : PerPort α) (p : Port) : v.set p (v.get p) = v := by cases p <;> rfl
@[simp] theorem PerPort.set_set (v : PerPort α) (p : Port) (x y : α) : (v.set p x).set p y = v.set p y := by cases p <;> rfl
@[simp] theorem PerPort.get_all (x : α) (p : Port) : (PerPort.all x).get p = x := by cases p <;> rfl

@[simp] theorem PerFeed.get_set_same (v : PerFeed α) (c : FeedChannel) (x : α) : (v.set c x).get c = x := by cases c <;> rfl
theorem PerFeed.get_set_other (v : PerFeed α) (c y : FeedChannel) (x : α) (h : y ≠ c) : (v.set c x).get y = v.get y := by
  cases c <;> cases y <;> first | rfl | exact absurd rfl h
theorem PerFeed.get_set (v : PerFeed α) (c y : FeedChannel) (x : α) : (v.set c x).get y = if y = c then x else v.get y := by
  cases c <;> cases y <;> rfl
@[simp] theorem PerFeed.set_get (v : PerFeed α) (c : FeedChannel) : v.set c (v.get c) = v := by cases c <;> rfl
@[simp] theorem PerFeed.set_set (v : PerFeed α) (c : FeedChannel) (x y : α) : (v.set c x).set c y = v.set c y := by cases c <;> rfl
@[simp] theorem PerFeed.get_all (x : α) (c : FeedChannel) : (PerFeed.all x).get c = x := by cases c <;> rfl

@[simp] theorem PerPlace.get_set_same (v : PerPlace α) (k : GradePlace) (x : α) : (v.set k x).get k = x := by cases k <;> rfl
theorem PerPlace.get_set_other (v : PerPlace α) (k y : GradePlace) (x : α) (h : y ≠ k) : (v.set k x).get y = v.get y := by
  cases k <;> cases y <;> first | rfl | exact absurd rfl h
theorem PerPlace.get_set (v : PerPlace α) (k y : GradePlace) (x : α) : (v.set k x).get y = if y = k then x else v.get y := by
  cases k <;> cases y <;> rfl
@[simp] theorem PerPlace.set_get (v : PerPlace α) (k : GradePlace) : v.set k (v.get k) = v := by cases k <;> rfl
@[simp] theorem PerPlace.set_set (v : PerPlace α) (k : GradePlace) (x y : α) : (v.set k x).set k y = v.set k y := by cases k <;> rfl
@[simp] theorem PerPlace.get_all (x : α) (k : GradePlace) : (PerPlace.all x).get k = x := by cases k <;> rfl

@[simp] theorem PerAnalog.get_set_same (v : PerAnalog α) (a : AnalogChannel) (x : α) : (v.set a x).get a = x := by
  cases a <;> simp [PerAnalog.set, PerAnalog.get]
theorem PerAnalog.get_set_other (v : PerAnalog α) (a y : AnalogChannel) (x : α) (h : y ≠ a) : (v.set a x).get y = v.get y := by
  cases a <;> cases y <;> simp_all [PerAnalog.set, PerAnalog.get, PerZone.get_set, PerSide.get_set, PerFeed.get_set]

@[simp] theorem PerInput.get_set_same (v : PerInput α) (i : DigitalInput) (x : α) : (v.set i x).get i = x := by
  cases i <;> simp [PerInput.set, PerInput.get]
theorem PerInput.get_set_other (v : PerInput α) (i y : DigitalInput) (x : α) (h : y ≠ i) : (v.set i x).get y = v.get y := by
  cases i <;> cases y <;> simp_all [PerInput.set, PerInput.get, PerZone.get_set]

@[simp] theorem PerOutput.get_set_same (v : PerOutput α) (o : Output) (x : α) : (v.set o x).get o = x := by
  cases o <;> simp [PerOutput.set, PerOutput.get]
theorem PerOutput.get_set_other (v : PerOutput α) (o y : Output) (x : α) (h : y ≠ o) : (v.set o x).get y = v.get y := by
  cases o <;> cases y <;> simp_all [PerOutput.set, PerOutput.get, PerZone.get_set, PerSide.get_set, PerFeed.get_set]

/-! ### setPort -/

@[simp] theorem setPort_mode (p : Port) (r : PortState) : (setPort p r s).mode = s.mode := rfl
@[simp] theorem setPort_pavePending (p : Port) (r : PortState) : (setPort p r s).pavePending = s.pavePending := rfl
@[simp] theorem setPort_readiness (p : Port) (r : PortState) : (setPort p r s).readiness = s.readiness := rfl
@[simp] theorem setPort_failing (p : Port) (r : PortState) : (setPort p r s).failing = s.failing := rfl
@[simp] theorem setPort_estop (p : Port) (r : PortState) : (setPort p r s).estop = s.estop := rfl
@[simp] theorem setPort_ports (p : Port) (r : PortState) : (setPort p r s).ports = s.ports.set p r := rfl
@[simp] theorem setPort_authority (p : Port) (r : PortState) : (setPort p r s).authority = s.authority := rfl
@[simp] theorem setPort_travel (p : Port) (r : PortState) : (setPort p r s).travel = s.travel := rfl
@[simp] theorem setPort_clock (p : Port) (r : PortState) : (setPort p r s).clock = s.clock := rfl
@[simp] theorem setPort_clockPhase (p : Port) (r : PortState) : (setPort p r s).clockPhase = s.clockPhase := rfl
@[simp] theorem setPort_geometry (p : Port) (r : PortState) : (setPort p r s).geometry = s.geometry := rfl
@[simp] theorem setPort_zones (p : Port) (r : PortState) : (setPort p r s).zones = s.zones := rfl
@[simp] theorem setPort_health (p : Port) (r : PortState) : (setPort p r s).health = s.health := rfl
@[simp] theorem setPort_queue (p : Port) (r : PortState) : (setPort p r s).queue = s.queue := rfl
@[simp] theorem setPort_grants (p : Port) (r : PortState) : (setPort p r s).grants = s.grants := rfl
@[simp] theorem setPort_sensorReceiver (p : Port) (r : PortState) : (setPort p r s).sensorReceiver = s.sensorReceiver := rfl
@[simp] theorem setPort_sensors (p : Port) (r : PortState) : (setPort p r s).sensors = s.sensors := rfl
@[simp] theorem setPort_gradeSlots (p : Port) (r : PortState) : (setPort p r s).gradeSlots = s.gradeSlots := rfl
@[simp] theorem setPort_slopeSlot (p : Port) (r : PortState) : (setPort p r s).slopeSlot = s.slopeSlot := rfl
@[simp] theorem setPort_sides (p : Port) (r : PortState) : (setPort p r s).sides = s.sides := rfl
@[simp] theorem setPort_feed (p : Port) (r : PortState) : (setPort p r s).feed = s.feed := rfl
@[simp] theorem setPort_profiler (p : Port) (r : PortState) : (setPort p r s).profiler = s.profiler := rfl
@[simp] theorem setPort_mat (p : Port) (r : PortState) : (setPort p r s).mat = s.mat := rfl
@[simp] theorem setPort_events (p : Port) (r : PortState) : (setPort p r s).events = s.events := rfl
@[simp] theorem setPort_recordsOpen (p : Port) (r : PortState) : (setPort p r s).recordsOpen = s.recordsOpen := rfl
@[simp] theorem setPort_job (p : Port) (r : PortState) : (setPort p r s).job = s.job := rfl
@[simp] theorem setPort_analog (p : Port) (r : PortState) : (setPort p r s).analog = s.analog := rfl
@[simp] theorem setPort_inputs (p : Port) (r : PortState) : (setPort p r s).inputs = s.inputs := rfl
@[simp] theorem setPort_store (p : Port) (r : PortState) : (setPort p r s).store = s.store := rfl
@[simp] theorem setPort_settings (p : Port) (r : PortState) : (setPort p r s).settings = s.settings := rfl
@[simp] theorem setPort_pending (p : Port) (r : PortState) : (setPort p r s).pending = s.pending := rfl

/-! ### setZone -/

@[simp] theorem setZone_mode (z : Zone) (r : ZoneRec) : (setZone z r s).mode = s.mode := rfl
@[simp] theorem setZone_pavePending (z : Zone) (r : ZoneRec) : (setZone z r s).pavePending = s.pavePending := rfl
@[simp] theorem setZone_readiness (z : Zone) (r : ZoneRec) : (setZone z r s).readiness = s.readiness := rfl
@[simp] theorem setZone_failing (z : Zone) (r : ZoneRec) : (setZone z r s).failing = s.failing := rfl
@[simp] theorem setZone_estop (z : Zone) (r : ZoneRec) : (setZone z r s).estop = s.estop := rfl
@[simp] theorem setZone_ports (z : Zone) (r : ZoneRec) : (setZone z r s).ports = s.ports := rfl
@[simp] theorem setZone_authority (z : Zone) (r : ZoneRec) : (setZone z r s).authority = s.authority := rfl
@[simp] theorem setZone_travel (z : Zone) (r : ZoneRec) : (setZone z r s).travel = s.travel := rfl
@[simp] theorem setZone_clock (z : Zone) (r : ZoneRec) : (setZone z r s).clock = s.clock := rfl
@[simp] theorem setZone_clockPhase (z : Zone) (r : ZoneRec) : (setZone z r s).clockPhase = s.clockPhase := rfl
@[simp] theorem setZone_geometry (z : Zone) (r : ZoneRec) : (setZone z r s).geometry = s.geometry := rfl
@[simp] theorem setZone_zones (z : Zone) (r : ZoneRec) : (setZone z r s).zones = s.zones.set z r := rfl
@[simp] theorem setZone_health (z : Zone) (r : ZoneRec) : (setZone z r s).health = s.health := rfl
@[simp] theorem setZone_queue (z : Zone) (r : ZoneRec) : (setZone z r s).queue = s.queue := rfl
@[simp] theorem setZone_grants (z : Zone) (r : ZoneRec) : (setZone z r s).grants = s.grants := rfl
@[simp] theorem setZone_sensorReceiver (z : Zone) (r : ZoneRec) : (setZone z r s).sensorReceiver = s.sensorReceiver := rfl
@[simp] theorem setZone_sensors (z : Zone) (r : ZoneRec) : (setZone z r s).sensors = s.sensors := rfl
@[simp] theorem setZone_gradeSlots (z : Zone) (r : ZoneRec) : (setZone z r s).gradeSlots = s.gradeSlots := rfl
@[simp] theorem setZone_slopeSlot (z : Zone) (r : ZoneRec) : (setZone z r s).slopeSlot = s.slopeSlot := rfl
@[simp] theorem setZone_sides (z : Zone) (r : ZoneRec) : (setZone z r s).sides = s.sides := rfl
@[simp] theorem setZone_feed (z : Zone) (r : ZoneRec) : (setZone z r s).feed = s.feed := rfl
@[simp] theorem setZone_profiler (z : Zone) (r : ZoneRec) : (setZone z r s).profiler = s.profiler := rfl
@[simp] theorem setZone_mat (z : Zone) (r : ZoneRec) : (setZone z r s).mat = s.mat := rfl
@[simp] theorem setZone_events (z : Zone) (r : ZoneRec) : (setZone z r s).events = s.events := rfl
@[simp] theorem setZone_recordsOpen (z : Zone) (r : ZoneRec) : (setZone z r s).recordsOpen = s.recordsOpen := rfl
@[simp] theorem setZone_job (z : Zone) (r : ZoneRec) : (setZone z r s).job = s.job := rfl
@[simp] theorem setZone_analog (z : Zone) (r : ZoneRec) : (setZone z r s).analog = s.analog := rfl
@[simp] theorem setZone_inputs (z : Zone) (r : ZoneRec) : (setZone z r s).inputs = s.inputs := rfl
@[simp] theorem setZone_store (z : Zone) (r : ZoneRec) : (setZone z r s).store = s.store := rfl
@[simp] theorem setZone_settings (z : Zone) (r : ZoneRec) : (setZone z r s).settings = s.settings := rfl
@[simp] theorem setZone_pending (z : Zone) (r : ZoneRec) : (setZone z r s).pending = s.pending := rfl

/-! ### setHealth -/

@[simp] theorem setHealth_mode (z : Zone) (h : Health) : (setHealth z h s).mode = s.mode := rfl
@[simp] theorem setHealth_pavePending (z : Zone) (h : Health) : (setHealth z h s).pavePending = s.pavePending := rfl
@[simp] theorem setHealth_readiness (z : Zone) (h : Health) : (setHealth z h s).readiness = s.readiness := rfl
@[simp] theorem setHealth_failing (z : Zone) (h : Health) : (setHealth z h s).failing = s.failing := rfl
@[simp] theorem setHealth_estop (z : Zone) (h : Health) : (setHealth z h s).estop = s.estop := rfl
@[simp] theorem setHealth_ports (z : Zone) (h : Health) : (setHealth z h s).ports = s.ports := rfl
@[simp] theorem setHealth_authority (z : Zone) (h : Health) : (setHealth z h s).authority = s.authority := rfl
@[simp] theorem setHealth_travel (z : Zone) (h : Health) : (setHealth z h s).travel = s.travel := rfl
@[simp] theorem setHealth_clock (z : Zone) (h : Health) : (setHealth z h s).clock = s.clock := rfl
@[simp] theorem setHealth_clockPhase (z : Zone) (h : Health) : (setHealth z h s).clockPhase = s.clockPhase := rfl
@[simp] theorem setHealth_geometry (z : Zone) (h : Health) : (setHealth z h s).geometry = s.geometry := rfl
@[simp] theorem setHealth_zones (z : Zone) (h : Health) : (setHealth z h s).zones = s.zones := rfl
@[simp] theorem setHealth_health (z : Zone) (h : Health) : (setHealth z h s).health = s.health.set z h := rfl
@[simp] theorem setHealth_queue (z : Zone) (h : Health) : (setHealth z h s).queue = s.queue := rfl
@[simp] theorem setHealth_grants (z : Zone) (h : Health) : (setHealth z h s).grants = s.grants := rfl
@[simp] theorem setHealth_sensorReceiver (z : Zone) (h : Health) : (setHealth z h s).sensorReceiver = s.sensorReceiver := rfl
@[simp] theorem setHealth_sensors (z : Zone) (h : Health) : (setHealth z h s).sensors = s.sensors := rfl
@[simp] theorem setHealth_gradeSlots (z : Zone) (h : Health) : (setHealth z h s).gradeSlots = s.gradeSlots := rfl
@[simp] theorem setHealth_slopeSlot (z : Zone) (h : Health) : (setHealth z h s).slopeSlot = s.slopeSlot := rfl
@[simp] theorem setHealth_sides (z : Zone) (h : Health) : (setHealth z h s).sides = s.sides := rfl
@[simp] theorem setHealth_feed (z : Zone) (h : Health) : (setHealth z h s).feed = s.feed := rfl
@[simp] theorem setHealth_profiler (z : Zone) (h : Health) : (setHealth z h s).profiler = s.profiler := rfl
@[simp] theorem setHealth_mat (z : Zone) (h : Health) : (setHealth z h s).mat = s.mat := rfl
@[simp] theorem setHealth_events (z : Zone) (h : Health) : (setHealth z h s).events = s.events := rfl
@[simp] theorem setHealth_recordsOpen (z : Zone) (h : Health) : (setHealth z h s).recordsOpen = s.recordsOpen := rfl
@[simp] theorem setHealth_job (z : Zone) (h : Health) : (setHealth z h s).job = s.job := rfl
@[simp] theorem setHealth_analog (z : Zone) (h : Health) : (setHealth z h s).analog = s.analog := rfl
@[simp] theorem setHealth_inputs (z : Zone) (h : Health) : (setHealth z h s).inputs = s.inputs := rfl
@[simp] theorem setHealth_store (z : Zone) (h : Health) : (setHealth z h s).store = s.store := rfl
@[simp] theorem setHealth_settings (z : Zone) (h : Health) : (setHealth z h s).settings = s.settings := rfl
@[simp] theorem setHealth_pending (z : Zone) (h : Health) : (setHealth z h s).pending = s.pending := rfl

/-! ### setSide -/

@[simp] theorem setSide_mode (d : Side) (r : SideRec) : (setSide d r s).mode = s.mode := rfl
@[simp] theorem setSide_pavePending (d : Side) (r : SideRec) : (setSide d r s).pavePending = s.pavePending := rfl
@[simp] theorem setSide_readiness (d : Side) (r : SideRec) : (setSide d r s).readiness = s.readiness := rfl
@[simp] theorem setSide_failing (d : Side) (r : SideRec) : (setSide d r s).failing = s.failing := rfl
@[simp] theorem setSide_estop (d : Side) (r : SideRec) : (setSide d r s).estop = s.estop := rfl
@[simp] theorem setSide_ports (d : Side) (r : SideRec) : (setSide d r s).ports = s.ports := rfl
@[simp] theorem setSide_authority (d : Side) (r : SideRec) : (setSide d r s).authority = s.authority := rfl
@[simp] theorem setSide_travel (d : Side) (r : SideRec) : (setSide d r s).travel = s.travel := rfl
@[simp] theorem setSide_clock (d : Side) (r : SideRec) : (setSide d r s).clock = s.clock := rfl
@[simp] theorem setSide_clockPhase (d : Side) (r : SideRec) : (setSide d r s).clockPhase = s.clockPhase := rfl
@[simp] theorem setSide_geometry (d : Side) (r : SideRec) : (setSide d r s).geometry = s.geometry := rfl
@[simp] theorem setSide_zones (d : Side) (r : SideRec) : (setSide d r s).zones = s.zones := rfl
@[simp] theorem setSide_health (d : Side) (r : SideRec) : (setSide d r s).health = s.health := rfl
@[simp] theorem setSide_queue (d : Side) (r : SideRec) : (setSide d r s).queue = s.queue := rfl
@[simp] theorem setSide_grants (d : Side) (r : SideRec) : (setSide d r s).grants = s.grants := rfl
@[simp] theorem setSide_sensorReceiver (d : Side) (r : SideRec) : (setSide d r s).sensorReceiver = s.sensorReceiver := rfl
@[simp] theorem setSide_sensors (d : Side) (r : SideRec) : (setSide d r s).sensors = s.sensors := rfl
@[simp] theorem setSide_gradeSlots (d : Side) (r : SideRec) : (setSide d r s).gradeSlots = s.gradeSlots := rfl
@[simp] theorem setSide_slopeSlot (d : Side) (r : SideRec) : (setSide d r s).slopeSlot = s.slopeSlot := rfl
@[simp] theorem setSide_sides (d : Side) (r : SideRec) : (setSide d r s).sides = s.sides.set d r := rfl
@[simp] theorem setSide_feed (d : Side) (r : SideRec) : (setSide d r s).feed = s.feed := rfl
@[simp] theorem setSide_profiler (d : Side) (r : SideRec) : (setSide d r s).profiler = s.profiler := rfl
@[simp] theorem setSide_mat (d : Side) (r : SideRec) : (setSide d r s).mat = s.mat := rfl
@[simp] theorem setSide_events (d : Side) (r : SideRec) : (setSide d r s).events = s.events := rfl
@[simp] theorem setSide_recordsOpen (d : Side) (r : SideRec) : (setSide d r s).recordsOpen = s.recordsOpen := rfl
@[simp] theorem setSide_job (d : Side) (r : SideRec) : (setSide d r s).job = s.job := rfl
@[simp] theorem setSide_analog (d : Side) (r : SideRec) : (setSide d r s).analog = s.analog := rfl
@[simp] theorem setSide_inputs (d : Side) (r : SideRec) : (setSide d r s).inputs = s.inputs := rfl
@[simp] theorem setSide_store (d : Side) (r : SideRec) : (setSide d r s).store = s.store := rfl
@[simp] theorem setSide_settings (d : Side) (r : SideRec) : (setSide d r s).settings = s.settings := rfl
@[simp] theorem setSide_pending (d : Side) (r : SideRec) : (setSide d r s).pending = s.pending := rfl

/-! ### setFeed -/

@[simp] theorem setFeed_mode (c : FeedChannel) (r : FeedRec) : (setFeed c r s).mode = s.mode := rfl
@[simp] theorem setFeed_pavePending (c : FeedChannel) (r : FeedRec) : (setFeed c r s).pavePending = s.pavePending := rfl
@[simp] theorem setFeed_readiness (c : FeedChannel) (r : FeedRec) : (setFeed c r s).readiness = s.readiness := rfl
@[simp] theorem setFeed_failing (c : FeedChannel) (r : FeedRec) : (setFeed c r s).failing = s.failing := rfl
@[simp] theorem setFeed_estop (c : FeedChannel) (r : FeedRec) : (setFeed c r s).estop = s.estop := rfl
@[simp] theorem setFeed_ports (c : FeedChannel) (r : FeedRec) : (setFeed c r s).ports = s.ports := rfl
@[simp] theorem setFeed_authority (c : FeedChannel) (r : FeedRec) : (setFeed c r s).authority = s.authority := rfl
@[simp] theorem setFeed_travel (c : FeedChannel) (r : FeedRec) : (setFeed c r s).travel = s.travel := rfl
@[simp] theorem setFeed_clock (c : FeedChannel) (r : FeedRec) : (setFeed c r s).clock = s.clock := rfl
@[simp] theorem setFeed_clockPhase (c : FeedChannel) (r : FeedRec) : (setFeed c r s).clockPhase = s.clockPhase := rfl
@[simp] theorem setFeed_geometry (c : FeedChannel) (r : FeedRec) : (setFeed c r s).geometry = s.geometry := rfl
@[simp] theorem setFeed_zones (c : FeedChannel) (r : FeedRec) : (setFeed c r s).zones = s.zones := rfl
@[simp] theorem setFeed_health (c : FeedChannel) (r : FeedRec) : (setFeed c r s).health = s.health := rfl
@[simp] theorem setFeed_queue (c : FeedChannel) (r : FeedRec) : (setFeed c r s).queue = s.queue := rfl
@[simp] theorem setFeed_grants (c : FeedChannel) (r : FeedRec) : (setFeed c r s).grants = s.grants := rfl
@[simp] theorem setFeed_sensorReceiver (c : FeedChannel) (r : FeedRec) : (setFeed c r s).sensorReceiver = s.sensorReceiver := rfl
@[simp] theorem setFeed_sensors (c : FeedChannel) (r : FeedRec) : (setFeed c r s).sensors = s.sensors := rfl
@[simp] theorem setFeed_gradeSlots (c : FeedChannel) (r : FeedRec) : (setFeed c r s).gradeSlots = s.gradeSlots := rfl
@[simp] theorem setFeed_slopeSlot (c : FeedChannel) (r : FeedRec) : (setFeed c r s).slopeSlot = s.slopeSlot := rfl
@[simp] theorem setFeed_sides (c : FeedChannel) (r : FeedRec) : (setFeed c r s).sides = s.sides := rfl
@[simp] theorem setFeed_feed (c : FeedChannel) (r : FeedRec) : (setFeed c r s).feed = s.feed.set c r := rfl
@[simp] theorem setFeed_profiler (c : FeedChannel) (r : FeedRec) : (setFeed c r s).profiler = s.profiler := rfl
@[simp] theorem setFeed_mat (c : FeedChannel) (r : FeedRec) : (setFeed c r s).mat = s.mat := rfl
@[simp] theorem setFeed_events (c : FeedChannel) (r : FeedRec) : (setFeed c r s).events = s.events := rfl
@[simp] theorem setFeed_recordsOpen (c : FeedChannel) (r : FeedRec) : (setFeed c r s).recordsOpen = s.recordsOpen := rfl
@[simp] theorem setFeed_job (c : FeedChannel) (r : FeedRec) : (setFeed c r s).job = s.job := rfl
@[simp] theorem setFeed_analog (c : FeedChannel) (r : FeedRec) : (setFeed c r s).analog = s.analog := rfl
@[simp] theorem setFeed_inputs (c : FeedChannel) (r : FeedRec) : (setFeed c r s).inputs = s.inputs := rfl
@[simp] theorem setFeed_store (c : FeedChannel) (r : FeedRec) : (setFeed c r s).store = s.store := rfl
@[simp] theorem setFeed_settings (c : FeedChannel) (r : FeedRec) : (setFeed c r s).settings = s.settings := rfl
@[simp] theorem setFeed_pending (c : FeedChannel) (r : FeedRec) : (setFeed c r s).pending = s.pending := rfl

/-! ### setExtension -/

@[simp] theorem setExtension_mode (d : Side) (r : Extension) : (setExtension d r s).mode = s.mode := rfl
@[simp] theorem setExtension_pavePending (d : Side) (r : Extension) : (setExtension d r s).pavePending = s.pavePending := rfl
@[simp] theorem setExtension_readiness (d : Side) (r : Extension) : (setExtension d r s).readiness = s.readiness := rfl
@[simp] theorem setExtension_failing (d : Side) (r : Extension) : (setExtension d r s).failing = s.failing := rfl
@[simp] theorem setExtension_estop (d : Side) (r : Extension) : (setExtension d r s).estop = s.estop := rfl
@[simp] theorem setExtension_ports (d : Side) (r : Extension) : (setExtension d r s).ports = s.ports := rfl
@[simp] theorem setExtension_authority (d : Side) (r : Extension) : (setExtension d r s).authority = s.authority := rfl
@[simp] theorem setExtension_travel (d : Side) (r : Extension) : (setExtension d r s).travel = s.travel := rfl
@[simp] theorem setExtension_clock (d : Side) (r : Extension) : (setExtension d r s).clock = s.clock := rfl
@[simp] theorem setExtension_clockPhase (d : Side) (r : Extension) : (setExtension d r s).clockPhase = s.clockPhase := rfl
@[simp] theorem setExtension_geometry (d : Side) (r : Extension) : (setExtension d r s).geometry = s.geometry.set d r := rfl
@[simp] theorem setExtension_zones (d : Side) (r : Extension) : (setExtension d r s).zones = s.zones := rfl
@[simp] theorem setExtension_health (d : Side) (r : Extension) : (setExtension d r s).health = s.health := rfl
@[simp] theorem setExtension_queue (d : Side) (r : Extension) : (setExtension d r s).queue = s.queue := rfl
@[simp] theorem setExtension_grants (d : Side) (r : Extension) : (setExtension d r s).grants = s.grants := rfl
@[simp] theorem setExtension_sensorReceiver (d : Side) (r : Extension) : (setExtension d r s).sensorReceiver = s.sensorReceiver := rfl
@[simp] theorem setExtension_sensors (d : Side) (r : Extension) : (setExtension d r s).sensors = s.sensors := rfl
@[simp] theorem setExtension_gradeSlots (d : Side) (r : Extension) : (setExtension d r s).gradeSlots = s.gradeSlots := rfl
@[simp] theorem setExtension_slopeSlot (d : Side) (r : Extension) : (setExtension d r s).slopeSlot = s.slopeSlot := rfl
@[simp] theorem setExtension_sides (d : Side) (r : Extension) : (setExtension d r s).sides = s.sides := rfl
@[simp] theorem setExtension_feed (d : Side) (r : Extension) : (setExtension d r s).feed = s.feed := rfl
@[simp] theorem setExtension_profiler (d : Side) (r : Extension) : (setExtension d r s).profiler = s.profiler := rfl
@[simp] theorem setExtension_mat (d : Side) (r : Extension) : (setExtension d r s).mat = s.mat := rfl
@[simp] theorem setExtension_events (d : Side) (r : Extension) : (setExtension d r s).events = s.events := rfl
@[simp] theorem setExtension_recordsOpen (d : Side) (r : Extension) : (setExtension d r s).recordsOpen = s.recordsOpen := rfl
@[simp] theorem setExtension_job (d : Side) (r : Extension) : (setExtension d r s).job = s.job := rfl
@[simp] theorem setExtension_analog (d : Side) (r : Extension) : (setExtension d r s).analog = s.analog := rfl
@[simp] theorem setExtension_inputs (d : Side) (r : Extension) : (setExtension d r s).inputs = s.inputs := rfl
@[simp] theorem setExtension_store (d : Side) (r : Extension) : (setExtension d r s).store = s.store := rfl
@[simp] theorem setExtension_settings (d : Side) (r : Extension) : (setExtension d r s).settings = s.settings := rfl
@[simp] theorem setExtension_pending (d : Side) (r : Extension) : (setExtension d r s).pending = s.pending := rfl

/-! ### setAnalog -/

@[simp] theorem setAnalog_mode (a : AnalogChannel) (r : Analog) : (setAnalog a r s).mode = s.mode := rfl
@[simp] theorem setAnalog_pavePending (a : AnalogChannel) (r : Analog) : (setAnalog a r s).pavePending = s.pavePending := rfl
@[simp] theorem setAnalog_readiness (a : AnalogChannel) (r : Analog) : (setAnalog a r s).readiness = s.readiness := rfl
@[simp] theorem setAnalog_failing (a : AnalogChannel) (r : Analog) : (setAnalog a r s).failing = s.failing := rfl
@[simp] theorem setAnalog_estop (a : AnalogChannel) (r : Analog) : (setAnalog a r s).estop = s.estop := rfl
@[simp] theorem setAnalog_ports (a : AnalogChannel) (r : Analog) : (setAnalog a r s).ports = s.ports := rfl
@[simp] theorem setAnalog_authority (a : AnalogChannel) (r : Analog) : (setAnalog a r s).authority = s.authority := rfl
@[simp] theorem setAnalog_travel (a : AnalogChannel) (r : Analog) : (setAnalog a r s).travel = s.travel := rfl
@[simp] theorem setAnalog_clock (a : AnalogChannel) (r : Analog) : (setAnalog a r s).clock = s.clock := rfl
@[simp] theorem setAnalog_clockPhase (a : AnalogChannel) (r : Analog) : (setAnalog a r s).clockPhase = s.clockPhase := rfl
@[simp] theorem setAnalog_geometry (a : AnalogChannel) (r : Analog) : (setAnalog a r s).geometry = s.geometry := rfl
@[simp] theorem setAnalog_zones (a : AnalogChannel) (r : Analog) : (setAnalog a r s).zones = s.zones := rfl
@[simp] theorem setAnalog_health (a : AnalogChannel) (r : Analog) : (setAnalog a r s).health = s.health := rfl
@[simp] theorem setAnalog_queue (a : AnalogChannel) (r : Analog) : (setAnalog a r s).queue = s.queue := rfl
@[simp] theorem setAnalog_grants (a : AnalogChannel) (r : Analog) : (setAnalog a r s).grants = s.grants := rfl
@[simp] theorem setAnalog_sensorReceiver (a : AnalogChannel) (r : Analog) : (setAnalog a r s).sensorReceiver = s.sensorReceiver := rfl
@[simp] theorem setAnalog_sensors (a : AnalogChannel) (r : Analog) : (setAnalog a r s).sensors = s.sensors := rfl
@[simp] theorem setAnalog_gradeSlots (a : AnalogChannel) (r : Analog) : (setAnalog a r s).gradeSlots = s.gradeSlots := rfl
@[simp] theorem setAnalog_slopeSlot (a : AnalogChannel) (r : Analog) : (setAnalog a r s).slopeSlot = s.slopeSlot := rfl
@[simp] theorem setAnalog_sides (a : AnalogChannel) (r : Analog) : (setAnalog a r s).sides = s.sides := rfl
@[simp] theorem setAnalog_feed (a : AnalogChannel) (r : Analog) : (setAnalog a r s).feed = s.feed := rfl
@[simp] theorem setAnalog_profiler (a : AnalogChannel) (r : Analog) : (setAnalog a r s).profiler = s.profiler := rfl
@[simp] theorem setAnalog_mat (a : AnalogChannel) (r : Analog) : (setAnalog a r s).mat = s.mat := rfl
@[simp] theorem setAnalog_events (a : AnalogChannel) (r : Analog) : (setAnalog a r s).events = s.events := rfl
@[simp] theorem setAnalog_recordsOpen (a : AnalogChannel) (r : Analog) : (setAnalog a r s).recordsOpen = s.recordsOpen := rfl
@[simp] theorem setAnalog_job (a : AnalogChannel) (r : Analog) : (setAnalog a r s).job = s.job := rfl
@[simp] theorem setAnalog_analog (a : AnalogChannel) (r : Analog) : (setAnalog a r s).analog = s.analog.set a r := rfl
@[simp] theorem setAnalog_inputs (a : AnalogChannel) (r : Analog) : (setAnalog a r s).inputs = s.inputs := rfl
@[simp] theorem setAnalog_store (a : AnalogChannel) (r : Analog) : (setAnalog a r s).store = s.store := rfl
@[simp] theorem setAnalog_settings (a : AnalogChannel) (r : Analog) : (setAnalog a r s).settings = s.settings := rfl
@[simp] theorem setAnalog_pending (a : AnalogChannel) (r : Analog) : (setAnalog a r s).pending = s.pending := rfl

/-! ### setInput -/

@[simp] theorem setInput_mode (i : DigitalInput) (r : DigIn) : (setInput i r s).mode = s.mode := rfl
@[simp] theorem setInput_pavePending (i : DigitalInput) (r : DigIn) : (setInput i r s).pavePending = s.pavePending := rfl
@[simp] theorem setInput_readiness (i : DigitalInput) (r : DigIn) : (setInput i r s).readiness = s.readiness := rfl
@[simp] theorem setInput_failing (i : DigitalInput) (r : DigIn) : (setInput i r s).failing = s.failing := rfl
@[simp] theorem setInput_estop (i : DigitalInput) (r : DigIn) : (setInput i r s).estop = s.estop := rfl
@[simp] theorem setInput_ports (i : DigitalInput) (r : DigIn) : (setInput i r s).ports = s.ports := rfl
@[simp] theorem setInput_authority (i : DigitalInput) (r : DigIn) : (setInput i r s).authority = s.authority := rfl
@[simp] theorem setInput_travel (i : DigitalInput) (r : DigIn) : (setInput i r s).travel = s.travel := rfl
@[simp] theorem setInput_clock (i : DigitalInput) (r : DigIn) : (setInput i r s).clock = s.clock := rfl
@[simp] theorem setInput_clockPhase (i : DigitalInput) (r : DigIn) : (setInput i r s).clockPhase = s.clockPhase := rfl
@[simp] theorem setInput_geometry (i : DigitalInput) (r : DigIn) : (setInput i r s).geometry = s.geometry := rfl
@[simp] theorem setInput_zones (i : DigitalInput) (r : DigIn) : (setInput i r s).zones = s.zones := rfl
@[simp] theorem setInput_health (i : DigitalInput) (r : DigIn) : (setInput i r s).health = s.health := rfl
@[simp] theorem setInput_queue (i : DigitalInput) (r : DigIn) : (setInput i r s).queue = s.queue := rfl
@[simp] theorem setInput_grants (i : DigitalInput) (r : DigIn) : (setInput i r s).grants = s.grants := rfl
@[simp] theorem setInput_sensorReceiver (i : DigitalInput) (r : DigIn) : (setInput i r s).sensorReceiver = s.sensorReceiver := rfl
@[simp] theorem setInput_sensors (i : DigitalInput) (r : DigIn) : (setInput i r s).sensors = s.sensors := rfl
@[simp] theorem setInput_gradeSlots (i : DigitalInput) (r : DigIn) : (setInput i r s).gradeSlots = s.gradeSlots := rfl
@[simp] theorem setInput_slopeSlot (i : DigitalInput) (r : DigIn) : (setInput i r s).slopeSlot = s.slopeSlot := rfl
@[simp] theorem setInput_sides (i : DigitalInput) (r : DigIn) : (setInput i r s).sides = s.sides := rfl
@[simp] theorem setInput_feed (i : DigitalInput) (r : DigIn) : (setInput i r s).feed = s.feed := rfl
@[simp] theorem setInput_profiler (i : DigitalInput) (r : DigIn) : (setInput i r s).profiler = s.profiler := rfl
@[simp] theorem setInput_mat (i : DigitalInput) (r : DigIn) : (setInput i r s).mat = s.mat := rfl
@[simp] theorem setInput_events (i : DigitalInput) (r : DigIn) : (setInput i r s).events = s.events := rfl
@[simp] theorem setInput_recordsOpen (i : DigitalInput) (r : DigIn) : (setInput i r s).recordsOpen = s.recordsOpen := rfl
@[simp] theorem setInput_job (i : DigitalInput) (r : DigIn) : (setInput i r s).job = s.job := rfl
@[simp] theorem setInput_analog (i : DigitalInput) (r : DigIn) : (setInput i r s).analog = s.analog := rfl
@[simp] theorem setInput_inputs (i : DigitalInput) (r : DigIn) : (setInput i r s).inputs = s.inputs.set i r := rfl
@[simp] theorem setInput_store (i : DigitalInput) (r : DigIn) : (setInput i r s).store = s.store := rfl
@[simp] theorem setInput_settings (i : DigitalInput) (r : DigIn) : (setInput i r s).settings = s.settings := rfl
@[simp] theorem setInput_pending (i : DigitalInput) (r : DigIn) : (setInput i r s).pending = s.pending := rfl

/-! ### setSettings -/

@[simp] theorem setSettings_mode (f : Settings) : (setSettings f s).mode = s.mode := rfl
@[simp] theorem setSettings_pavePending (f : Settings) : (setSettings f s).pavePending = s.pavePending := rfl
@[simp] theorem setSettings_readiness (f : Settings) : (setSettings f s).readiness = s.readiness := rfl
@[simp] theorem setSettings_failing (f : Settings) : (setSettings f s).failing = s.failing := rfl
@[simp] theorem setSettings_estop (f : Settings) : (setSettings f s).estop = s.estop := rfl
@[simp] theorem setSettings_ports (f : Settings) : (setSettings f s).ports = s.ports := rfl
@[simp] theorem setSettings_authority (f : Settings) : (setSettings f s).authority = s.authority := rfl
@[simp] theorem setSettings_travel (f : Settings) : (setSettings f s).travel = s.travel := rfl
@[simp] theorem setSettings_clock (f : Settings) : (setSettings f s).clock = s.clock := rfl
@[simp] theorem setSettings_clockPhase (f : Settings) : (setSettings f s).clockPhase = s.clockPhase := rfl
@[simp] theorem setSettings_geometry (f : Settings) : (setSettings f s).geometry = s.geometry := rfl
@[simp] theorem setSettings_zones (f : Settings) : (setSettings f s).zones = s.zones := rfl
@[simp] theorem setSettings_health (f : Settings) : (setSettings f s).health = s.health := rfl
@[simp] theorem setSettings_queue (f : Settings) : (setSettings f s).queue = s.queue := rfl
@[simp] theorem setSettings_grants (f : Settings) : (setSettings f s).grants = s.grants := rfl
@[simp] theorem setSettings_sensorReceiver (f : Settings) : (setSettings f s).sensorReceiver = s.sensorReceiver := rfl
@[simp] theorem setSettings_sensors (f : Settings) : (setSettings f s).sensors = s.sensors := rfl
@[simp] theorem setSettings_gradeSlots (f : Settings) : (setSettings f s).gradeSlots = s.gradeSlots := rfl
@[simp] theorem setSettings_slopeSlot (f : Settings) : (setSettings f s).slopeSlot = s.slopeSlot := rfl
@[simp] theorem setSettings_sides (f : Settings) : (setSettings f s).sides = s.sides := rfl
@[simp] theorem setSettings_feed (f : Settings) : (setSettings f s).feed = s.feed := rfl
@[simp] theorem setSettings_profiler (f : Settings) : (setSettings f s).profiler = s.profiler := rfl
@[simp] theorem setSettings_mat (f : Settings) : (setSettings f s).mat = s.mat := rfl
@[simp] theorem setSettings_events (f : Settings) : (setSettings f s).events = s.events := rfl
@[simp] theorem setSettings_recordsOpen (f : Settings) : (setSettings f s).recordsOpen = s.recordsOpen := rfl
@[simp] theorem setSettings_job (f : Settings) : (setSettings f s).job = s.job := rfl
@[simp] theorem setSettings_analog (f : Settings) : (setSettings f s).analog = s.analog := rfl
@[simp] theorem setSettings_inputs (f : Settings) : (setSettings f s).inputs = s.inputs := rfl
@[simp] theorem setSettings_store (f : Settings) : (setSettings f s).store = s.store := rfl
@[simp] theorem setSettings_settings (f : Settings) : (setSettings f s).settings = f := rfl
@[simp] theorem setSettings_pending (f : Settings) : (setSettings f s).pending = s.pending := rfl

/-! ### setGradeSlot -/

@[simp] theorem setGradeSlot_mode (d : Side) (k : GradePlace) (r : GradeSlotRec) : (setGradeSlot d k r s).mode = s.mode := rfl
@[simp] theorem setGradeSlot_pavePending (d : Side) (k : GradePlace) (r : GradeSlotRec) : (setGradeSlot d k r s).pavePending = s.pavePending := rfl
@[simp] theorem setGradeSlot_readiness (d : Side) (k : GradePlace) (r : GradeSlotRec) : (setGradeSlot d k r s).readiness = s.readiness := rfl
@[simp] theorem setGradeSlot_failing (d : Side) (k : GradePlace) (r : GradeSlotRec) : (setGradeSlot d k r s).failing = s.failing := rfl
@[simp] theorem setGradeSlot_estop (d : Side) (k : GradePlace) (r : GradeSlotRec) : (setGradeSlot d k r s).estop = s.estop := rfl
@[simp] theorem setGradeSlot_ports (d : Side) (k : GradePlace) (r : GradeSlotRec) : (setGradeSlot d k r s).ports = s.ports := rfl
@[simp] theorem setGradeSlot_authority (d : Side) (k : GradePlace) (r : GradeSlotRec) : (setGradeSlot d k r s).authority = s.authority := rfl
@[simp] theorem setGradeSlot_travel (d : Side) (k : GradePlace) (r : GradeSlotRec) : (setGradeSlot d k r s).travel = s.travel := rfl
@[simp] theorem setGradeSlot_clock (d : Side) (k : GradePlace) (r : GradeSlotRec) : (setGradeSlot d k r s).clock = s.clock := rfl
@[simp] theorem setGradeSlot_clockPhase (d : Side) (k : GradePlace) (r : GradeSlotRec) : (setGradeSlot d k r s).clockPhase = s.clockPhase := rfl
@[simp] theorem setGradeSlot_geometry (d : Side) (k : GradePlace) (r : GradeSlotRec) : (setGradeSlot d k r s).geometry = s.geometry := rfl
@[simp] theorem setGradeSlot_zones (d : Side) (k : GradePlace) (r : GradeSlotRec) : (setGradeSlot d k r s).zones = s.zones := rfl
@[simp] theorem setGradeSlot_health (d : Side) (k : GradePlace) (r : GradeSlotRec) : (setGradeSlot d k r s).health = s.health := rfl
@[simp] theorem setGradeSlot_queue (d : Side) (k : GradePlace) (r : GradeSlotRec) : (setGradeSlot d k r s).queue = s.queue := rfl
@[simp] theorem setGradeSlot_grants (d : Side) (k : GradePlace) (r : GradeSlotRec) : (setGradeSlot d k r s).grants = s.grants := rfl
@[simp] theorem setGradeSlot_sensorReceiver (d : Side) (k : GradePlace) (r : GradeSlotRec) : (setGradeSlot d k r s).sensorReceiver = s.sensorReceiver := rfl
@[simp] theorem setGradeSlot_sensors (d : Side) (k : GradePlace) (r : GradeSlotRec) : (setGradeSlot d k r s).sensors = s.sensors := rfl
@[simp] theorem setGradeSlot_gradeSlots (d : Side) (k : GradePlace) (r : GradeSlotRec) : (setGradeSlot d k r s).gradeSlots = s.gradeSlots.set d ((s.gradeSlots.get d).set k r) := rfl
@[simp] theorem setGradeSlot_slopeSlot (d : Side) (k : GradePlace) (r : GradeSlotRec) : (setGradeSlot d k r s).slopeSlot = s.slopeSlot := rfl
@[simp] theorem setGradeSlot_sides (d : Side) (k : GradePlace) (r : GradeSlotRec) : (setGradeSlot d k r s).sides = s.sides := rfl
@[simp] theorem setGradeSlot_feed (d : Side) (k : GradePlace) (r : GradeSlotRec) : (setGradeSlot d k r s).feed = s.feed := rfl
@[simp] theorem setGradeSlot_profiler (d : Side) (k : GradePlace) (r : GradeSlotRec) : (setGradeSlot d k r s).profiler = s.profiler := rfl
@[simp] theorem setGradeSlot_mat (d : Side) (k : GradePlace) (r : GradeSlotRec) : (setGradeSlot d k r s).mat = s.mat := rfl
@[simp] theorem setGradeSlot_events (d : Side) (k : GradePlace) (r : GradeSlotRec) : (setGradeSlot d k r s).events = s.events := rfl
@[simp] theorem setGradeSlot_recordsOpen (d : Side) (k : GradePlace) (r : GradeSlotRec) : (setGradeSlot d k r s).recordsOpen = s.recordsOpen := rfl
@[simp] theorem setGradeSlot_job (d : Side) (k : GradePlace) (r : GradeSlotRec) : (setGradeSlot d k r s).job = s.job := rfl
@[simp] theorem setGradeSlot_analog (d : Side) (k : GradePlace) (r : GradeSlotRec) : (setGradeSlot d k r s).analog = s.analog := rfl
@[simp] theorem setGradeSlot_inputs (d : Side) (k : GradePlace) (r : GradeSlotRec) : (setGradeSlot d k r s).inputs = s.inputs := rfl
@[simp] theorem setGradeSlot_store (d : Side) (k : GradePlace) (r : GradeSlotRec) : (setGradeSlot d k r s).store = s.store := rfl
@[simp] theorem setGradeSlot_settings (d : Side) (k : GradePlace) (r : GradeSlotRec) : (setGradeSlot d k r s).settings = s.settings := rfl
@[simp] theorem setGradeSlot_pending (d : Side) (k : GradePlace) (r : GradeSlotRec) : (setGradeSlot d k r s).pending = s.pending := rfl

/-! ### setTravel -/

@[simp] theorem setTravel_mode (t : Travel) : (setTravel t s).mode = s.mode := rfl
@[simp] theorem setTravel_pavePending (t : Travel) : (setTravel t s).pavePending = s.pavePending := rfl
@[simp] theorem setTravel_readiness (t : Travel) : (setTravel t s).readiness = s.readiness := rfl
@[simp] theorem setTravel_failing (t : Travel) : (setTravel t s).failing = s.failing := rfl
@[simp] theorem setTravel_estop (t : Travel) : (setTravel t s).estop = s.estop := rfl
@[simp] theorem setTravel_ports (t : Travel) : (setTravel t s).ports = s.ports := rfl
@[simp] theorem setTravel_authority (t : Travel) : (setTravel t s).authority = s.authority := rfl
@[simp] theorem setTravel_travel (t : Travel) : (setTravel t s).travel = t := rfl
@[simp] theorem setTravel_clock (t : Travel) : (setTravel t s).clock = s.clock := rfl
@[simp] theorem setTravel_clockPhase (t : Travel) : (setTravel t s).clockPhase = s.clockPhase := rfl
@[simp] theorem setTravel_geometry (t : Travel) : (setTravel t s).geometry = s.geometry := rfl
@[simp] theorem setTravel_zones (t : Travel) : (setTravel t s).zones = s.zones := rfl
@[simp] theorem setTravel_health (t : Travel) : (setTravel t s).health = s.health := rfl
@[simp] theorem setTravel_queue (t : Travel) : (setTravel t s).queue = s.queue := rfl
@[simp] theorem setTravel_grants (t : Travel) : (setTravel t s).grants = s.grants := rfl
@[simp] theorem setTravel_sensorReceiver (t : Travel) : (setTravel t s).sensorReceiver = s.sensorReceiver := rfl
@[simp] theorem setTravel_sensors (t : Travel) : (setTravel t s).sensors = s.sensors := rfl
@[simp] theorem setTravel_gradeSlots (t : Travel) : (setTravel t s).gradeSlots = s.gradeSlots := rfl
@[simp] theorem setTravel_slopeSlot (t : Travel) : (setTravel t s).slopeSlot = s.slopeSlot := rfl
@[simp] theorem setTravel_sides (t : Travel) : (setTravel t s).sides = s.sides := rfl
@[simp] theorem setTravel_feed (t : Travel) : (setTravel t s).feed = s.feed := rfl
@[simp] theorem setTravel_profiler (t : Travel) : (setTravel t s).profiler = s.profiler := rfl
@[simp] theorem setTravel_mat (t : Travel) : (setTravel t s).mat = s.mat := rfl
@[simp] theorem setTravel_events (t : Travel) : (setTravel t s).events = s.events := rfl
@[simp] theorem setTravel_recordsOpen (t : Travel) : (setTravel t s).recordsOpen = s.recordsOpen := rfl
@[simp] theorem setTravel_job (t : Travel) : (setTravel t s).job = s.job := rfl
@[simp] theorem setTravel_analog (t : Travel) : (setTravel t s).analog = s.analog := rfl
@[simp] theorem setTravel_inputs (t : Travel) : (setTravel t s).inputs = s.inputs := rfl
@[simp] theorem setTravel_store (t : Travel) : (setTravel t s).store = s.store := rfl
@[simp] theorem setTravel_settings (t : Travel) : (setTravel t s).settings = s.settings := rfl
@[simp] theorem setTravel_pending (t : Travel) : (setTravel t s).pending = s.pending := rfl

/-! ### setProfiler -/

@[simp] theorem setProfiler_mode (p : Profiler) : (setProfiler p s).mode = s.mode := rfl
@[simp] theorem setProfiler_pavePending (p : Profiler) : (setProfiler p s).pavePending = s.pavePending := rfl
@[simp] theorem setProfiler_readiness (p : Profiler) : (setProfiler p s).readiness = s.readiness := rfl
@[simp] theorem setProfiler_failing (p : Profiler) : (setProfiler p s).failing = s.failing := rfl
@[simp] theorem setProfiler_estop (p : Profiler) : (setProfiler p s).estop = s.estop := rfl
@[simp] theorem setProfiler_ports (p : Profiler) : (setProfiler p s).ports = s.ports := rfl
@[simp] theorem setProfiler_authority (p : Profiler) : (setProfiler p s).authority = s.authority := rfl
@[simp] theorem setProfiler_travel (p : Profiler) : (setProfiler p s).travel = s.travel := rfl
@[simp] theorem setProfiler_clock (p : Profiler) : (setProfiler p s).clock = s.clock := rfl
@[simp] theorem setProfiler_clockPhase (p : Profiler) : (setProfiler p s).clockPhase = s.clockPhase := rfl
@[simp] theorem setProfiler_geometry (p : Profiler) : (setProfiler p s).geometry = s.geometry := rfl
@[simp] theorem setProfiler_zones (p : Profiler) : (setProfiler p s).zones = s.zones := rfl
@[simp] theorem setProfiler_health (p : Profiler) : (setProfiler p s).health = s.health := rfl
@[simp] theorem setProfiler_queue (p : Profiler) : (setProfiler p s).queue = s.queue := rfl
@[simp] theorem setProfiler_grants (p : Profiler) : (setProfiler p s).grants = s.grants := rfl
@[simp] theorem setProfiler_sensorReceiver (p : Profiler) : (setProfiler p s).sensorReceiver = s.sensorReceiver := rfl
@[simp] theorem setProfiler_sensors (p : Profiler) : (setProfiler p s).sensors = s.sensors := rfl
@[simp] theorem setProfiler_gradeSlots (p : Profiler) : (setProfiler p s).gradeSlots = s.gradeSlots := rfl
@[simp] theorem setProfiler_slopeSlot (p : Profiler) : (setProfiler p s).slopeSlot = s.slopeSlot := rfl
@[simp] theorem setProfiler_sides (p : Profiler) : (setProfiler p s).sides = s.sides := rfl
@[simp] theorem setProfiler_feed (p : Profiler) : (setProfiler p s).feed = s.feed := rfl
@[simp] theorem setProfiler_profiler (p : Profiler) : (setProfiler p s).profiler = p := rfl
@[simp] theorem setProfiler_mat (p : Profiler) : (setProfiler p s).mat = s.mat := rfl
@[simp] theorem setProfiler_events (p : Profiler) : (setProfiler p s).events = s.events := rfl
@[simp] theorem setProfiler_recordsOpen (p : Profiler) : (setProfiler p s).recordsOpen = s.recordsOpen := rfl
@[simp] theorem setProfiler_job (p : Profiler) : (setProfiler p s).job = s.job := rfl
@[simp] theorem setProfiler_analog (p : Profiler) : (setProfiler p s).analog = s.analog := rfl
@[simp] theorem setProfiler_inputs (p : Profiler) : (setProfiler p s).inputs = s.inputs := rfl
@[simp] theorem setProfiler_store (p : Profiler) : (setProfiler p s).store = s.store := rfl
@[simp] theorem setProfiler_settings (p : Profiler) : (setProfiler p s).settings = s.settings := rfl
@[simp] theorem setProfiler_pending (p : Profiler) : (setProfiler p s).pending = s.pending := rfl

/-! ### setHolder -/

@[simp] theorem setHolder_mode (f : Function) (h : Option Port) : (setHolder f h s).mode = s.mode := rfl
@[simp] theorem setHolder_pavePending (f : Function) (h : Option Port) : (setHolder f h s).pavePending = s.pavePending := rfl
@[simp] theorem setHolder_readiness (f : Function) (h : Option Port) : (setHolder f h s).readiness = s.readiness := rfl
@[simp] theorem setHolder_failing (f : Function) (h : Option Port) : (setHolder f h s).failing = s.failing := rfl
@[simp] theorem setHolder_estop (f : Function) (h : Option Port) : (setHolder f h s).estop = s.estop := rfl
@[simp] theorem setHolder_ports (f : Function) (h : Option Port) : (setHolder f h s).ports = s.ports := rfl
@[simp] theorem setHolder_authority (f : Function) (h : Option Port) : (setHolder f h s).authority = setHolderIn s.authority f h := rfl
@[simp] theorem setHolder_travel (f : Function) (h : Option Port) : (setHolder f h s).travel = s.travel := rfl
@[simp] theorem setHolder_clock (f : Function) (h : Option Port) : (setHolder f h s).clock = s.clock := rfl
@[simp] theorem setHolder_clockPhase (f : Function) (h : Option Port) : (setHolder f h s).clockPhase = s.clockPhase := rfl
@[simp] theorem setHolder_geometry (f : Function) (h : Option Port) : (setHolder f h s).geometry = s.geometry := rfl
@[simp] theorem setHolder_zones (f : Function) (h : Option Port) : (setHolder f h s).zones = s.zones := rfl
@[simp] theorem setHolder_health (f : Function) (h : Option Port) : (setHolder f h s).health = s.health := rfl
@[simp] theorem setHolder_queue (f : Function) (h : Option Port) : (setHolder f h s).queue = s.queue := rfl
@[simp] theorem setHolder_grants (f : Function) (h : Option Port) : (setHolder f h s).grants = s.grants := rfl
@[simp] theorem setHolder_sensorReceiver (f : Function) (h : Option Port) : (setHolder f h s).sensorReceiver = s.sensorReceiver := rfl
@[simp] theorem setHolder_sensors (f : Function) (h : Option Port) : (setHolder f h s).sensors = s.sensors := rfl
@[simp] theorem setHolder_gradeSlots (f : Function) (h : Option Port) : (setHolder f h s).gradeSlots = s.gradeSlots := rfl
@[simp] theorem setHolder_slopeSlot (f : Function) (h : Option Port) : (setHolder f h s).slopeSlot = s.slopeSlot := rfl
@[simp] theorem setHolder_sides (f : Function) (h : Option Port) : (setHolder f h s).sides = s.sides := rfl
@[simp] theorem setHolder_feed (f : Function) (h : Option Port) : (setHolder f h s).feed = s.feed := rfl
@[simp] theorem setHolder_profiler (f : Function) (h : Option Port) : (setHolder f h s).profiler = s.profiler := rfl
@[simp] theorem setHolder_mat (f : Function) (h : Option Port) : (setHolder f h s).mat = s.mat := rfl
@[simp] theorem setHolder_events (f : Function) (h : Option Port) : (setHolder f h s).events = s.events := rfl
@[simp] theorem setHolder_recordsOpen (f : Function) (h : Option Port) : (setHolder f h s).recordsOpen = s.recordsOpen := rfl
@[simp] theorem setHolder_job (f : Function) (h : Option Port) : (setHolder f h s).job = s.job := rfl
@[simp] theorem setHolder_analog (f : Function) (h : Option Port) : (setHolder f h s).analog = s.analog := rfl
@[simp] theorem setHolder_inputs (f : Function) (h : Option Port) : (setHolder f h s).inputs = s.inputs := rfl
@[simp] theorem setHolder_store (f : Function) (h : Option Port) : (setHolder f h s).store = s.store := rfl
@[simp] theorem setHolder_settings (f : Function) (h : Option Port) : (setHolder f h s).settings = s.settings := rfl
@[simp] theorem setHolder_pending (f : Function) (h : Option Port) : (setHolder f h s).pending = s.pending := rfl

end Sys2Proof.Machine
end

