-- ==== Sys2Proof/Laws/Frames.lean ====
section
/-! SUPPORT. What each shared operation leaves alone. A `hide` function overwrites the fields that a family of operations may write; an
operation's frame lemma says that the state it gives and the state it was given agree once those fields are hidden, so that every other
field is read off by `congrArg`. -/

namespace Sys2Proof.Machine

open Sys2Proof

/-! ### What is hidden -/

/-- The EVENT area. -/
def hideEvents (s : State) : State := { s with events := resetArea }

/-- The station ports. -/
def hidePorts (s : State) : State := { s with ports := PerPort.all resetPort }

/-- What the heating controller and the allocator write. -/
def hideHeat (s : State) : State :=
  { s with zones := PerZone.all resetZone, health := PerZone.all {}, queue := [], grants := [], events := resetArea }

/-- What the levelling sides write outside a round. -/
def hideSides (s : State) : State := { s with sides := PerSide.all resetSide, profiler := resetProfiler, events := resetArea }

/-- What the feed controller writes. -/
def hideFeeds (s : State) : State := { s with feed := PerFeed.all resetFeed, profiler := resetProfiler, events := resetArea }

/-- What the odometer and the profiler write. -/
def hideTravel (s : State) : State :=
  { s with travel := resetTravel, profiler := resetProfiler, mat := resetArea, events := resetArea }

/-- What the geometry unit writes, with the extension zone's reaction. -/
def hideGeometry (s : State) : State :=
  { hideHeat s with geometry := PerSide.all resetExtension, profiler := resetProfiler }

/-- What a mode change or a readiness evaluation writes, with every block's reaction. -/
def hideReaction (s : State) : State :=
  { hideHeat s with
    mode := .starting, pavePending := false, readiness := false, failing := 0, travel := resetTravel
    sides := PerSide.all resetSide, feed := PerFeed.all resetFeed, profiler := resetProfiler }

/-- What a sensor round writes. -/
def hideRound (s : State) : State :=
  { s with
    sensors := { roundCount := 0, staleRounds := 0, round := none, sinceStart := 0 }
    gradeSlots := PerSide.all (PerPlace.all resetGradeSlot), slopeSlot := { reading := 0, cls := .none }
    sides := PerSide.all resetSide, ports := PerPort.all resetPort, profiler := resetProfiler, events := resetArea }

/-! ### Records -/

theorem hideEvents_appendEvent (o : Origin) (e : Event) (s : State) : hideEvents (appendEvent o e s) = hideEvents s := by
  unfold appendEvent; split <;> rfl

theorem hideHeat_of_events {s t : State} (h : hideEvents t = hideEvents s) : hideHeat t = hideHeat s := by
  have e := congrArg hideHeat h; exact e

theorem hideSides_of_events {s t : State} (h : hideEvents t = hideEvents s) : hideSides t = hideSides s := by
  have e := congrArg hideSides h; exact e

theorem hideFeeds_of_events {s t : State} (h : hideEvents t = hideEvents s) : hideFeeds t = hideFeeds s := by
  have e := congrArg hideFeeds h; exact e

theorem hideTravel_of_events {s t : State} (h : hideEvents t = hideEvents s) : hideTravel t = hideTravel s := by
  have e := congrArg hideTravel h; exact e

theorem hideReaction_of_heat {s t : State} (h : hideHeat t = hideHeat s) : hideReaction t = hideReaction s := by
  have e := congrArg hideReaction h; exact e

theorem hideReaction_of_sides {s t : State} (h : hideSides t = hideSides s) : hideReaction t = hideReaction s := by
  have e := congrArg hideReaction h; exact e

theorem hideReaction_of_feeds {s t : State} (h : hideFeeds t = hideFeeds s) : hideReaction t = hideReaction s := by
  have e := congrArg hideReaction h; exact e

theorem hideReaction_of_events {s t : State} (h : hideEvents t = hideEvents s) : hideReaction t = hideReaction s := by
  have e := congrArg hideReaction h; exact e

theorem hideGeometry_of_heat {s t : State} (h : hideHeat t = hideHeat s) : hideGeometry t = hideGeometry s := by
  have e := congrArg hideGeometry h; exact e

theorem hideRound_of_sides {s t : State} (h : hideSides t = hideSides s) : hideRound t = hideRound s := by
  have e := congrArg hideRound h; exact e

@[simp] theorem hideHeat_appendEvent (o : Origin) (e : Event) (s : State) : hideHeat (appendEvent o e s) = hideHeat s :=
  hideHeat_of_events (hideEvents_appendEvent o e s)

@[simp] theorem hideSides_appendEvent (o : Origin) (e : Event) (s : State) : hideSides (appendEvent o e s) = hideSides s :=
  hideSides_of_events (hideEvents_appendEvent o e s)

@[simp] theorem hideFeeds_appendEvent (o : Origin) (e : Event) (s : State) : hideFeeds (appendEvent o e s) = hideFeeds s :=
  hideFeeds_of_events (hideEvents_appendEvent o e s)

@[simp] theorem hideTravel_appendEvent (o : Origin) (e : Event) (s : State) : hideTravel (appendEvent o e s) = hideTravel s :=
  hideTravel_of_events (hideEvents_appendEvent o e s)

@[simp] theorem hideReaction_appendEvent (o : Origin) (e : Event) (s : State) :
    hideReaction (appendEvent o e s) = hideReaction s :=
  hideReaction_of_events (hideEvents_appendEvent o e s)

@[simp] theorem hideGeometry_appendEvent (o : Origin) (e : Event) (s : State) :
    hideGeometry (appendEvent o e s) = hideGeometry s := hideGeometry_of_heat (hideHeat_appendEvent o e s)

@[simp] theorem hideRound_appendEvent (o : Origin) (e : Event) (s : State) : hideRound (appendEvent o e s) = hideRound s :=
  hideRound_of_sides (hideSides_appendEvent o e s)

theorem hideTravel_appendProfile (b : Nat → ProfileRecord) (s : State) : hideTravel (appendProfile b s) = hideTravel s := by
  unfold appendProfile noteMatLoss
  split
  · split
    · exact hideTravel_appendEvent _ _ _
    · rfl
  · rfl

/-! ### Heating and budget -/

@[simp] theorem hideHeat_setZone (z : Zone) (r : ZoneRec) (s : State) : hideHeat (setZone z r s) = hideHeat s := rfl

@[simp] theorem hideHeat_setHealth (z : Zone) (h : Health) (s : State) : hideHeat (setHealth z h s) = hideHeat s := rfl

theorem hideHeat_grantHead (s : State) : hideHeat (grantHead s) = hideHeat s := by
  unfold grantHead; split <;> rfl

theorem hideHeat_allocateUpTo (n : Nat) (s : State) : hideHeat (allocateUpTo n s) = hideHeat s := by
  induction n generalizing s with
  | zero => rfl
  | succ n ih => unfold allocateUpTo; split; · rw [ih, hideHeat_grantHead]
                 · rfl

@[simp] theorem hideHeat_allocate (s : State) : hideHeat (allocate s) = hideHeat s := hideHeat_allocateUpTo _ _

@[simp] theorem hideHeat_leaveTo (z : Zone) (t : ZoneState) (s : State) : hideHeat (leaveTo z t s) = hideHeat s := by
  unfold leaveTo; dsimp only
  split
  · exact hideHeat_allocate _
  · split
    · exact hideHeat_allocate _
    · rfl
  · rfl

@[simp] theorem hideHeat_joinQueue (z : Zone) (s : State) : hideHeat (joinQueue z s) = hideHeat s := by
  unfold joinQueue; dsimp only; split
  · exact hideHeat_allocate _
  · rfl

@[simp] theorem hideHeat_judgeDemand (z : Zone) (s : State) : hideHeat (judgeDemand z s) = hideHeat s := by
  unfold judgeDemand; split <;> simp

@[simp] theorem hideHeat_noteFault (z : Zone) (k : HealthFault) (s : State) : hideHeat (noteFault z k s) = hideHeat s := rfl

@[simp] theorem hideHeat_enterOvertemp (z : Zone) (s : State) : hideHeat (enterOvertemp z s) = hideHeat s := by
  simp [enterOvertemp]

@[simp] theorem hideHeat_enterSensorFault (z : Zone) (s : State) : hideHeat (enterSensorFault z s) = hideHeat s := by
  simp [enterSensorFault]

@[simp] theorem hideHeat_elementFail (z : Zone) (s : State) : hideHeat (elementFail z s) = hideHeat s := by
  simp [elementFail, setLatch]

@[simp] theorem hideHeat_evaluateByState (z : Zone) (s : State) : hideHeat (evaluateByState z s) = hideHeat s := by
  unfold evaluateByState; dsimp only; split <;> (try split) <;> simp

@[simp] theorem hideHeat_evaluateZone (z : Zone) (s : State) : hideHeat (evaluateZone z s) = hideHeat s := by
  unfold evaluateZone; dsimp only; repeat' split
  all_goals simp

@[simp] theorem hideHeat_reselect (z : Zone) (s : State) : hideHeat (reselect z s) = hideHeat s := by
  unfold reselect; dsimp only; split <;> simp

@[simp] theorem hideHeat_enterHeating (z : Zone) (s : State) : hideHeat (enterHeating z s) = hideHeat s := by
  unfold enterHeating; dsimp only; repeat' split
  all_goals simp

theorem hideHeat_eachZone (f : Zone → State → State) (h : ∀ z s, hideHeat (f z s) = hideHeat s) (s : State) :
    hideHeat (eachZone f s) = hideHeat s := by
  unfold eachZone
  induction allZones generalizing s with
  | nil => rfl
  | cons z zs ih => rw [List.foldl_cons, ih, h]

@[simp] theorem hideHeat_zonesSeeMode (old : Mode) (s : State) : hideHeat (zonesSeeMode old s) = hideHeat s := by
  unfold zonesSeeMode; repeat' split
  · exact hideHeat_eachZone _ hideHeat_reselect _
  · exact hideHeat_eachZone _ hideHeat_enterHeating _
  · rfl
  · rfl

@[simp] theorem hideHeat_zoneConversion (z : Zone) (s : State) : hideHeat (zoneConversion z s) = hideHeat s := by
  unfold zoneConversion trackMaximum; dsimp only; split <;> simp

@[simp] theorem hideHeat_checkDelayEnd (z : Zone) (s : State) : hideHeat (checkDelayEnd z s) = hideHeat s := by
  unfold checkDelayEnd; split <;> simp

@[simp] theorem hideHeat_feedbackChange (z : Zone) (s : State) : hideHeat (feedbackChange z s) = hideHeat s := by
  unfold feedbackChange; dsimp only; split <;> simp

@[simp] theorem hideHeat_expireSlice (z : Zone) (s : State) : hideHeat (expireSlice z s) = hideHeat s := by
  unfold expireSlice rotateGrant renewGrant; dsimp only; repeat' split
  all_goals first | rfl | exact hideHeat_allocate _

@[simp] theorem hideHeat_countMinute (z : Zone) (s : State) : hideHeat (countMinute z s) = hideHeat s := by
  rfl

@[simp] theorem hideHeat_clearLatch (z : Zone) (p : Port) (s : State) : hideHeat (clearLatch z p s) = hideHeat s := by
  unfold clearLatch setLatch; dsimp only; split <;> simp

@[simp] theorem hideHeat_clearHealthOf (z : Option Zone) (p : Port) (s : State) :
    hideHeat (clearHealthOf z p s) = hideHeat s := by
  unfold clearHealthOf; cases z <;> simp only [hideHeat_appendEvent] <;> rfl

/-! ### Levelling sides -/

@[simp] theorem hideSides_setSide (d : Side) (r : SideRec) (s : State) : hideSides (setSide d r s) = hideSides s := rfl

@[simp] theorem hideSides_raiseFlags (s : State) : hideSides (raiseFlags s) = hideSides s := rfl

@[simp] theorem hideSides_endGradeJog (d : Side) (c : GradeEnd) (s : State) : hideSides (endGradeJog d c s) = hideSides s := by
  unfold endGradeJog; dsimp only; split <;> rfl

@[simp] theorem hideSides_startGradeJog (d : Side) (k : GradeDir) (n : Nat) (s : State) :
    hideSides (startGradeJog d k n s) = hideSides s := by
  unfold startGradeJog; simp

@[simp] theorem hideSides_enterSideState (d : Side) (t : SideState) (s : State) :
    hideSides (enterSideState d t s) = hideSides s := by
  unfold enterSideState; dsimp only; repeat' split
  all_goals simp

@[simp] theorem hideSides_settleSide (d : Side) (s : State) : hideSides (settleSide d s) = hideSides s := by
  unfold settleSide; dsimp only; split <;> simp

@[simp] theorem hideSides_sidesSeeRun (b : Bool) (s : State) : hideSides (sidesSeeRun b s) = hideSides s := by
  unfold sidesSeeRun; split <;> simp

@[simp] theorem hideSides_forceSideOff (c : GradeEnd) (d : Side) (s : State) : hideSides (forceSideOff c d s) = hideSides s := by
  unfold forceSideOff; dsimp only; split <;> simp

@[simp] theorem hideSides_sidesSeeMode (old : Mode) (run e : Bool) (s : State) :
    hideSides (sidesSeeMode old run e s) = hideSides s := by
  unfold sidesSeeMode forceSidesOff; split <;> simp

@[simp] theorem hideSides_changeSide (d : Side) (t : OperationTarget) (s : State) :
    hideSides (changeSide d t s) = hideSides s := by
  unfold changeSide; cases t <;> simp

@[simp] theorem hideSides_evaluateSide (d : Side) (s : State) : hideSides (evaluateSide d s) = hideSides s := by
  have hm : hideSides (measureSide d s) = hideSides s := rfl
  have hs := hideSides_settleSide d (measureSide d s)
  unfold evaluateSide driveSide; dsimp only; split
  · exact hs.trans hm
  · exact hs.trans hm

/-! ### Feed channels -/

@[simp] theorem hideFeeds_setFeed (c : FeedChannel) (r : FeedRec) (s : State) : hideFeeds (setFeed c r s) = hideFeeds s := rfl

@[simp] theorem hideFeeds_raiseFlags (s : State) : hideFeeds (raiseFlags s) = hideFeeds s := rfl

@[simp] theorem hideFeeds_runAuto (c : FeedChannel) (s : State) : hideFeeds (runAuto c s) = hideFeeds s := rfl

@[simp] theorem hideFeeds_endFeedJog (k : FeedEnd) (c : FeedChannel) (s : State) : hideFeeds (endFeedJog k c s) = hideFeeds s := by
  unfold endFeedJog; dsimp only; split <;> rfl

@[simp] theorem hideFeeds_startFeedJog (c : FeedChannel) (n : Nat) (s : State) :
    hideFeeds (startFeedJog c n s) = hideFeeds s := by
  unfold startFeedJog; simp

@[simp] theorem hideFeeds_enterSensorHold (c : FeedChannel) (v : Int) (s : State) :
    hideFeeds (enterSensorHold c v s) = hideFeeds s := by
  unfold enterSensorHold; simp

@[simp] theorem hideFeeds_settleFeed (c : FeedChannel) (s : State) : hideFeeds (settleFeed c s) = hideFeeds s := by
  unfold settleFeed; repeat' split
  all_goals simp

@[simp] theorem hideFeeds_settleEngaged (c : FeedChannel) (s : State) : hideFeeds (settleEngaged c s) = hideFeeds s := by
  unfold settleEngaged; split <;> simp

@[simp] theorem hideFeeds_forceFeedOff (k : FeedEnd) (c : FeedChannel) (s : State) :
    hideFeeds (forceFeedOff k c s) = hideFeeds s := by
  unfold forceFeedOff; simp

theorem hideFeeds_eachFeed (f : FeedChannel → State → State) (h : ∀ c s, hideFeeds (f c s) = hideFeeds s) (s : State) :
    hideFeeds (eachFeed f s) = hideFeeds s := by
  unfold eachFeed
  induction allFeed generalizing s with
  | nil => rfl
  | cons c cs ih => rw [List.foldl_cons, ih, h]

@[simp] theorem hideFeeds_feedsSeeMode (old : Mode) (k : FeedEnd) (s : State) :
    hideFeeds (feedsSeeMode old k s) = hideFeeds s := by
  unfold feedsSeeMode; dsimp only; repeat' split
  all_goals
    simp only [hideFeeds_eachFeed _ (hideFeeds_forceFeedOff _), hideFeeds_eachFeed _ hideFeeds_settleEngaged,
      hideFeeds_eachFeed _ (hideFeeds_endFeedJog _)]

@[simp] theorem hideFeeds_feedConversion (c : FeedChannel) (s : State) : hideFeeds (feedConversion c s) = hideFeeds s := by
  unfold feedConversion enterHoldLast resumeFeed; dsimp only; repeat' split
  all_goals simp

@[simp] theorem hideFeeds_expireHold (c : FeedChannel) (s : State) : hideFeeds (expireHold c s) = hideFeeds s := by
  unfold expireHold; simp

@[simp] theorem hideFeeds_changeFeed (c : FeedChannel) (t : OperationTarget) (s : State) :
    hideFeeds (changeFeed c t s) = hideFeeds s := by
  unfold changeFeed; cases t <;> simp

/-! ### Travel and profiler -/

@[simp] theorem hideTravel_setTravel (t : Travel) (s : State) : hideTravel (setTravel t s) = hideTravel s := rfl

@[simp] theorem hideTravel_computeStation (s : State) : hideTravel (computeStation s) = hideTravel s := rfl

@[simp] theorem hideTravel_closeInterval (s : State) : hideTravel (closeInterval s) = hideTravel s := by
  unfold closeInterval
  split
  · exact hideTravel_appendProfile _ _
  · rfl

@[simp] theorem hideTravel_moveStation (s : State) : hideTravel (moveStation s) = hideTravel s := by
  unfold moveStation highWaterRose; dsimp only; repeat' split
  all_goals simp

@[simp] theorem hideTravel_countEdge (s : State) : hideTravel (countEdge s) = hideTravel s := by
  unfold countEdge; simp

@[simp] theorem hideTravel_moveWindow (v : Int) (s : State) : hideTravel (moveWindow v s) = hideTravel s := rfl

theorem hideTravel_profilerSeesMode (old : Mode) (s : State) : hideTravel (profilerSeesMode old s) = hideTravel s := by
  unfold profilerSeesMode raiseScanner raiseFlags; dsimp only; repeat' split
  all_goals first | rfl | exact hideTravel_appendEvent _ _ _

theorem hideTravel_takeScanLine (n : Half) (px : List Half) (s : State) : hideTravel (takeScanLine n px s) = hideTravel s := by
  unfold takeScanLine accumulate; repeat' split
  all_goals rfl

/-! ### Geometry -/

@[simp] theorem hideGeometry_setExtension (d : Side) (r : Extension) (s : State) :
    hideGeometry (setExtension d r s) = hideGeometry s := rfl

@[simp] theorem hideGeometry_endWidthJog (k : WidthEnd) (d : Side) (s : State) :
    hideGeometry (endWidthJog k d s) = hideGeometry s := by
  unfold endWidthJog; dsimp only; split <;> rfl

@[simp] theorem hideGeometry_startWidthJog (d : Side) (k : WidthDir) (n : Nat) (s : State) :
    hideGeometry (startWidthJog d k n s) = hideGeometry s := by
  unfold startWidthJog; simp

@[simp] theorem hideGeometry_raiseFlags (s : State) : hideGeometry (raiseFlags s) = hideGeometry s := rfl

@[simp] theorem hideGeometry_becomeStale (d : Side) (s : State) : hideGeometry (becomeStale d s) = hideGeometry s := by
  unfold becomeStale; dsimp only; split <;> simp

@[simp] theorem hideGeometry_extConversion (d : Side) (s : State) : hideGeometry (extConversion d s) = hideGeometry s := by
  unfold extConversion; dsimp only
  split
  · simp
  · rw [hideGeometry_of_heat (hideHeat_reselect _ _)]
    split <;> simp

/-! ### The mode controller -/

@[simp] theorem hideReaction_changeMode (m : Mode) (c : ModeCause) (o : Origin) (s : State) :
    hideReaction (changeMode m c o s) = hideReaction s := by
  unfold changeMode; simp only [hideReaction_appendEvent]; rfl

@[simp] theorem hideReaction_readinessChain (s : State) : hideReaction (readinessChain s) = hideReaction s := by
  unfold readinessChain; dsimp only; repeat' split
  · rw [hideReaction_changeMode]; exact hideReaction_changeMode .ready .readiness .modeController s
  all_goals simp

@[simp] theorem hideReaction_blocksSee (old : Mode) (run e : Bool) (s : State) :
    hideReaction (blocksSee old run e s) = hideReaction s := by
  unfold blocksSee; dsimp only
  have hp (t : State) : hideReaction (profilerSeesMode old t) = hideReaction t := by
    unfold profilerSeesMode raiseScanner raiseFlags; dsimp only; repeat' split
    all_goals first | rfl | exact hideReaction_appendEvent _ _ _
  have ht (t : State) : hideReaction (travelSeesMode old t) = hideReaction t := by
    unfold travelSeesMode restartStop; repeat' split
    all_goals rfl
  rw [hp, hideReaction_of_feeds (hideFeeds_feedsSeeMode _ _ _), hideReaction_of_sides (hideSides_sidesSeeMode _ _ _ _)]
  split
  · rfl
  · rw [hideReaction_of_heat (hideHeat_zonesSeeMode _ _), ht]

@[simp] theorem hideReaction_settleReadiness (s : State) : hideReaction (settleReadiness s) = hideReaction s := by
  unfold settleReadiness
  split
  · rfl
  · rw [hideReaction_blocksSee, hideReaction_readinessChain]
    unfold noteReadinessLoss
    split
    · rfl
    · split
      · exact hideReaction_appendEvent _ _ _
      · rfl

@[simp] theorem hideReaction_takeModeChange (m : Mode) (c : ModeCause) (o : Origin) (e : Bool) (s : State) :
    hideReaction (takeModeChange m c o e s) = hideReaction s := by
  simp [takeModeChange]

/-! ### Station ports -/

@[simp] theorem hidePorts_setPort (p : Port) (r : PortState) (s : State) : hidePorts (setPort p r s) = hidePorts s := rfl

@[simp] theorem hidePorts_hearFrame (p : Port) (s : State) : hidePorts (hearFrame p s) = hidePorts s := rfl

@[simp] theorem hidePorts_endFrame (p : Port) (s : State) : hidePorts (endFrame p s) = hidePorts s := rfl

@[simp] theorem hidePorts_holdFrame (p : Port) (taken : List Byte) (s : State) : hidePorts (holdFrame p taken s) = hidePorts s := rfl

@[simp] theorem hidePorts_openRequest (p : Port) (k t : Byte) (s : State) : hidePorts (openRequest p k t s) = hidePorts s := rfl

@[simp] theorem hidePorts_countFrameError (p : Port) (s : State) : hidePorts (countFrameError p s) = hidePorts s := rfl

@[simp] theorem hidePorts_answerPort (p : Port) (a : Answer) (s : State) : hidePorts (answerPort p a s) = hidePorts s := by
  unfold answerPort; dsimp only; split <;> rfl

@[simp] theorem hidePorts_answerBusy (p : Port) (k t : Byte) (s : State) : hidePorts (answerBusy p k t s) = hidePorts s := by
  unfold answerBusy; dsimp only; split <;> rfl

/-- What a request leaves is what its owning block leaves, the port apart. -/
theorem hidePorts_deliver (p : Port) (r : Served) : hidePorts (deliver p r) = hidePorts r.1 := by
  unfold deliver; split <;> simp

/-- R163: a frame answered without service, or served by `serve`, changes nothing but its port beyond what `serve` does. -/
theorem hidePorts_takeFrame (p : Port) (k t : Byte) (serve : State → Served) (s : State) :
    hidePorts (takeFrame p k t serve s) = hidePorts s ∨
      hidePorts (takeFrame p k t serve s) = hidePorts (serve (openRequest p k t (hearFrame p s))).1 := by
  unfold takeFrame acceptFrame
  dsimp only
  split
  · exact .inl (by simp)
  · split
    · exact .inl (by simp)
    · exact .inr (hidePorts_deliver _ _)

/-! ### Sensor rounds -/

@[simp] theorem hideRound_setSide (d : Side) (r : SideRec) (s : State) : hideRound (setSide d r s) = hideRound s := rfl

@[simp] theorem hideRound_setGradeSlot (d : Side) (k : GradePlace) (r : GradeSlotRec) (s : State) :
    hideRound (setGradeSlot d k r s) = hideRound s := rfl

@[simp] theorem hideRound_answerPort (p : Port) (a : Answer) (s : State) : hideRound (answerPort p a s) = hideRound s := by
  unfold answerPort; dsimp only; split <;> rfl

@[simp] theorem hideRound_evaluateSide (d : Side) (s : State) : hideRound (evaluateSide d s) = hideRound s :=
  hideRound_of_sides (hideSides_evaluateSide d s)

theorem hideRound_captureAll (d : Side) (ks : List GradePlace) (s : State) :
    hideRound (ks.foldl (captureSlot d) s) = hideRound s := by
  induction ks generalizing s with
  | nil => rfl
  | cons k ks ih => rw [List.foldl_cons, ih]; rfl

@[simp] theorem hideRound_completeCapture (d : Side) (s : State) : hideRound (completeCapture d s) = hideRound s := by
  unfold completeCapture returnSide; dsimp only; repeat' split
  all_goals simp [hideRound_captureAll]

@[simp] theorem hideRound_watchLink (f p : Bool) (s : State) : hideRound (watchLink f p s) = hideRound s := by
  unfold watchLink; dsimp only; split
  · rw [hideRound_appendEvent]; rfl
  · rfl

@[simp] theorem hideRound_endRound (f p : Bool) (s : State) : hideRound (endRound f p s) = hideRound s := by
  unfold endRound countValid; simp

@[simp] theorem hideRound_pollNext (l : List Slot) (f p : Bool) (s : State) : hideRound (pollNext l f p s) = hideRound s := by
  unfold pollNext; split
  · rfl
  · simp

@[simp] theorem hideRound_startRound (s : State) : hideRound (startRound s) = hideRound s := by
  unfold startRound; split
  · rfl
  · rw [hideRound_pollNext]; rfl

@[simp] theorem hideRound_completePoll (r : Option FreshReply) (s : State) : hideRound (completePoll r s) = hideRound s := by
  unfold completePoll; split
  · rfl
  · rw [hideRound_pollNext]; split
    · unfold judgeSlot; split <;> rfl
    · rfl

end Sys2Proof.Machine
end

