-- ==== Sys2Proof/Laws/Ops.lean ====
section
/-! SUPPORT. One lemma for what each shared operation can do: the roundings, the counts, the record areas, the taking and answering of a request, the
mode chain and the blocks' reactions. Later proofs cite these instead of unfolding the operations. -/

namespace Sys2Proof.Machine

open Sys2Proof

/-! ### Arithmetic -/

theorem le_clamp {lo hi v : Int} : lo ≤ clamp lo hi v := by unfold clamp; omega

theorem clamp_le {lo hi v : Int} (h : lo ≤ hi) : clamp lo hi v ≤ hi := by unfold clamp; omega

theorem clamp_eq_self {lo hi v : Int} (h : lo ≤ v) (k : v ≤ hi) : clamp lo hi v = v := by unfold clamp; omega

/-- A clamp moves a value exactly when it lies beyond a bound. -/
theorem clamp_eq_self_iff {lo hi v : Int} (h : lo ≤ hi) : clamp lo hi v = v ↔ lo ≤ v ∧ v ≤ hi := by unfold clamp; omega

theorem satInc_le (top n : Nat) : satInc top n ≤ top := by unfold satInc; omega

theorem satInc_of_lt {top n : Nat} (h : n < top) : satInc top n = n + 1 := by unfold satInc; omega

theorem satInc_top {top n : Nat} (h : top ≤ n) : satInc top n = top := by unfold satInc; omega

/-- Rounding half up is the division of the double by the double, half a divisor added. -/
theorem divHalfUp_eq (n : Nat) {d : Nat} (h : 0 < d) : divHalfUp n d = (2 * n + d) / (2 * d) := by
  have hn := Nat.div_add_mod n d
  have hm := Nat.mod_lt n h
  unfold divHalfUp
  have e : 2 * n + d = (n / d) * (2 * d) + (2 * (n % d) + d) := by
    calc 2 * n + d = 2 * (d * (n / d) + n % d) + d := by rw [hn]
      _ = (n / d) * (2 * d) + (2 * (n % d) + d) := by ring
  rw [e, Nat.mul_comm (n / d), Nat.mul_add_div (by omega)]
  split
  · rename_i hr
    rw [show (2 * (n % d) + d) / (2 * d) = 1 from Nat.div_eq_of_lt_le (by omega) (by omega)]
  · rename_i hr
    rw [show (2 * (n % d) + d) / (2 * d) = 0 from Nat.div_eq_of_lt (by omega), Nat.add_zero]

/-- Rounding half away from zero is the rounding of the magnitude with the sign. -/
theorem divHalfAway_eq (n : Int) {d : Nat} (h : 0 < d) :
    divHalfAway n d = n.sign * ((2 * n.natAbs + d) / (2 * d) : Nat) := by
  unfold divHalfAway
  rw [divHalfUp_eq _ h]
  rcases lt_trichotomy n 0 with hn | rfl | hn
  · simp [hn, Int.sign_eq_neg_one_of_neg hn]
  · have : d / (2 * d) = 0 := Nat.div_eq_of_lt (by omega)
    simp [this]
  · simp [Int.sign_eq_one_of_pos hn, not_lt.mpr hn.le]

/-- R132: the next mark is the first grid point above the high-water station. -/
theorem nextMarkOf_spec {start highWater interval m : Int} (hi : 0 < interval) (hs : start ≤ highWater)
    (h : nextMarkOf start highWater interval = some m) :
    highWater < m ∧ m ≤ highWater + interval ∧ (m - start) % interval = 0 ∧ m ≤ maxS32 := by
  unfold nextMarkOf at h
  dsimp only at h
  split at h
  · cases h
  · rename_i hm
    cases h
    have hd : (highWater - start).tdiv interval = (highWater - start) / interval := Int.tdiv_eq_ediv_of_nonneg (by omega)
    have e := Int.emod_add_mul_ediv (highWater - start) interval
    have l := Int.emod_nonneg (highWater - start) hi.ne'
    have u := Int.emod_lt_of_pos (highWater - start) hi
    have p : ((highWater - start).tdiv interval + 1) * interval
        = interval * ((highWater - start) / interval) + interval := by rw [hd]; ring
    refine ⟨?_, ?_, ?_, by omega⟩
    · rw [p]; omega
    · rw [p]; omega
    · rw [add_sub_cancel_left, mul_comm]; exact Int.mul_emod_right _ _

/-! ### Record areas (R147, R148, R158) -/

variable {α : Type}

theorem appendTo_exhausted {capacity : Nat} {build : Nat → α} {a : Area α} (h : areaExhausted a = true) :
    appendTo capacity build a = a := by simp [appendTo, h]

theorem appendTo_newest {capacity : Nat} {build : Nat → α} {a : Area α} (h : areaExhausted a = false) :
    (appendTo capacity build a).newest = a.newest + 1 := by
  unfold appendTo; rw [if_neg (by simp [h])]; dsimp only; split <;> rfl

/-- What an append leaves held: the new record at the end, behind the records held before, the oldest dropped from a full area. -/
theorem appendTo_held {capacity : Nat} {build : Nat → α} {a : Area α} (h : areaExhausted a = false) :
    (appendTo capacity build a).held
      = (if capacity ≤ a.held.length then a.held.drop 1 else a.held) ++ [build (a.newest + 1)] := by
  unfold appendTo; rw [if_neg (by simp [h])]; dsimp only; split <;> rfl

theorem appendTo_length_le {capacity : Nat} {build : Nat → α} {a : Area α} (hc : 0 < capacity) (h : a.held.length ≤ capacity) :
    (appendTo capacity build a).held.length ≤ capacity := by
  cases hx : areaExhausted a
  · rw [appendTo_held hx]; split <;> simp <;> omega
  · rw [appendTo_exhausted hx]; exact h

theorem appendTo_lostAtAck {capacity : Nat} {build : Nat → α} {a : Area α} :
    (appendTo capacity build a).lostAtAck = a.lostAtAck := by
  unfold appendTo; split <;> [rfl; (dsimp only; split <;> rfl)]

theorem appendTo_firstLost {capacity : Nat} {build : Nat → α} {a : Area α} :
    (appendTo capacity build a).firstLost = a.firstLost := by
  unfold appendTo; split <;> [rfl; (dsimp only; split <;> rfl)]

/-- R147: an event record is stamped with the clock and station that stand, or discarded while the memory is not open. -/
theorem appendEvent_events (o : Origin) (e : Event) (s : State) :
    (appendEvent o e s).events = eventsAfter s [(o, e)] := by
  unfold appendEvent eventsAfter; cases s.recordsOpen <;> simp

/-- An event record changes the EVENT area only. -/
theorem appendEvent_eq (o : Origin) (e : Event) (s : State) :
    appendEvent o e s = { s with events := eventsAfter s [(o, e)] } := by
  rw [← appendEvent_events]
  unfold appendEvent
  split <;> rfl

@[simp] theorem eventsAfter_nil (s : State) : eventsAfter s [] = s.events := rfl

/-- Records handed on one after another, in two parts. -/
theorem eventsAfter_append (s : State) (xs ys : List (Origin × Event)) :
    eventsAfter s (xs ++ ys) = eventsAfter { s with events := eventsAfter s xs } ys := by
  unfold eventsAfter; rw [List.foldl_append]; rfl

/-- What stamps the records of a list: the clock, the station, the boundary and whether the memory is open. -/
theorem eventsAfter_congr {s t : State} (xs : List (Origin × Event)) (hc : t.clock = s.clock)
    (hs : t.travel.station = s.travel.station) (hm : t.settings.matCapacity = s.settings.matCapacity)
    (ho : t.recordsOpen = s.recordsOpen) (he : t.events = s.events) : eventsAfter t xs = eventsAfter s xs := by
  have e : stampEvent t = stampEvent s := by funext o x n; simp [stampEvent, hc, hs]
  simp only [eventsAfter, ho, he, capacityOf, hm, e]

/-! ### Timed commands and receivers (R161, R185) -/

@[simp] theorem atMoment_reached (act : State → State) (s : State) : atMoment true act s = act s := rfl

@[simp] theorem atMoment_before (act : State → State) (s : State) : atMoment false act s = s := rfl

/-- A timed command acts, or changes nothing. -/
theorem atMoment_eq (b : Bool) (act : State → State) (s : State) : atMoment b act s = if b then act s else s := rfl

@[simp] theorem dropFrame_hunting {r : PortState} (h : r.receiver = .hunting) : dropFrame r = r := by simp [dropFrame, h]

theorem dropFrame_inFrame {r : PortState} {taken : List Byte} {gap : Nat} (h : r.receiver = .inFrame taken gap) :
    dropFrame r = { r with receiver := .hunting, frameErrors := satInc top16 r.frameErrors } := by simp [dropFrame, h, countError]

/-- R161: the receiver hunts once a frame it was in is dropped. -/
@[simp] theorem dropFrame_receiver (r : PortState) : (dropFrame r).receiver = .hunting := by
  unfold dropFrame; split <;> simp_all [countError]

@[simp] theorem heardBy_receiver (r : PortState) : (heardBy r).receiver = .hunting := by simp [heardBy]

@[simp] theorem heardBy_waiting (r : PortState) : (heardBy r).waiting = r.waiting := by
  unfold heardBy dropFrame; split <;> rfl

@[simp] theorem heardBy_sending (r : PortState) : (heardBy r).sending = r.sending := by
  unfold heardBy dropFrame; split <;> rfl

@[simp] theorem heardBy_inFlight (r : PortState) : (heardBy r).inFlight = r.inFlight := by
  unfold heardBy dropFrame; split <;> rfl

/-- R161: bytes that reach a hunting receiver. -/
theorem receiveBytes_hunting {p : Port} {bytes : List Byte} {s : State} (h : (s.ports.get p).receiver = .hunting) :
    receiveBytes p bytes s = receive p bytes.length bytes s := by simp [receiveBytes, h]

/-- R185: bytes that reach a hunting receiver. -/
theorem receiveSensorBytes_hunting {bytes : List Byte} {s : State} (h : s.sensorReceiver = .hunting) :
    receiveSensorBytes bytes s = receiveSensor bytes.length bytes s := by simp [receiveSensorBytes, h]

/-! ### Requests (R163) -/

theorem transmit_idle {reply : Reply} {r : PortState} (h : r.sending = none) :
    transmit reply r = { r with sending := some reply } := by simp [transmit, h]

theorem transmit_waits {reply sent : Reply} {r : PortState} (h : r.sending = some sent) :
    transmit reply r = { r with waiting := r.waiting ++ [reply] } := by simp [transmit, h]

@[simp] theorem transmit_inFlight (reply : Reply) (r : PortState) : (transmit reply r).inFlight = r.inFlight := by
  unfold transmit; split <;> rfl

/-- The reply of a request in flight goes to its port's transmitter. -/
theorem answerPort_of_inFlight {p : Port} {a : Answer} {s : State} {f : InFlight} (h : (s.ports.get p).inFlight = some f) :
    answerPort p a s = setPort p (transmit (replyOf f.kind f.tag a) (s.ports.get p)) s := by
  simp [answerPort, h, replyOf]

/-- A port that has heard a good frame and taken it as its request. -/
theorem openRequest_hearFrame (p : Port) (kind tag : Byte) (s : State) :
    openRequest p kind tag (hearFrame p s) = withOpened p kind tag s := by
  simp [openRequest, hearFrame, withOpened, opened, setPort]

/-- R163 case 1. -/
theorem takeFrame_busy {p : Port} {kind tag : Byte} {serve : State → Served} {s : State}
    (h : (s.ports.get p).inFlight.isSome = true) : takeFrame p kind tag serve s = answerBusy p kind tag (hearFrame p s) := by
  simp [takeFrame, h]

/-- R163 case 2. -/
theorem takeFrame_notReady {p : Port} {kind tag : Byte} {serve : State → Served} {s : State}
    (h : (s.ports.get p).inFlight = none) (hm : s.mode = .starting) (hk : kind ≠ kindByte .status) :
    takeFrame p kind tag serve s = withReply p kind tag (bareAnswer .notReady) s := by
  have e : (withOpened p kind tag s).ports.get p = opened kind tag (s.ports.get p) := by simp [withOpened, setPort]
  have m : (hearFrame p s).mode = .starting := by simpa [hearFrame] using hm
  simp only [takeFrame, h, Option.isSome_none, Bool.false_eq_true, if_false, acceptFrame, openRequest_hearFrame, m, true_and, hk, ne_eq,
    not_false_eq_true, if_true]
  rw [answerPort_of_inFlight (f := ⟨kind, tag⟩) (by rw [e]; rfl), e]
  simp [withOpened, withReply, setPort, bareAnswer]

/-- R163 case 5: an accepted frame is served on the state with the request in flight. -/
theorem takeFrame_accepted {p : Port} {kind tag : Byte} {serve : State → Served} {s : State}
    (h : (s.ports.get p).inFlight = none) (hm : s.mode ≠ .starting ∨ kind = kindByte .status) :
    takeFrame p kind tag serve s = deliver p (serve (withOpened p kind tag s)) := by
  have m : (hearFrame p s).mode = s.mode := rfl
  simp only [takeFrame, h, Option.isSome_none, Bool.false_eq_true, if_false, acceptFrame, openRequest_hearFrame, m]
  rw [if_neg (by rintro ⟨a, b⟩; exact hm.elim (fun x => x a) (fun x => b x))]

/-- The answer of a served request reaches its port, whatever the block has done to the rest of the state. -/
theorem deliver_withOpened {p : Port} {kind tag : Byte} {t : State} {a : Answer} :
    deliver p (withOpened p kind tag t, some a) = withReply p kind tag a t := by
  have e : (withOpened p kind tag t).ports.get p = opened kind tag (t.ports.get p) := by simp [withOpened, setPort]
  simp only [deliver]
  rw [answerPort_of_inFlight (f := ⟨kind, tag⟩) (by rw [e]; rfl), e]
  simp [withOpened, withReply, setPort]

/-- A request that its block serves to `t` with an answer. -/
theorem takeRequest_served {p : Port} {k : RequestKind} {tag : Byte} {serve : State → Served} {s t : State} {a : Answer}
    (hp : (s.ports.get p).inFlight = none) (hm : s.mode ≠ .starting)
    (h : serve (withOpened p (kindByte k) tag s) = (withOpened p (kindByte k) tag t, some a)) :
    takeRequest p k tag serve s = withReply p (kindByte k) tag a t := by
  rw [takeRequest, takeFrame_accepted hp (.inl hm), h, deliver_withOpened]

/-- A request that its block refuses changes nothing beyond its port. -/
theorem takeRequest_refused {p : Port} {k : RequestKind} {tag : Byte} {serve : State → Served} {s : State} {status : Status}
    (hp : (s.ports.get p).inFlight = none) (hm : s.mode ≠ .starting)
    (h : serve (withOpened p (kindByte k) tag s) = refuse status (withOpened p (kindByte k) tag s)) :
    takeRequest p k tag serve s = withReply p (kindByte k) tag (bareAnswer status) s := takeRequest_served hp hm h

/-- A delayed request is in flight when its block has taken it. -/
theorem takeRequest_delayed {p : Port} {k : RequestKind} {tag : Byte} {serve : State → Served} {s t : State}
    (hp : (s.ports.get p).inFlight = none) (hm : s.mode ≠ .starting)
    (h : serve (withOpened p (kindByte k) tag s) = (withOpened p (kindByte k) tag t, none)) :
    takeRequest p k tag serve s = withOpened p (kindByte k) tag t := by
  rw [takeRequest, takeFrame_accepted hp (.inl hm), h]; rfl

/-! ### The mode chain and the blocks' reactions (R2, R7, R10 to R12) -/

/-- Blocks that see the mode and the run condition they knew do nothing. -/
theorem blocksSee_same (e : Bool) (s : State) : blocksSee s.mode (runCondition s) e s = s := by
  simp [blocksSee, sidesSeeMode, sidesSeeRun, feedsSeeMode, profilerSeesMode]

/-- R10, R11: what the readiness flag sets off. -/
theorem readinessChain_cases (s : State) :
    (readinessChain s = s ∧ ¬ (s.mode = .preheat ∧ s.readiness = true) ∧ ¬ (s.mode = .ready ∧ s.readiness = false))
    ∨ (s.mode = .preheat ∧ s.readiness = true ∧ s.pavePending = false
        ∧ readinessChain s = changeMode .ready .readiness .modeController s)
    ∨ (s.mode = .preheat ∧ s.readiness = true ∧ s.pavePending = true
        ∧ readinessChain s = changeMode .paving .readiness .modeController
            { changeMode .ready .readiness .modeController s with pavePending := false })
    ∨ (s.mode = .ready ∧ s.readiness = false ∧ readinessChain s = changeMode .preheat .readiness .modeController s) := by
  unfold readinessChain
  by_cases h : s.mode = .preheat ∧ s.readiness = true
  · rw [if_pos h]
    cases hp : s.pavePending
    · exact .inr (.inl ⟨h.1, h.2, rfl, by simp⟩)
    · exact .inr (.inr (.inl ⟨h.1, h.2, rfl, by simp⟩))
  · rw [if_neg h]
    by_cases k : s.mode = .ready ∧ s.readiness = false
    · rw [if_pos k]; exact .inr (.inr (.inr ⟨k.1, k.2, rfl⟩))
    · rw [if_neg k]; exact .inl ⟨rfl, h, k⟩

/-- R7: an evaluation whose result stands already changes nothing. -/
theorem evaluateReadiness_current {s : State} (hm : s.mode ≠ .starting) (h : readinessCurrent s = true) : evaluateReadiness s = s := by
  simp only [readinessCurrent, hm, decide_false, Bool.false_or, Bool.and_eq_true, decide_eq_true_eq] at h
  unfold evaluateReadiness
  rw [← h.1, ← h.2]

/-- R7, R10, R11, R12: where the mode and the readiness flag agree with the zones, a readiness evaluation moves nothing. -/
theorem settleReadiness_quiet {s : State} (h : quiet s = true) : settleReadiness s = s := by
  unfold settleReadiness
  by_cases hm : s.mode = .starting
  · rw [if_pos hm]
  · rw [if_neg hm]
    simp only [quiet, Bool.and_eq_true] at h
    rw [evaluateReadiness_current hm h.2]
    have hn : noteReadinessLoss s.readiness s = s := by
      unfold noteReadinessLoss
      split
      · rfl
      · rename_i z zs hz
        have hc := h.2
        simp only [readinessCurrent, hm, decide_false, Bool.false_or, Bool.and_eq_true, decide_eq_true_eq, hz, List.isEmpty_cons] at hc
        rw [if_neg (by rw [hc.1]; simp)]
    rw [hn]
    have hc : readinessChain s = s := by
      have hs := h.1
      simp only [modeSound, Bool.and_eq_true, Bool.or_eq_true, Bool.not_eq_true', decide_eq_true_eq, ne_eq] at hs
      rcases readinessChain_cases s with ⟨e, -⟩ | ⟨a, b, -⟩ | ⟨a, b, -⟩ | ⟨a, b, -⟩
      · exact e
      · simp [a, b] at hs
      · simp [a, b] at hs
      · simp [a, b] at hs
    rw [hc, blocksSee_same]

/-! ### Zones (R47, R66) -/

/-- R66: one grant, when the queue has a head. -/
theorem grantHead_cons {s : State} {z : Zone} {rest : List Zone} (h : s.queue = z :: rest) :
    grantHead s = { s with
      queue := rest
      grants := s.grants ++ [{ zone := z, start := s.clock, elapsed := 0, subMs := 0 }]
      zones := s.zones.set z { s.zones.get z with state := .heating, check := .delay, checkMs := 0 } } := by
  simp [grantHead, h, setZone]

/-- R65: a grant that fits keeps the granted ratings within the limit. -/
theorem grantHead_within {s : State} {z : Zone} {rest : List Zone} (h : s.queue = z :: rest) (hf : headFits s = true) :
    grantedSum (grantHead s) ≤ (grantHead s).settings.generatorLimit := by
  unfold headFits at hf
  rw [h] at hf
  have hf := of_decide_eq_true hf
  rw [grantHead_cons h]
  simp only [grantedSum, List.map_append, List.sum_append, List.map_cons, List.map_nil, List.sum_cons, List.sum_nil,
    freePower] at hf ⊢
  omega

/-- R69, R47: what a release does to the grant list and to the zone, before the allocator evaluates. -/
theorem leaveTo_heating {z : Zone} {target : ZoneState} {s : State} (h : (s.zones.get z).state = .heating) :
    leaveTo z target s = allocate
      { s with
        grants := s.grants.filter fun g => decide (g.zone ≠ z)
        zones := s.zones.set z { s.zones.get z with state := target, check := .idle, checkMs := 0 } } := by
  simp [leaveTo, h, setZone]

/-- A zone that is neither HEATING nor WAITING only takes its new state. -/
theorem leaveTo_idle {z : Zone} {target : ZoneState} {s : State} (h : (s.zones.get z).state ≠ .heating)
    (k : (s.zones.get z).state ≠ .waiting) :
    leaveTo z target s = { s with zones := s.zones.set z { s.zones.get z with state := target } } := by
  unfold leaveTo; dsimp only; split <;> first | contradiction | rfl

end Sys2Proof.Machine
end

