-- ==== Sys2Proof/Tests/Slice0.lean ====
section
/-! SUPPORT. Tests: the refusals of WellFormed, the worked figures of spec/, and for each statement a state and operands that meet its hypotheses, each clause at
a boundary of its range. Expected values are those of spec/, named in each comment. -/

namespace Sys2Proof.Tests

open Sys2Proof Sys2Proof.Machine

set_option Elab.async false

/-! ### WellFormed: each check refuses an ill-formed term -/

theorem test_wf_refuses_empty_burst : (Instr.frameError .oc []).wf = false := by decide
theorem test_wf_refuses_empty_sensor_burst : (Instr.sensorFrameDiscard []).wf = false := by decide
theorem test_wf_refuses_long_payload : (Instr.busy .oc 1 2 (List.replicate 767 0)).wf = false := by decide +kernel
theorem test_wf_refuses_long_unknown : (Instr.unknownRequest .ls 0x13 0 (List.replicate 767 0)).wf = false := by decide +kernel
theorem test_wf_refuses_short_road : (Instr.writeJob .oc 0 [0x41] 0 0 0).wf = false := by decide
theorem test_wf_refuses_short_line : (Instr.scanLine 0 [1, 2]).wf = false := by decide
theorem test_wf_refuses_slope_weight : (Instr.setSlotAddressWeight .oc 0 .slope .weight 1).wf = false := by decide
theorem test_wf_takes_longest_payload : (Instr.busy .oc 1 2 (List.replicate 766 0)).wf = true := by decide +kernel

/-! ### The words of the table: no row gives bits -/

theorem test_no_row_has_a_word : decodeTableWord 8 1 = none := rfl
theorem test_fetch_word_leaves_state : State.reset.withFetchWord 8 1 = State.reset := rfl

/-! ### Worked figures of spec/ -/

/-- Section 2.1, worked figures: 4000 pulses per metre from station 120000. -/
theorem test_station_figures : stationOf 120000 1037 4000 = 120259 ∧ stationOf 120000 1027 4000 = 120256 := by decide
/-- Section 2.1, worked figures: +9 gives 21, −3 gives −7; R24: +10 gives 24. -/
theorem test_speed_figures : speedOf 9 = 21 ∧ speedOf (-3) = -7 ∧ speedOf 10 = 24 := by decide
/-- R28: code × 5 s up to 120, then minutes. -/
theorem test_compare_values : compareOf 1 = 5 ∧ compareOf 36 = 180 ∧ compareOf 120 = 600 ∧ compareOf 121 = 660 ∧ compareOf 200 = 5400 := by
  decide
/-- Section 2.5, worked figures: 65535 23:59:61.15 carries into 0 00:00:00.0. -/
theorem test_clock_carries_through : stepClock ⟨65535, 23, 59, 61, 15⟩ = ⟨0, 0, 0, 0, 0⟩ := by decide
/-- Section 2.5, worked figures: hour 30 becomes 0 and the day 5. -/
theorem test_clock_illegal_hour : stepClock ⟨4, 30, 59, 59, 15⟩ = ⟨5, 0, 0, 0, 0⟩ := by decide
/-- R97, the table of D. -/
theorem test_combined_rounding :
    divHalfAway 95 3 = 32 ∧ divHalfAway (-95) 3 = -32 ∧ divHalfAway 35 2 = 18 ∧ divHalfAway (-35) 2 = -18 ∧ divHalfAway 0 5 = 0 := by
  decide
/-- R101 and section 6.10: E 16, 22 and 140 with set A, 22 with set B, −150 with set A. -/
theorem test_grade_duty :
    gradeDuty ⟨15, 100, 80⟩ 22 = 80 ∧ gradeDuty ⟨15, 100, 80⟩ 140 = 1000 ∧ gradeDuty ⟨25, 200, 60⟩ 22 = 0
      ∧ gradeDuty ⟨15, 100, 80⟩ (-150) = 1000 ∧ gradeDirection ⟨15, 100, 80⟩ 22 = .down ∧ gradeDirection ⟨15, 100, 80⟩ (-150) = .up
      ∧ gradeDirection ⟨25, 200, 60⟩ 22 = .none := by decide
/-- R116, the table of the AUTO law. -/
theorem test_auto_law :
    autoDuty 300 80 = 240 ∧ autoDuty 300 350 = 1000 ∧ autoDuty 300 (-10) = 0 ∧ autoDuty 250 7 = 17 ∧ autoDuty 1000 0 = 0
      ∧ autoDuty 10 100 = 10 := by decide
/-- R82 and section 6.10: GL1 3235 against 3200 is VALID, GL3 3900 against 3310 EXCLUDED; R82: 6001 is INVALID. -/
theorem test_judge_grade :
    (judgeGrade 500 (some ⟨true, 3235⟩) ⟨3200, true, 0, .none, 0⟩) = ⟨3200, true, 3235, .valid, 35⟩
      ∧ (judgeGrade 500 (some ⟨true, 3900⟩) ⟨3310, true, 0, .none, 0⟩) = ⟨3310, true, 3900, .excluded, 590⟩
      ∧ (judgeGrade 500 (some ⟨true, 6001⟩) ⟨3200, true, 7, .valid, 1⟩) = ⟨3200, true, 7, .invalid, 1⟩ := by decide
/-- R132: the next mark from 0, with interval 500, and on a grid point. -/
theorem test_next_marks : nextMarkOf 0 0 500 = some 500 ∧ nextMarkOf 0 500 500 = some 1000 ∧ nextMarkOf (-100) 399 500 = some 400 := by
  decide
/-- Section 12.1: an item field is eight bytes, its value little-endian. -/
theorem test_fields : i32 (-2) = [0xFE, 0xFF, 0xFF, 0xFF] ∧ u16 0x1234 = [0x34, 0x12] := by decide

/-! ### States -/

/-- The holder of every function is the operator console. -/
def consoleHolds : Authority :=
  { mode := some .oc, heat := some .oc, grade := ⟨some .oc, some .oc⟩, feed := ⟨some .oc, some .oc⟩, width := ⟨some .oc, some .oc⟩
    records := some .oc }

/-- A zone SATISFIED at a set. -/
def satisfiedAt (set : ActiveSet) (v : Int) : ZoneRec :=
  { resetZone with state := .satisfied, activeSet := set, activeSetpoint := v }

/-- The zones of a hot screed without bolt-ons, both extensions below the threshold. -/
def hotZones (m : Mode) : PerZone ZoneRec :=
  if heatingMode m then
    let ext := satisfiedAt .hold 800
    let main := if m = .standby then ext else satisfiedAt .pave 1300
    ⟨main, main, ext, ext, resetZone, resetZone, main, main⟩
  else PerZone.all resetZone

/-- A temperature channel's value. -/
def at_ (v : Int) : Analog := { raw := 1000, value := v, fault := false }

/-- A hot screed in a mode, every function held on a link that is UP. -/
def hot (m : Mode) : State :=
  { State.reset with
    mode := m, recordsOpen := decide (m ≠ .starting), readiness := decide (m ≠ .starting), authority := consoleHolds
    ports := { State.reset.ports with oc := { resetPort with up := true } }
    analog := { State.reset.analog with temp := ⟨at_ 1300, at_ 1300, at_ 800, at_ 800, at_ 0, at_ 0, at_ 1300, at_ 1300⟩ }
    zones := hotZones m }

/-- The hot screed with zone ML HEATING at 0.0 °C, its element check in DELAY for 2.0 s and its slice at its end. -/
def cold (m : Mode) : State :=
  { hot m with
    readiness := false, failing := 1
    analog := { (hot m).analog with temp := { (hot m).analog.temp with ml := at_ 0 } }
    zones := { (hot m).zones with ml := { satisfiedAt .pave 1300 with state := .heating, check := .delay, checkMs := 2000 } }
    grants := [{ zone := .ml, start := ⟨0, 0, 0, 0, 0⟩, elapsed := 60, subMs := 0 }] }

/-- The cold screed with zone MR waiting for a grant. -/
def waiting (m : Mode) : State :=
  { cold m with
    failing := 2
    analog := { (cold m).analog with temp := { (cold m).analog.temp with mr := at_ 0 } }
    zones := { (cold m).zones with mr := { satisfiedAt .pave 1300 with state := .waiting } }
    queue := [.mr] }

/-- The counters of the travel unit, the console's silence, the line silence and the round at the moments of their commands. -/
def atMoments (s : State) : State :=
  { s with
    travel := { s.travel with pauseMs := 1000, windowMs := 250 }, clockPhase := 125
    ports := { s.ports with oc := { s.ports.oc with silence := 500 } }
    profiler := { s.profiler with lineSilence := 2000 }, sensors := { s.sensors with sinceStart := 40 } }

/-- One side's record changed. -/
def withSide (d : Side) (r : SideRec) (s : State) : State := { s with sides := s.sides.set d r }

/-- One port's record changed. -/
def withPort (p : Port) (r : PortState) (s : State) : State := { s with ports := s.ports.set p r }

/-! ### The invariants hold in working states and a step is taken from them -/

theorem witness_invariants_paving :
    modeSound (hot .paving) = true ∧ budgetSound (hot .paving) = true ∧ authoritySound (hot .paving) = true
      ∧ travelSound (hot .paving) = true ∧ recordsSound (hot .paving) = true ∧ sidesSound (hot .paving) = true
      ∧ feedsSound (hot .paving) = true ∧ geometrySound (hot .paving) = true ∧ portsSound (hot .paving) = true
      ∧ readinessSound (hot .paving) = true := by decide +kernel

theorem witness_invariants_preheat :
    modeSound (waiting .preheat) = true ∧ budgetSound (waiting .preheat) = true ∧ readinessSound (waiting .preheat) = true
      ∧ quiet (waiting .preheat) = true := by decide +kernel

theorem witness_step_taken : ∃ t, step { atMoments (hot .paving) with pending := [.pauseDetectorFire] } = .next t := ⟨_, rfl⟩
theorem witness_StepTakesTheFrontCommand : State.reset.pending = [] := rfl

/-! ### A state and operands for the hypotheses of each statement -/

/-- An image with its values at the defaults. -/
def image0 : SettingsImage := { settings := defaultSettings, health := PerZone.all {}, lastJob := 65535 }

theorem witness_LoadEndsStartUp :
    (hot .parked).mode ≠ .starting ∧ State.reset.mode = .starting ∧ (∀ d : Side, (State.reset.sides.get d).state = .off)
      ∧ State.reset.store.array = .bad
      ∧ ({ State.reset with store := { State.reset.store with array := .good image0 } } : State).store.array = .good image0 := by
  refine ⟨by decide, rfl, ?_, rfl, rfl⟩
  intro d; cases d <;> rfl

/-- The console's receiver in a frame, cut after its SYNC, for some milliseconds. -/
def midFrame (gap : Nat) (s : State) : State :=
  { s with ports := { s.ports with oc := { s.ports.oc with receiver := .inFrame [stationSync] gap } } }

/-- LEN 1 and 769 are out of range, 2 and 768 within it. -/
theorem witness_DiscardedFrameIsOnlyCounted :
    ((midFrame 3 (hot .parked)).ports.get .oc).receiver = .inFrame [stationSync] 3 ∧ 2 < 3
      ∧ ((midFrame 2 (hot .parked)).ports.get .oc).receiver = .inFrame [stationSync] 2
      ∧ ((hot .parked).ports.get .oc).receiver = .hunting ∧ stationSync ∉ ([0x00, 0xA4] : List Byte) ∧ ([0x01] : List Byte).length < 2 ∧ (half 1 0).toNat = 1 ∧ (half 1 3).toNat = 769
      ∧ (half 2 0).toNat = 2 ∧ (half 0 3).toNat = 768 ∧ ([1, 5] : List Byte).length < 2 + 1
      ∧ (List.replicate 768 (0 : Byte)).length < 768 + 1 ∧ ([1, 5, 0] : List Byte).length = 2 + 1
      ∧ byteSum ([2, 0] ++ [1, 5, 0]) ≠ 0 := by decide +kernel

theorem witness_RequestFramesSpellTheirCommands :
    (Instr.go .oc 7 1).wf = true ∧ spellingOf (.go .oc 7 1) = some ⟨.oc, kindByte .go, 7, [1]⟩
      ∧ (Instr.busy .ls 0xFF 0 (List.replicate 766 0)).wf = true
      ∧ spellingOf (.busy .ls 0xFF 0 []) = some ⟨.ls, 0xFF, 0, []⟩
      ∧ itemWriteOf (.setMatCapacity .oc 1 64) = some (.oc, 1, .matCapacity, 64)
      ∧ ((hot .parked).ports.get .oc).receiver = .hunting
      ∧ ((midFrame 3 (hot .parked)).ports.get .oc).receiver = .inFrame [stationSync] 3 := by decide +kernel

/-- A BUSY reply that waits. -/
def busyReply : Reply := { kind := 0x86, tag := 1, status := .busy, payload := [] }

/-- A port with a request in flight and some BUSY replies waiting. -/
def engagedPort (n : Nat) : PortState :=
  { resetPort with up := true, inFlight := some ⟨6, 9⟩, sending := some { busyReply with status := .ok }, waiting := List.replicate n busyReply }

theorem witness_RequestsAreTakenOneAtATime :
    spellingOf (.status .oc 3) = some ⟨.oc, kindByte .status, 3, []⟩
      ∧ ((withPort .oc (engagedPort 3) (hot .paving)).ports.get .oc).inFlight.isSome = true
      ∧ (busyQueue (engagedPort 3)).length = 3 ∧ (busyQueue (engagedPort 4)).length = 4
      ∧ State.reset.mode = .starting ∧ (State.reset.ports.get .oc).inFlight = none ∧ kindByte .go ≠ kindByte .status
      ∧ (hot .parked).mode ≠ .starting ∧ ((hot .parked).ports.get .oc).inFlight = none
      ∧ 18 < (0x13 : Byte).toNat ∧ RequestKind.go ∈ allKinds ∧ kindByte .go = 6 ∧ ([] : List Byte).length ≠ 1
      ∧ ((hot .parked).ports.get .oc).sending = none ∧ (engagedPort 0).sending.isSome = true := by decide +kernel

theorem witness_LinkSilenceFreesFunctions :
    (State.reset.ports.get .oc).up = false ∧ ((hot .paused).ports.get .oc).silence < 500
      ∧ ((atMoments (hot .paused)).ports.get .oc).up = true ∧ 500 ≤ ((atMoments (hot .paused)).ports.get .oc).silence
      ∧ holds (atMoments (hot .paused)) .oc .mode = true ∧ (hot .parked).mode ≠ .paused
      ∧ holds (withPort .ls { resetPort with up := true } (hot .paving)) .ls .mode = false := by decide +kernel

theorem witness_StatusAndOutputsShowTheState :
    (State.reset.ports.get .ru).inFlight = none ∧ State.reset.settings.polarity.get .alarm = .activeHigh := ⟨rfl, rfl⟩

/-- Groups 13 and 14, counts 0, 1, 16 and 17. -/
theorem witness_ReadItemChangesNothing :
    portOpen (hot .parked) .oc = true ∧ 13 < (14 : Byte).toNat ∧ allGroups[(13 : Byte).toNat]? = some .settings
      ∧ (0 : Byte).toNat = 0 ∧ 16 < (17 : Byte).toNat ∧ 1 ≤ (1 : Byte).toNat ∧ (16 : Byte).toNat ≤ 16
      ∧ itemField (withOpened .oc (kindByte .readItem) 0 (hot .parked)) .budget 0 ≠ none
      ∧ itemField (withOpened .oc (kindByte .readItem) 0 (hot .parked)) .budget 200 = none := by decide +kernel

theorem witness_TakeByFirstCase :
    portIdle State.reset .oc = true ∧ State.reset.mode = .starting ∧ portIdle (hot .parked) .ls = true ∧ (hot .parked).mode ≠ .starting
      ∧ 8 < (9 : Byte).toNat ∧ (8 : Byte).toNat = functionCode .records ∧ (0 : Byte).toNat = functionCode .mode
      ∧ permitted .ls .mode = false ∧ permitted .ls .heat = true ∧ holderOf (hot .parked).authority .heat = some .oc
      ∧ permitted .oc .heat = true ∧ holderOf State.reset.authority .heat = none
      ∧ holderOf { consoleHolds with heat := some .ls } .heat = some .ls ∧ geometrySound (hot .parked) = true := by decide +kernel

theorem witness_ReleaseFreesFunction :
    portOpen (hot .paving) .oc = true ∧ 8 < (9 : Byte).toNat ∧ (8 : Byte).toNat = functionCode .records
      ∧ holds (hot .paving) .ls .heat = false ∧ holds (hot .paving) .oc .heat = true ∧ holds (hot .paving) .oc .mode = true
      ∧ modeSound (hot .paving) = true ∧ modeSound (hot .paused) = true ∧ portOpen (hot .parked) .oc = true
      ∧ (hot .parked).mode ≠ .paving := by decide +kernel

theorem witness_GoFollowsItsTable :
    portOpen (hot .parked) .oc = true ∧ holds (hot .parked) .ls .mode = false ∧ holds (hot .parked) .oc .mode = true
      ∧ 4 < (5 : Byte).toNat ∧ goTargetOfByte 4 = some .park ∧ goTargetOfByte 0 = some .preheat
      ∧ ({ hot .parked with estop := true } : State).estop = true ∧ (hot .parked).estop = false
      ∧ goEntry .stop (hot .parked).mode = none ∧ goEntry .park (hot .parked).mode = some none
      ∧ goEntry .preheat (hot .parked).mode = some (some .preheat) ∧ modeSound (hot .parked) = true := by decide +kernel

theorem witness_ParkingStopsEveryBlock :
    portOpen (waiting .paving) .oc = true ∧ holds (waiting .paving) .oc .mode = true ∧ (waiting .paving).estop = false
      ∧ (waiting .paving).mode ≠ .parked ∧ sidesSound (waiting .paving) = true ∧ feedsSound (waiting .paving) = true := by
  decide +kernel

/-- The debounce timer of the e-stop input runs, its pin at a level and its debounced level at the other. -/
def estopMoves (level : Bool) (s : State) : State :=
  { s with inputs := { s.inputs with estop := { pin := level, debounced := !level, timer := some 0 } } }

theorem witness_EstopParksTheMachine :
    (estopMoves false (hot .paving)).inputs.estop.timer = some 0 ∧ modeSound (estopMoves false (hot .paving)) = true
      ∧ (estopMoves false (hot .paving)).inputs.estop.pin = false ∧ (estopMoves false (hot .paving)).inputs.estop.debounced = true
      ∧ (estopMoves true (hot .parked)).inputs.estop.pin = true ∧ (estopMoves true (hot .parked)).inputs.estop.debounced = false
      ∧ modeSound (estopMoves true { hot .parked with estop := true }) = true := by decide +kernel

/-- The stop timer has run 5 s with a code in force; code 1 matches at 5 s, code 2 at 10 s (section 2.4). -/
def timerRuns (code : Nat) (s : State) : State :=
  { s with travel := { s.travel with stop := { state := .running, elapsed := 5, subMs := 0, codeInForce := code, pending := false } } }

theorem witness_StopsSuspendPaving :
    (hot .parked).mode ≠ .paving ∧ (hot .paving).mode = .paving ∧ (hot .paving).travel.pauseMs < 1000
      ∧ 1000 ≤ (atMoments (hot .paving)).travel.pauseMs ∧ sidesSound (atMoments (hot .paving)) = true
      ∧ compareOf 1 ≤ 5 ∧ (timerRuns 2 (hot .paused)).travel.stop.elapsed < compareOf 2
      ∧ (hot .paused).travel.stop.state ≠ .running ∧ (timerRuns 0 (hot .paused)).travel.stop.codeInForce = 0
      ∧ (timerRuns 1 (hot .paused)).travel.stop.state = .running ∧ (timerRuns 1 (hot .paused)).travel.stop.codeInForce ≠ 0
      ∧ (timerRuns 1 (hot .paused)).mode = .paused ∧ (timerRuns 1 (hot .ready)).mode ≠ .paused := by decide +kernel

/-- The station has moved since the speed window began, which is at its end. -/
def moved (v : Int) (s : State) : State := { s with travel := { s.travel with station := v, windowMs := 250 } }

theorem witness_WindowEndMeasuresSpeed :
    (moved 1 (hot .paused)).mode = .paused ∧ 0 < (moved 1 (hot .paused)).travel.station - (moved 1 (hot .paused)).travel.windowStart
      ∧ quiet (moved 0 (hot .paused)) = true ∧ ¬ 0 < (moved 0 (hot .paused)).travel.station - (moved 0 (hot .paused)).travel.windowStart
      ∧ quiet (moved 0 (hot .ready)) = true ∧ (hot .ready).mode ≠ .paving ∧ (hot .ready).mode ≠ .paused
      ∧ sidesSound (moved 0 (hot .paving)) = true ∧ 250 ≤ (moved 0 (hot .paving)).travel.windowMs := by
  decide +kernel

theorem witness_ClockCarriesAndIsSet :
    (∃ t, exec .reset State.reset = .next t) ∧ 125 ≤ (atMoments (hot .paving)).clockPhase ∧ portIdle State.reset .ru = true ∧ State.reset.mode = .starting
      ∧ portIdle (hot .parked) .ls = true ∧ holds (hot .parked) .ls .mode = false ∧ holds (hot .parked) .ls .records = false
      ∧ portIdle (hot .parked) .oc = true ∧ holds (hot .parked) .oc .records = true :=
  ⟨⟨_, rfl⟩, by decide +kernel⟩

/-- Jogs of every kind in their last millisecond; a grant 59.999 s old. -/
def jogging (ms : Nat) (s : State) : State :=
  { s with
    geometry := PerSide.all { resetExtension with jogDir := .inward, jogLeft := 1, jogMs := ms }
    sides := PerSide.all { resetSide with state := .manual, duty := 1000, dir := .up, jogLeft := 1, jogMs := ms }
    feed := PerFeed.all { resetFeed with state := .manual, duty := 600, jogDuty := 600, jogLeft := 1, jogMs := ms } }

theorem witness_TimedCommandsKeepTheirMoments :
    moment (jogging 99 (hot .paving)) (.widthJogExpiry .left) = some false
      ∧ moment (jogging 100 (hot .paving)) (.widthJogExpiry .left) = some true
      ∧ (hot .paving).pending = [] ∧ (timerRuns 1 (hot .paving)).travel.stop.state = .running
      ∧ (hot .paving).travel.stop.state ≠ .running ∧ granted (cold .paving) .ml = true ∧ granted (hot .paving) .ml = false
      ∧ ((cold .paving).health.get .ml).seconds < 59
      ∧ ((jogging 100 (hot .paving)).sides.get .left).jogLeft = 1 ∧ 100 ≤ ((jogging 100 (hot .paving)).feed.get .augR).jogMs := by
  decide +kernel

/-- R36: 0.1 s of a jog end after 100 ms; the millisecond before the last brings no expiry, and the last brings all eight. -/
theorem test_jogs_expire_in_time :
    due (elapse (jogging 98 (hot .parked))) = [] ∧ (due (elapse (jogging 99 (hot .parked)))).length = 8 := by decide +kernel

/-- R25: an edge taken in the millisecond of the expiry, before it, restarts the 1.0 s, and the detector does not fire. -/
theorem test_edge_first_keeps_paving :
    ∃ t, exec .pauseDetectorFire (countEdge (atMoments (hot .paving))) = .next t ∧ t.mode = .paving := ⟨_, rfl, by decide +kernel⟩

/-- R162: a good frame taken first keeps the link UP with every function held. -/
theorem test_frame_first_keeps_link :
    ∃ t, exec (.linkDown .oc) (hearFrame .oc (atMoments (hot .paving))) = .next t ∧ (t.ports.get .oc).up = true
      ∧ t.authority = consoleHolds := ⟨_, rfl, by decide +kernel⟩

/-- The bounds 0 and 200, and the first values beyond them. -/
theorem witness_StandbyCodeWaitsWhileRunning :
    portOpen (hot .paused) .oc = true ∧ holds (hot .paused) .ls .mode = false ∧ holds (hot .paused) .oc .mode = true
      ∧ max 0 (min 200 (200 : Word).toInt) = 200 ∧ max 0 (min 200 (201 : Word).toInt) = 200
      ∧ max 0 (min 200 (0xFFFFFFFF : Word).toInt) = 0 := by decide +kernel

theorem witness_PulsesPerMetreMovesStation :
    portOpen (hot .parked) .oc = true ∧ holds (hot .parked) .oc .mode = true ∧ (hot .parked).mode = .parked
      ∧ 100 ≤ (100 : Word).toInt ∧ (20000 : Word).toInt ≤ 20000 := by decide +kernel

theorem witness_WidthJogRuns :
    portOpen (hot .parked) .oc = true ∧ holds (hot .parked) .ls (.width .left) = false ∧ holds (hot .parked) .oc (.width .left) = true
      ∧ 1 < (2 : Byte).toNat ∧ ((hot .parked).geometry.get .left).position ≤ 20
      ∧ ¬ 2480 ≤ ((hot .parked).geometry.get .left).position := by decide +kernel

theorem witness_ZoneEvaluationFollowsItsTests :
    budgetSound (waiting .paving) = true ∧ ((waiting .paving).zones.get .bl).state = .off
      ∧ ((waiting .paving).zones.get .ml).state ≠ .off ∧ ((waiting .paving).zones.get .ml).latch = false
      ∧ zoneChannelFault (waiting .paving) .ml = false ∧ ((waiting .paving).zones.get .tl).state = .satisfied
      ∧ ((waiting .paving).zones.get .mr).state = .waiting
      ∧ zoneChannelFault
          { hot .paving with analog := (hot .paving).analog.set (.temp .ml) { raw := 0, value := 0, fault := true } } .ml = true := by
  decide +kernel

/-- The feedback contact of zone ML is closed. -/
def feedbackOn (s : State) : State :=
  { s with inputs := { s.inputs with feedback := PerZone.all { pin := true, debounced := true, timer := none } } }

/-- The feedback contact of zone ML is open. -/
def feedbackOff (s : State) : State :=
  { s with inputs := { s.inputs with feedback := PerZone.all { pin := false, debounced := false, timer := none } } }

theorem witness_ElementCheckJudgesFeedback :
    quiet (cold .paving) = true ∧ budgetSound (cold .paving) = true ∧ ((cold .paving).zones.get .ml).state = .heating
      ∧ ((cold .paving).zones.get .ml).check = .delay ∧ 2000 ≤ ((cold .paving).zones.get .ml).checkMs
      ∧ inputActive (feedbackOn (cold .paving)) (.feedback .ml) = true
      ∧ inputActive (feedbackOff (cold .paving)) (.feedback .ml) = false ∧ quiet (feedbackOff (cold .paving)) = true
      ∧ ((cold .paving).zones.get .tl).state ≠ .heating := by decide +kernel

/-- Zone ML with its element latch set. -/
def latched (m : Mode) (st : ZoneState) : State :=
  { hot m with
    readiness := decide (st = .off), failing := if st = .off then 0 else 1
    zones := (hotZones m).set .ml { (hotZones m).get .ml with state := st, latch := true } }

theorem witness_ClearFaultFreesTheZone :
    portOpen (latched .paving .fault) .oc = true ∧ holds (latched .paving .fault) .ls .heat = false
      ∧ holds (latched .paving .fault) .oc .heat = true ∧ 7 < (8 : Byte).toNat ∧ (7 : Byte).toNat = zoneCode .tr
      ∧ ((latched .paving .fault).zones.get .tr).latch = false ∧ (0 : Byte).toNat = zoneCode .ml
      ∧ ((latched .paving .fault).zones.get .ml).latch = true ∧ budgetSound (latched .paving .fault) = true
      ∧ ((latched .paving .fault).zones.get .ml).state = .fault ∧ quiet (latched .parked .off) = true
      ∧ ((latched .parked .off).zones.get .ml).state = .off ∧ ((latched .parked .off).zones.get .ml).latch = true := by decide +kernel

/-- The bounds 500 and 1800, and a value held already. -/
theorem witness_ZoneSetpointIsTakenAtOnce :
    portOpen (hot .paving) .oc = true ∧ holds (hot .paving) .ls .heat = false ∧ holds (hot .paving) .oc .heat = true
      ∧ settingValue (hot .paving).settings (.zoneSetpoint .ml .pave) = max 500 (min 1800 (1300 : Word).toInt)
      ∧ settingValue (hot .paving).settings (.zoneSetpoint .ml .pave) ≠ max 500 (min 1800 (1801 : Word).toInt)
      ∧ readinessSound (hot .paving) = true ∧ ((hot .paving).zones.get .ml).state ≠ .off ∧ (hot .parked).mode = .parked := by
  decide +kernel

theorem witness_ExclusionTakesTheZoneOut :
    portOpen (cold .preheat) .oc = true ∧ holds (cold .preheat) .ls .heat = false ∧ holds (cold .preheat) .oc .heat = true
      ∧ readinessSound (cold .preheat) = true ∧ budgetSound (cold .preheat) = true ∧ (cold .preheat).mode = .preheat
      ∧ settingValue (cold .preheat).settings (.exclude .ml) = max 0 (min 1 (0xFFFFFFFF : Word).toInt)
      ∧ max 0 (min 1 (2 : Word).toInt) = 1 ∧ fitted (cold .preheat) .bl = false := by decide +kernel

theorem witness_AllocationIsStrict :
    grantedSum (waiting .paving) ≤ (waiting .paving).settings.generatorLimit ∧ (waiting .paving).queue = [.mr] := by decide +kernel

theorem witness_SliceExpiryRotatesOrRenews :
    quiet (waiting .paving) = true ∧ budgetSound (waiting .paving) = true ∧ granted (waiting .paving) .ml = true
      ∧ (waiting .paving).grants = [{ zone := .ml, start := ⟨0, 0, 0, 0, 0⟩, elapsed := 60, subMs := 0 }]
      ∧ (waiting .paving).settings.rotationSlice = 60
      ∧ (waiting .paving).queue ≠ [] ∧ granted (waiting .paving) .tl = false ∧ quiet (cold .paving) = true
      ∧ budgetSound (cold .paving) = true ∧ granted (cold .paving) .ml = true ∧ (cold .paving).queue = [] := by decide +kernel

theorem witness_HealthCountsMinutesAndClears :
    portOpen (hot .parked) .oc = true ∧ holds (hot .parked) .ls .heat = false ∧ holds (hot .parked) .oc .heat = true
      ∧ 8 < (9 : Byte).toNat ∧ (8 : Byte).toNat = 8 ∧ (7 : Byte).toNat = zoneCode .tr
      ∧ (let s : State := { hot .paving with health := PerZone.all { seconds := 59, subMs := 1000 } }
         (s.health.get .ml).seconds = 59 ∧ 1000 ≤ (s.health.get .ml).subMs) := by
  decide +kernel

/-- A side in a state, and one with enough references. -/
def sideIn (st : SideState) (s : State) : State := withSide .left { resetSide with state := st } s

def referenced (s : State) : State :=
  { s with gradeSlots := PerSide.all (PerPlace.all { resetGradeSlot with reference := 3200, refValid := true }) }

theorem witness_SideModeSetsOperation :
    portOpen (hot .paving) .oc = true ∧ 1 < (2 : Byte).toNat ∧ 2 < (3 : Byte).toNat ∧ (1 : Byte).toNat = sideCode .right
      ∧ operationOfByte 2 = some .auto ∧ holds (hot .paving) .ls (.grade .left) = false ∧ holds (hot .paving) .oc (.grade .left) = true
      ∧ ((sideIn .referencing (hot .paving)).sides.get .left).state = .referencing ∧ ((hot .paving).sides.get .left).state = .off
      ∧ (hot .parked).mode ≠ .paving ∧ refValidCount (hot .paving) .left < ((hot .paving).settings.sides.get .left).minValid
      ∧ ¬ refValidCount (referenced (hot .paving)) .left < ((hot .paving).settings.sides.get .left).minValid := by decide +kernel

theorem witness_SetReferenceWaitsForRound :
    portOpen (hot .parked) .oc = true ∧ 1 < (2 : Byte).toNat ∧ (1 : Byte).toNat = sideCode .right
      ∧ holds (hot .parked) .ls (.grade .left) = false ∧ holds (hot .parked) .oc (.grade .left) = true
      ∧ ((hot .parked).settings.sides.get .left).kind = .grade ∧ ((hot .parked).sides.get .left).state = .off
      ∧ ((sideIn .auto (hot .paving)).sides.get .left).state ≠ .off := by decide +kernel

/-- A feed channel in MANUAL. -/
def feedManual (s : State) : State := { s with feed := s.feed.set .convL { resetFeed with state := .manual } }

theorem witness_GradeAndFeedJogsRun :
    portOpen (hot .parked) .oc = true ∧ holds (hot .parked) .ls (.grade .left) = false ∧ holds (hot .parked) .oc (.grade .left) = true
      ∧ 1 < (2 : Byte).toNat ∧ (1 : Byte).toNat ≤ 1 ∧ ((hot .parked).sides.get .left).state ≠ .manual
      ∧ ((sideIn .manual (hot .parked)).sides.get .left).state = .manual
      ∧ holds (hot .parked) .rs (.feed (feedSide .convL)) = false ∧ holds (hot .parked) .oc (.feed (feedSide .convL)) = true
      ∧ ((feedManual (hot .parked)).feed.get .convL).state = .manual ∧ (hot .standby).mode = .standby
      ∧ (hot .parked).mode ≠ .standby := by decide +kernel

/-- A round has waited on a slot for 3 ms. -/
def roundAt (slot : Slot) (s : State) : State :=
  { s with
    sensors := { s.sensors with
      round := some { slot := slot, address := slotAddress s.settings slot, waited := 3, fresh := false, polled := false } } }

theorem witness_RoundStartsWithFirstUsedSlot :
    State.reset.mode = .starting ∧ (roundAt .slope (hot .parked)).sensors.round.isSome = true ∧ (hot .parked).mode ≠ .starting
      ∧ (hot .parked).sensors.round = none ∧ allSlots = [] ++ .grade .left .g1 :: allSlots.tail
      ∧ slotUsed (hot .parked).settings (.grade .left .g1) = true ∧ 40 ≤ (atMoments (hot .parked)).sensors.sinceStart
      ∧ (let f : Settings := { defaultSettings with
           gradeSlots := PerSide.all (PerPlace.all { address := 0, weight := 1 }), slopeSlot := { address := 0, weight := 1 } }
         allSlots.all (fun x => !slotUsed f x) = true) := by decide +kernel

theorem witness_PollJudgesItsSlot :
    (hot .parked).sensors.round = none ∧ (roundAt (.grade .left .g3) (hot .parked)).sensors.round.isSome = true
      ∧ (roundAt .slope (hot .parked)).sensors.round = some ⟨.slope, slotAddress defaultSettings .slope, 3, false, false⟩ ∧ (hot .parked).sensorReceiver = .hunting
      ∧ (3 : Byte).toNat = slotAddress (hot .parked).settings (.grade .left .g3) ∧ (1 : Byte).toNat ≤ 1 ∧ ¬ (2 : Byte).toNat ≤ 1
      ∧ slotUsed (hot .parked).settings (.grade .left .g3) = true ∧ slotUsed (hot .parked).settings (.grade .left .g4) = false
      ∧ slotUsed (hot .parked).settings .slope = true := by decide +kernel

/-- The left side REFERENCING for the console, its capture due. -/
def capturing (s : State) : State := withSide .left { resetSide with state := .referencing, captureArmed := true } s

/-- R87: a capture due at a round end is taken before the judgement: GL1 at 3235 without a reference becomes its own reference, VALID. -/
theorem test_capture_before_judgement :
    let s := capturing (hot .parked)
    let read := setGradeSlot .left .g1 { resetGradeSlot with reading := 3235, cls := .noRef } s
    ((endRound true true read).gradeSlots.get .left).g1 = ⟨3235, true, 3235, .valid, 0⟩
      ∧ ((endRound true true read).sides.get .left).validCount = 1 ∧ ((endRound true true read).sides.get .left).state = .off := by
  decide +kernel

theorem witness_CaptureTakesFreshReadings :
    ((capturing (hot .parked)).sides.get .left).state = .referencing ∧ ((capturing (hot .parked)).sides.get .left).captureArmed = true
      ∧ ((withPort .oc (engagedPort 0) (capturing (hot .parked))).ports.get .oc).inFlight.isSome = true := by decide +kernel

theorem witness_FeedModeSetsOperation :
    portOpen (hot .paving) .oc = true ∧ 3 < (4 : Byte).toNat ∧ 2 < (3 : Byte).toNat ∧ (3 : Byte).toNat = feedCode .augR
      ∧ operationOfByte 2 = some .auto ∧ holds (hot .paving) .ls (.feed (feedSide .convL)) = false
      ∧ holds (hot .paving) .oc (.feed (feedSide .convL)) = true ∧ ((hot .paving).feed.get .convL).state = .off
      ∧ (hot .parked).mode = .parked ∧ ((feedManual (hot .paving)).feed.get .convL).state = .manual := by decide +kernel

/-- A feed channel in a state, a hold time in its last millisecond. -/
def feedIn (st : FeedState) (s : State) : State :=
  { s with feed := s.feed.set .convL { resetFeed with state := st, hold := 1, holdMs := 100 } }

/-- Raw 300 is the last valid value below raw_lo, 299 the first in FAULT; 3700 and 3701 above raw_hi. -/
theorem witness_FeedFollowsItsLevel :
    let level (raw : Nat) := judgeRaw (.level .convL) (defaultSettings.scaling.level.get .convL) raw resetAnalog
    (level 300).fault = false ∧ (level 299).fault = true ∧ (level 3700).fault = false ∧ (level 3701).fault = true
      ∧ ((feedIn .auto (hot .paving)).feed.get .convL).state = .auto ∧ ((feedIn .holdLast (hot .paving)).feed.get .convL).state = .holdLast
      ∧ ((feedIn .holdLast (hot .paving)).feed.get .convL).hold = 1 ∧ 100 ≤ ((feedIn .holdLast (hot .paving)).feed.get .convL).holdMs
      ∧ ((feedIn .sensorHold (hot .paving)).feed.get .convL).state = .sensorHold ∧ ((hot .paving).feed.get .convL).state = .off
      ∧ portOpen (hot .paving) .oc = true ∧ holds (hot .paving) .rs (.feed (feedSide .convL)) = false
      ∧ holds (hot .paving) .oc (.feed (feedSide .convL)) = true ∧ max 100 (min 900 (901 : Word).toInt) = 900 := by decide +kernel

theorem witness_ScanLinesAreAccumulated :
    (List.replicate 120 (600 : Half)).length = 120 ∧ (hot .paving).mode = .paving
      ∧ (hot .paving).travel.station = (hot .paving).travel.highWater ∧ (hot .paving).profiler.scanner = false
      ∧ (hot .parked).mode ≠ .paving ∧ (hot .paving).profiler.pixels[119]? = some ⟨0, 0⟩
      ∧ (List.replicate 120 (600 : Half))[119]? = some 600 ∧ sensorSync ∉ ([0xC2] : List Byte)
      ∧ (0 : Byte) ≠ checkByte [0x02, 7, 0, 0, 0] ∧ 2000 ≤ (atMoments (hot .paving)).profiler.lineSilence
      ∧ (hot .paving).sensorReceiver = .hunting ∧ (0x01 : Byte) ≠ 0x02 ∧ (0x01 : Byte) ≠ 0x03
      ∧ ({ hot .paving with sensorReceiver := .inFrame [sensorSync] 2 } : State).sensorReceiver = .inFrame [sensorSync] 2 := by
  decide +kernel

theorem witness_MarkTakesASlot :
    portOpen (hot .paving) .oc = true ∧ portOpen (hot .paving) .ru = true ∧ (1 : Byte) ≠ 0 ∧ (hot .parked).mode ≠ .paving
      ∧ (hot .parked).mode ≠ .paused ∧ portOpen (hot .parked) .oc = true ∧ (hot .paving).profiler.marks.length < 2
      ∧ 2 ≤ ([⟨1, .oc⟩, ⟨1, .oc⟩] : List MatMark).length := by decide +kernel

/-- The travel pulse input is low, and the next edge brings the station to the next mark. -/
def atMark (s : State) : State :=
  { s with
    inputs := { s.inputs with travelPulse := ⟨false, false, none⟩, travelDir := ⟨false, false, none⟩ }
    travel := { s.travel with pulseCount := 1999, station := 499, highWater := 499 } }

theorem witness_EdgesCloseIntervals :
    ((atMark (hot .paving)).settings.inputs.get .travelPulse).debounce = 0 ∧ (atMark (hot .paving)).inputs.travelPulse.pin ≠ true
      ∧ (atMark (hot .paving)).inputs.travelPulse.debounced ≠ true ∧ (atMark (hot .paving)).profiler.nextMark = some 500
      ∧ stationOf 0 2000 4000 = 500 ∧ inputActive (atMark (hot .paving)) .travelDir = false
      ∧ 0 < (atMark (hot .paving)).settings.recordInterval ∧ (atMark (hot .paving)).job.start ≤ 500
      ∧ (let r : DigIn := { pin := true, debounced := false, timer := some 0 }
         r.timer = some 0 ∧ r.pin = true ∧ r.debounced ≠ true) ∧ (hot .paving).inputs.travelPulse.pin ≠ false
      ∧ (hot .paving).inputs.travelPulse.debounced ≠ false := by decide +kernel

theorem witness_WriteJobBeginsAJob :
    portIdle State.reset .oc = true ∧ State.reset.mode = .starting ∧ (List.replicate 16 (0x41 : Byte)).length = 16
      ∧ portIdle (hot .parked) .oc = true ∧ (hot .parked).mode ≠ .starting ∧ holds (hot .parked) .ls .mode = false
      ∧ holds (hot .parked) .oc .mode = true ∧ holds (hot .paving) .oc .mode = true ∧ 2 < (3 : Byte).toNat
      ∧ (2 : Byte).toNat = layerCode .surface ∧ (15 : Byte).toNat ≤ 15 ∧ 15 < (16 : Byte).toNat ∧ (hot .parked).job.number ≤ 65535 := by
  decide +kernel

/-- The EVENT area with one record, 1. -/
def oneEvent (s : State) : State := appendEvent .feed (.feedHold .convL 0 0) s

theorem witness_RecordsAreReadAndAcknowledged :
    portIdle State.reset .oc = true ∧ State.reset.mode = .starting ∧ portIdle (oneEvent (hot .parked)) .oc = true
      ∧ 1 < (2 : Byte).toNat ∧ (1 : Byte).toNat ≤ 1 ∧ 8 < (9 : Byte).toNat ∧ (8 : Byte).toNat ≤ 8
      ∧ holds (hot .parked) .ls .records = false ∧ holds (oneEvent (hot .parked)) .oc .records = true
      ∧ (oneEvent (hot .parked)).events.held.length ≤ (oneEvent (hot .parked)).events.newest
      ∧ oldestOf (oneEvent (hot .parked)).events = 1 ∧ (oneEvent (hot .parked)).events.newest = 1
      ∧ (0 : Word).toNat < 1 ∧ 1 < (2 : Word).toNat ∧ (1 : Word).toNat ≤ 1 ∧ (oneEvent (hot .parked)).events.firstLost = none
      ∧ (hot .parked).mat.held.length ≤ (hot .parked).mat.newest := by decide +kernel

/-- 63, 64, 1984 and 1985, and the present capacity. -/
theorem witness_BoundaryChangeEmptiesAreas :
    portOpen (hot .parked) .oc = true ∧ holds (hot .parked) .oc .mode = true ∧ (hot .parked).mode = .parked
      ∧ (63 : Word).toInt < 64 ∧ 1984 < (1985 : Word).toInt ∧ (64 : Word).toInt = (64 : Nat) ∧ (1984 : Word).toInt = (1984 : Nat)
      ∧ (1792 : Word).toInt = ((hot .parked).settings.matCapacity : Nat) := by decide +kernel

theorem witness_WritesAreStored :
    itemWriteOf (.setGradeOffset .oc 1 .left .gradeOffset 301) = some (.oc, 1, .sideSetpoint .left .gradeOffset, 301)
      ∧ portOpen (hot .parked) .oc = true ∧ holds (hot .parked) .oc (.grade .left) = true
      ∧ itemWriteOf (.setReadinessBand .oc 1 300) = some (.oc, 1, .readinessBand, 300) ∧ setpointOwner .readinessBand = none
      ∧ holds (hot .parked) .oc .mode = true ∧ (hot .parked).mode = .parked ∧ budgetSound (hot .parked) = true
      ∧ inRange .readinessBand 10 = true ∧ inRange .readinessBand 300 = true ∧ inRange .readinessBand 301 = false
      ∧ furtherCheck (hot .parked) .readinessBand 300 = none
      ∧ furtherCheck (hot .parked) (.slotParam (.grade .left .g1) .weight) 4 = none := by decide +kernel

theorem witness_WritesItem : writesItem (.setItem .oc 1 1 128 50) .oc 1 .hysteresis 50 := ⟨by decide, .inr rfl⟩

theorem witness_WritesAreRefusedInOrder :
    itemWriteOf (.setGeneratorLimit .oc 1 49) = some (.oc, 1, .generatorLimit, 49) ∧ portOpen (hot .parked) .oc = true
      ∧ holds (hot .parked) .ls .mode = false ∧ holds (hot .parked) .oc .mode = true ∧ (hot .paving).mode ≠ .parked
      ∧ inRange .generatorLimit 9 = false ∧ inRange .generatorLimit 10 = true
      ∧ (10 : Int) < (((hot .parked).settings.zones.get .ml).rating : Int)
      ∧ ((hot .parked).settings.generatorLimit : Int) < 181 ∧ inRange (.rating .ml) 181 = true
      ∧ ((hot .parked).settings.scaling.get (.level .convL)).rawHi ≤ 3600 ∧ setpointOwner (.exclude .ml) = some .heat
      ∧ settingAt .budget 99 = none ∧ 13 < (14 : Byte).toNat ∧ (usedPlaces (hot .parked).settings .left).length < 4 := by decide +kernel

/-- A store being written, its request in flight. -/
def storing (s : State) : State :=
  withPort .oc (engagedPort 0) { s with store := { s.store with state := .writing image0 } }

theorem witness_StoreWritesItsSnapshot :
    portOpen (hot .ready) .oc = true ∧ holds (hot .ready) .ls .mode = false ∧ holds (hot .paving) .oc .mode = true
      ∧ portOpen (hot .paving) .oc = true ∧ (hot .paving).mode ≠ .parked ∧ (hot .paving).mode ≠ .ready ∧ (hot .ready).mode = .ready
      ∧ (hot .ready).store.state = .idle ∧ (storing (hot .ready)).store.state = .writing image0
      ∧ (storing (hot .ready)).ports.oc.inFlight = some ⟨6, 9⟩ := by decide +kernel

/-- Raw values at the tolerance bounds of an extension channel: 300 and 3700 valid, 299 and 3701 in FAULT. -/
theorem witness_ConversionIsJudged :
    let c := defaultSettings.scaling.get (.ext .left)
    ¬ ((300 : Int) < c.rawLo - c.tolerance) ∧ (299 : Int) < c.rawLo - c.tolerance ∧ ¬ (c.rawHi + c.tolerance < (3700 : Int))
      ∧ c.rawHi + c.tolerance < (3701 : Int) ∧ ((hot .parked).geometry.get .left).stale = false := by decide

/-- A feedback input changing to open while zone ML's check is in WATCH. -/
def watching (s : State) : State :=
  { s with
    zones := s.zones.set .ml { s.zones.get .ml with check := .watch }
    inputs := { s.inputs with feedback := s.inputs.feedback.set .ml { pin := false, debounced := true, timer := some 0 } } }

theorem witness_PinsAreDebounced :
    ((hot .paving).inputs.get .estop).pin = true ∧ ((hot .paving).settings.inputs.get .estop).debounce ≠ 0
      ∧ ((hot .paving).settings.inputs.get .travelPulse).debounce = 0 ∧ ((hot .paving).inputs.get .estop).timer ≠ some 0
      ∧ ((watching (cold .paving)).inputs.get (.feedback .ml)).timer = some 0
      ∧ ((watching (cold .paving)).inputs.get (.feedback .ml)).pin ≠ ((watching (cold .paving)).inputs.get (.feedback .ml)).debounced
      ∧ quiet (watching (cold .paving)) = true ∧ budgetSound (watching (cold .paving)) = true
      ∧ ((watching (cold .paving)).zones.get .ml).check = .watch := by decide +kernel

/-! ### Worked examples of spec/ -/

/-- The accumulators of section 8.7: pixels 33 and 82 take a value too, and are not valid. -/
def workedPixels : List Pixel :=
  List.replicate 33 ⟨0, 0⟩
    ++ ([100, 284, 283, 278, 273, 286, 288, 290, 289, 287, 290, 291, 292, 290, 289, 292, 293, 294, 293, 292, 294, 295, 296, 295, 294].map
      fun v => ⟨v, 1⟩)
    ++ ([293, 294, 295, 294, 293, 291, 290, 289, 288, 287, 285, 280, 236, 238, 281, 284, 283, 282, 281, 280, 279, 276, 272, 268, 100].map
      fun v => ⟨2 * v, 2⟩)
    ++ List.replicate 37 ⟨0, 0⟩

/-- The screed of section 8.7: 3000, extensions 1200 and 800. -/
def workedScreed (s : State) : State :=
  { s with
    geometry := ⟨{ resetExtension with position := 1200 }, { resetExtension with position := 800 }⟩
    profiler := { s.profiler with pixels := workedPixels, lines := 214 } }

/-- Section 8.7, worked example; COLD is bit 6 and DIFFERENTIAL bit 7 (section 12.4). -/
theorem test_reduction_worked_example :
    reduce (workedScreed (hot .paving))
      = { matMin := 236, matMax := 296, matMean := 285, cold := 2, flags := 64 + 128
          segments := [280, 288, 290, 293, 295, 294, 289, 264, 282, 274] } := by decide +kernel

/-- Section 4.5, worked sequence at t = 60, by the budget alone: ML at 125.0 rotates behind ER and TR, ER is granted and TR waits. -/
theorem test_rotation_worked_step :
    let heat := { satisfiedAt .pave 1300 with state := .heating }
    let wait := { satisfiedAt .pave 1300 with state := .waiting }
    let s : State :=
      { hot .paving with
        analog := { (hot .paving).analog with temp := PerZone.all (at_ 1250) }
        zones := ⟨heat, heat, heat, wait, resetZone, resetZone, heat, wait⟩
        queue := [.er, .tr], grants := [.ml, .mr, .el, .tl].map fun z => { zone := z, start := ⟨0, 0, 0, 0, 0⟩, elapsed := 60, subMs := 0 } }
    (expireSlice .ml s).queue = [.tr, .ml] ∧ (expireSlice .ml s).grants.map (·.zone) = [.mr, .el, .tl, .er]
      ∧ grantedSum (expireSlice .ml s) = 165 := by decide +kernel

/-- R9 and R10: GO(PAVE) in PARKED with a hot screed passes to PAVING, and its reply shows PAVING with pave-pending clear; the bytes are
those of section 12.2: 0xA5, LEN 3, KIND 6, TAG 9, target 1 and the CHECK that makes the sum 0. -/
theorem test_go_pave_frame :
    let t := receiveBytes .oc [0xA5, 0x03, 0x00, 0x06, 0x09, 0x01, 0xED] (hot .parked)
    t.mode = .paving ∧ t.pavePending = false ∧ t.events.newest = 3
      ∧ (t.ports.get .oc).sending = some { kind := 0x86, tag := 9, status := .ok, payload := [4, 0] } := by decide +kernel

/-- R161: the same frame cut in two within 2 ms is taken; with more than 2 ms between, it is discarded and counted. -/
theorem test_frame_in_two_parts :
    let cut (gap : Nat) (s : State) : State := { s with ports := { s.ports with oc := { s.ports.oc with
      receiver := match s.ports.oc.receiver with | .hunting => .hunting | .inFrame taken _ => .inFrame taken gap } } }
    let first := receiveBytes .oc [0x00, 0xA5, 0x03, 0x00, 0x06] (hot .parked)
    (receiveBytes .oc [0x09, 0x01, 0xED] (cut 2 first)).mode = .paving
      ∧ (receiveBytes .oc [0x09, 0x01, 0xED] (cut 3 first)).mode = .parked
      ∧ ((receiveBytes .oc [0x09, 0x01, 0xED] (cut 3 first)).ports.get .oc).frameErrors = 1 := by decide +kernel

/-- Sections 12.1 and 12.3: STATUS of a machine in STARTING: 32 bytes of payload, so LEN is 35, every function free. -/
theorem test_status_payload_at_reset :
    statusPayload State.reset .oc
      = [0, 0, 0, 0] ++ List.replicate 9 0xFF ++ [0, 0, 0] ++ List.replicate 16 0 := by decide +kernel

/-- R151 and section 9.10, steps 9 and 10: of the records 190 to 196, eight asked from 190 are answered PARTIAL, and from 197 OK without records. -/
theorem test_read_worked_steps :
    let a : Area Nat := { (resetArea : Area Nat) with held := List.range' 133 64, newest := 196, ackPoint := 140 }
    readReply a u32 190 8
        = { status := .partialOk, payload := u32 133 ++ ([190, 191, 192, 193, 194, 195, 196].map u32).flatten }
      ∧ readReply a u32 197 8 = { status := .ok, payload := u32 133 }
      ∧ readReply a u32 131 8 = { status := .gone, payload := u32 133 } := by decide +kernel

/-- One millisecond passes on an empty queue: the running speed window and the silence times count it (assumption 7). -/
theorem test_idle_step_counts : ∃ t, step (hot .paving) = .next t ∧ t.travel.windowMs = 1 ∧ t.pending = [] := ⟨_, rfl, by decide +kernel⟩

end Sys2Proof.Tests
end

section
/-! PROOFS. What the mode rules and the heating rules read of the state (`heatView`), and the walk over the commands: a predicate that reads no more
than the view, and that the operations of `KeptByBlocks` keep, is kept by every step. The walk is made once, for the ports, the receivers and every
request and event; each invariant then owes only the fields of `KeptByBlocks`. -/

namespace Sys2Proof.Machine

open Sys2Proof

/-! ### The view -/

/-- What the mode rules and the heating rules read: the mode controller's fields, the zones, the queue and the grant list, the temperature channels,
the extension positions and the settings. Every other field stands at its reset value. -/
def heatView (s : State) : State :=
  { State.reset with
    mode := s.mode, pavePending := s.pavePending, readiness := s.readiness, failing := s.failing, estop := s.estop
    geometry := ⟨{ resetExtension with position := s.geometry.left.position },
      { resetExtension with position := s.geometry.right.position }⟩
    zones := s.zones, queue := s.queue, grants := s.grants
    analog := { State.reset.analog with temp := s.analog.temp }, settings := s.settings }

theorem heatView_of_ports {s t : State} (h : hidePorts t = hidePorts s) : heatView t = heatView s := by
  have e := congrArg heatView h; exact e

theorem heatView_of_events {s t : State} (h : hideEvents t = hideEvents s) : heatView t = heatView s := by
  have e := congrArg heatView h; exact e

theorem heatView_of_sides {s t : State} (h : hideSides t = hideSides s) : heatView t = heatView s := by
  have e := congrArg heatView h; exact e

theorem heatView_of_feeds {s t : State} (h : hideFeeds t = hideFeeds s) : heatView t = heatView s := by
  have e := congrArg heatView h; exact e

theorem heatView_of_travel {s t : State} (h : hideTravel t = hideTravel s) : heatView t = heatView s := by
  have e := congrArg heatView h; exact e

theorem heatView_of_round {s t : State} (h : hideRound t = hideRound s) : heatView t = heatView s := by
  have e := congrArg heatView h; exact e

@[simp] theorem heatView_appendEvent (o : Origin) (e : Event) (s : State) : heatView (appendEvent o e s) = heatView s :=
  heatView_of_events (hideEvents_appendEvent o e s)

/-- A width jog that ends leaves the extension positions. -/
@[simp] theorem heatView_endWidthJog (k : WidthEnd) (d : Side) (s : State) : heatView (endWidthJog k d s) = heatView s := by
  unfold endWidthJog
  dsimp only
  split
  · rfl
  · cases d <;> rfl

@[simp] theorem heatView_startWidthJog (d : Side) (k : WidthDir) (n : Nat) (s : State) :
    heatView (startWidthJog d k n s) = heatView s := by
  have h : heatView (startWidthJog d k n s) = heatView (endWidthJog .replaced d s) := by cases d <;> rfl
  rw [h, heatView_endWidthJog]

@[simp] theorem heatView_endJogsUnder (f : Function) (s : State) : heatView (endJogsUnder f s) = heatView s := by
  cases f with
  | grade d => exact heatView_of_sides (hideSides_endGradeJog d .authority s)
  | feed d =>
    cases d <;> exact (heatView_of_feeds (hideFeeds_endFeedJog _ _ _)).trans (heatView_of_feeds (hideFeeds_endFeedJog _ _ _))
  | width d => exact heatView_endWidthJog .authority d s
  | mode | heat | records => rfl

@[simp] theorem heatView_takeOver (f : Function) (q : Port) (s : State) : heatView (takeOver f q s) = heatView s := by
  simp only [takeOver, heatView_appendEvent, heatView_endJogsUnder]
  rfl

@[simp] theorem heatView_loseFunction (p : Port) (s : State) (f : Function) : heatView (loseFunction p s f) = heatView s := by
  unfold loseFunction
  split
  · simp only [heatView_appendEvent, heatView_endJogsUnder]
    rfl
  · rfl

theorem heatView_loseEach (p : Port) (fs : List Function) (s : State) : heatView (fs.foldl (loseFunction p) s) = heatView s := by
  induction fs generalizing s with
  | nil => rfl
  | cons f fs ih => rw [List.foldl_cons, ih, heatView_loseFunction]

@[simp] theorem heatView_clearHealthOf (z : Option Zone) (p : Port) (s : State) : heatView (clearHealthOf z p s) = heatView s := by
  unfold clearHealthOf
  cases z <;> simp only [heatView_appendEvent] <;> rfl

/-- R157: a job begins without the mode controller or the zones seeing it. -/
theorem heatView_beginJob (p : Port) (road : List Byte) (lane : Nat) (layer : Layer) (start : Int) (s : State) :
    heatView (beginJob p road lane layer start s) = heatView s := by
  unfold beginJob recordJob
  dsimp only
  rw [heatView_appendEvent]
  rfl

/-! ### What an invariant owes -/

/-- The operations that write what `heatView` shows, each keeping `P`. A predicate with these fields is kept by every step (`step_keeps`). -/
structure KeptByBlocks (P : State → Prop) : Prop where
  view : ∀ {s}, P s → ∀ {t}, heatView t = heatView s → P t
  reset : ∀ s, P s → P (resetFrom s)
  load : ∀ b s, P s → P (completeLoad b s)
  go : ∀ p g s t, s.estop = false → goEffect p g s = some t → P s → P t
  pause : ∀ s, s.mode = .paving → P s → P (firePause s)
  window : ∀ s, P s → P (endWindow s)
  stop : ∀ s, P s → P (matchStop s)
  assertEstop : ∀ s, P s → P (assertEstop s)
  releaseEstop : ∀ s, P s → P (releaseEstop s)
  modeFreed : ∀ s, P s → P (modeFreed s)
  temperature : ∀ z r s, P s → P (settleReadiness (zoneConversion z (setAnalog (.temp z) r s)))
  extension : ∀ d s, P s → P (settleReadiness (extConversion d s))
  feedback : ∀ z s, P s → P (settleReadiness (feedbackChange z s))
  check : ∀ z s, checkReached s z = true → P s → P (settleReadiness (checkDelayEnd z s))
  slice : ∀ z s, sliceReached s z = true → P s → P (settleReadiness (expireSlice z s))
  clear : ∀ z p s, P s → P (settleReadiness (clearLatch z p s))
  config : ∀ x v s, s.mode = .parked → setpointOwner x = none → inRange x v = true → furtherCheck s x v = none → P s →
    P (applySetting x v s)
  setpoint : ∀ x v f s, setpointOwner x = some f → P s → P (applySetting x v s)
  elapse : ∀ s, P s → P (elapse s)

variable {P : State → Prop}

/-! ### Requests -/

theorem serveWrite_keeps (K : KeptByBlocks P) (p : Port) (x : Setting) (v : Word) {s : State} (h : P s) :
    P (serveWrite p x v s).1 := by
  unfold serveWrite
  split
  · exact h
  · split
    · rename_i owner hx
      unfold serveSetpoint
      split
      · exact h
      · exact K.setpoint x _ owner s hx h
    · rename_i hx
      unfold serveConfiguration
      split
      · exact h
      · split
        · exact h
        · rename_i hm
          split
          · exact h
          · rename_i hr
            split
            · exact h
            · rename_i hc
              exact K.config x _ s (by simpa using hm) hx (by simpa using hr) hc h

theorem serveSlotWrite_keeps (K : KeptByBlocks P) (p : Port) (slot : Slot) (param : SlotParam) (v : Word) {s : State} (h : P s) :
    P (serveSlotWrite p slot param v s).1 := by
  unfold serveSlotWrite
  split
  · exact h
  · exact serveWrite_keeps K p _ v h

theorem serveSetItem_keeps (K : KeptByBlocks P) (p : Port) (group : Byte) (index : Half) (v : Word) {s : State} (h : P s) :
    P (serveSetItem p group index v s).1 := by
  unfold serveSetItem
  split
  · exact h
  · split
    · exact serveWrite_keeps K p _ v h
    · split <;> exact h

theorem serveReadItem_state (group : Byte) (first : Half) (count : Byte) (s : State) : (serveReadItem group first count s).1 = s := by
  unfold serveReadItem
  split
  · rfl
  · split
    · rfl
    · split <;> rfl

theorem serveTake_keeps (K : KeptByBlocks P) (p : Port) (function override : Byte) {s : State} (h : P s) :
    P (serveTake p function override s).1 := by
  unfold serveTake
  split
  · exact h
  · split
    · exact h
    · split
      · exact K.view h rfl
      · split
        · exact h
        · split
          · exact K.view h (heatView_takeOver _ _ s)
          · exact h

theorem serveRelease_keeps (K : KeptByBlocks P) (p : Port) (function : Byte) {s : State} (h : P s) :
    P (serveRelease p function s).1 := by
  unfold serveRelease
  split
  · exact h
  · rename_i f _
    split
    · exact h
    · have hf : P (endJogsUnder f (setHolder f none s)) := K.view h ((heatView_endJogsUnder f _).trans rfl)
      dsimp only [done]
      split
      · exact K.modeFreed _ hf
      · exact hf

theorem serveGo_keeps (K : KeptByBlocks P) (p : Port) (target : Byte) {s : State} (h : P s) : P (serveGo p target s).1 := by
  unfold serveGo
  split
  · exact h
  · split
    · exact h
    · rename_i g _
      split
      · exact h
      · rename_i he
        split
        · exact h
        · rename_i t ht
          exact K.go p g s t (by simpa using he) ht h

theorem serveSideMode_keeps (K : KeptByBlocks P) (p : Port) (side target : Byte) {s : State} (h : P s) :
    P (serveSideMode p side target s).1 := by
  unfold serveSideMode
  split
  · dsimp only
    repeat' split
    all_goals first | exact h | exact K.view h (heatView_of_sides (hideSides_changeSide _ _ s))
  · exact h

theorem serveSetReference_keeps (K : KeptByBlocks P) (p : Port) (side : Byte) {s : State} (h : P s) :
    P (serveSetReference p side s).1 := by
  unfold serveSetReference
  split
  · exact h
  · dsimp only
    repeat' split
    all_goals first | exact h | exact K.view h rfl

theorem serveJogGrade_keeps (K : KeptByBlocks P) (p : Port) (d : Side) (direction duration : Byte) {s : State} (h : P s) :
    P (serveJogGrade p d direction duration s).1 := by
  unfold serveJogGrade
  repeat' split
  all_goals first | exact h | exact K.view h (heatView_of_sides (hideSides_startGradeJog _ _ _ s))

theorem serveJogFeed_keeps (K : KeptByBlocks P) (p : Port) (c : FeedChannel) (duration : Byte) {s : State} (h : P s) :
    P (serveJogFeed p c duration s).1 := by
  unfold serveJogFeed
  repeat' split
  all_goals first | exact h | exact K.view h (heatView_of_feeds (hideFeeds_startFeedJog _ _ s))

theorem serveJogWidth_keeps (K : KeptByBlocks P) (p : Port) (d : Side) (direction duration : Byte) {s : State} (h : P s) :
    P (serveJogWidth p d direction duration s).1 := by
  unfold serveJogWidth
  repeat' split
  all_goals first | exact h | exact K.view h (heatView_startWidthJog _ _ _ s)

theorem serveJog_keeps (K : KeptByBlocks P) (p : Port) (target direction duration : Byte) {s : State} (h : P s) :
    P (serveJog p target direction duration s).1 := by
  unfold serveJog
  split
  · exact serveJogGrade_keeps K p .left direction duration h
  · exact serveJogGrade_keeps K p .right direction duration h
  · exact serveJogFeed_keeps K p .convL duration h
  · exact serveJogFeed_keeps K p .convR duration h
  · exact serveJogFeed_keeps K p .augL duration h
  · exact serveJogFeed_keeps K p .augR duration h
  · exact serveJogWidth_keeps K p .left direction duration h
  · exact serveJogWidth_keeps K p .right direction duration h
  · exact h

theorem serveFeedMode_keeps (K : KeptByBlocks P) (p : Port) (channel target : Byte) {s : State} (h : P s) :
    P (serveFeedMode p channel target s).1 := by
  unfold serveFeedMode
  split
  · dsimp only
    repeat' split
    all_goals first | exact h | exact K.view h (heatView_of_feeds (hideFeeds_changeFeed _ _ s))
  · exact h

theorem serveClearFault_keeps (K : KeptByBlocks P) (p : Port) (zone : Byte) {s : State} (h : P s) :
    P (serveClearFault p zone s).1 := by
  unfold serveClearFault
  repeat' split
  all_goals first | exact h | exact K.clear _ p s h

theorem serveClearHealth_keeps (K : KeptByBlocks P) (p : Port) (zone : Byte) {s : State} (h : P s) :
    P (serveClearHealth p zone s).1 := by
  unfold serveClearHealth
  repeat' split
  all_goals first | exact h | exact K.view h (heatView_clearHealthOf _ p s)

theorem serveMark_keeps (K : KeptByBlocks P) (p : Port) (code : Byte) {s : State} (h : P s) : P (serveMark p code s).1 := by
  unfold serveMark
  repeat' split
  all_goals first | exact h | exact K.view h rfl

theorem serveRoadJob_keeps (K : KeptByBlocks P) (p : Port) (road : List Byte) (lane layer : Byte) (start : Word) {s : State} (h : P s) :
    P (serveRoadJob p road lane layer start s).1 := by
  unfold serveRoadJob serveWriteJob
  repeat' split
  all_goals first | exact h | exact K.view h (heatView_beginJob p road _ _ _ s)

theorem serveReadRecords_state (area : Byte) (start : Word) (count : Byte) (s : State) : (serveReadRecords area start count s).1 = s := by
  unfold serveReadRecords
  split
  · rfl
  · split
    · rfl
    · dsimp only
      split <;> rfl

theorem serveAckRecords_keeps (K : KeptByBlocks P) (p : Port) (area : Byte) (sequence : Word) {s : State} (h : P s) :
    P (serveAckRecords p area sequence s).1 := by
  unfold serveAckRecords
  repeat' split
  all_goals first | exact h | exact K.view h rfl

theorem serveSetClock_keeps (K : KeptByBlocks P) (p : Port) (day : Half) (hour minute second : Byte) {s : State} (h : P s) :
    P (serveSetClock p day hour minute second s).1 := by
  unfold serveSetClock
  split
  · exact h
  · exact K.view h ((heatView_appendEvent _ _ _).trans rfl)

theorem serveStoreSettings_keeps (K : KeptByBlocks P) (p : Port) {s : State} (h : P s) : P (serveStoreSettings p s).1 := by
  unfold serveStoreSettings
  repeat' split
  all_goals first | exact h | exact K.view h rfl

theorem serveRequest_keeps (K : KeptByBlocks P) (p : Port) (q : Request) {s : State} (h : P s) : P (serveRequest p q s).1 := by
  cases q with
  | status => exact h
  | readItem g f n => exact (serveReadItem_state g f n s).symm ▸ h
  | setItem g i v => exact serveSetItem_keeps K p g i v h
  | take f o => exact serveTake_keeps K p f o h
  | release f => exact serveRelease_keeps K p f h
  | go g => exact serveGo_keeps K p g h
  | sideMode d g => exact serveSideMode_keeps K p d g h
  | setReference d => exact serveSetReference_keeps K p d h
  | jog g d n => exact serveJog_keeps K p g d n h
  | feedMode c g => exact serveFeedMode_keeps K p c g h
  | clearFault z => exact serveClearFault_keeps K p z h
  | clearHealth z => exact serveClearHealth_keeps K p z h
  | mark c => exact serveMark_keeps K p c h
  | writeJob r l y n => exact serveRoadJob_keeps K p r l y n h
  | readRecords a n c => exact (serveReadRecords_state a n c s).symm ▸ h
  | ackRecords a n => exact serveAckRecords_keeps K p a n h
  | setClock a b c d => exact serveSetClock_keeps K p a b c d h
  | storeSettings => exact serveStoreSettings_keeps K p h

/-! ### Lines -/

/-- A frame taken by a port keeps what its service keeps. -/
theorem takeFrame_keeps (K : KeptByBlocks P) {p : Port} {kind tag : Byte} {serve : State → Served}
    (hs : ∀ s, P s → P (serve s).1) {s : State} (h : P s) : P (takeFrame p kind tag serve s) := by
  rcases hidePorts_takeFrame p kind tag serve s with e | e
  · exact K.view h (heatView_of_ports e)
  · exact K.view (hs (openRequest p kind tag (hearFrame p s)) (K.view h rfl)) (heatView_of_ports e)

theorem takeRawFrame_keeps (K : KeptByBlocks P) (p : Port) (kind tag : Byte) (payload : List Byte) {s : State} (h : P s) :
    P (takeRawFrame p kind tag payload s) := by
  refine takeFrame_keeps K (fun s h => ?_) h
  unfold serveFrame
  split
  · exact h
  · exact serveRequest_keeps K p _ h

theorem takeFrameBytes_keeps (K : KeptByBlocks P) (p : Port) (body : List Byte) {s : State} (h : P s) :
    P (takeFrameBytes p body s) := by
  unfold takeFrameBytes
  split
  · exact takeRawFrame_keeps K p _ _ _ h
  · exact h

/-- R161: the receiver of a port, whatever frames its bytes make. -/
theorem receive_keeps (K : KeptByBlocks P) (p : Port) (n : Nat) (bytes : List Byte) {s : State} (h : P s) :
    P (receive p n bytes s) := by
  induction n generalizing bytes s with
  | zero => exact h
  | succ n ih =>
    cases bytes with
    | nil => exact h
    | cons b rest =>
      unfold receive
      split
      · exact ih _ h
      · split
        · dsimp only
          split
          · exact ih _ (K.view h rfl)
          · split
            · exact K.view h rfl
            · split
              · exact ih _ (takeFrameBytes_keeps K p _ h)
              · exact ih _ (K.view h rfl)
        · exact K.view h rfl

theorem receiveBytes_keeps (K : KeptByBlocks P) (p : Port) (bytes : List Byte) {s : State} (h : P s) :
    P (receiveBytes p bytes s) := by
  unfold receiveBytes
  dsimp only
  split
  · exact receive_keeps K p _ _ h
  · split
    · exact h
    · split
      · exact receive_keeps K p _ _ (K.view h rfl)
      · exact receive_keeps K p _ _ (K.view h rfl)

theorem heatView_takePollReply (a b : Byte) (n : Half) (s : State) : heatView (takePollReply a b n s) = heatView s := by
  unfold takePollReply
  split
  · rfl
  · split
    · exact heatView_of_round (hideRound_completePoll _ s)
    · rfl

theorem heatView_takeSensorFrame (kind : Byte) (body : List Byte) (s : State) : heatView (takeSensorFrame kind body s) = heatView s := by
  unfold takeSensorFrame
  split
  · split
    · exact heatView_of_travel (hideTravel_takeScanLine _ _ s)
    · split
      · exact heatView_takePollReply _ _ _ s
      · rfl
  · rfl

/-- R185: nothing on the sensor line reaches the mode controller or the zones. -/
theorem heatView_receiveSensor (n : Nat) (bytes : List Byte) (s : State) : heatView (receiveSensor n bytes s) = heatView s := by
  induction n generalizing bytes s with
  | zero => rfl
  | succ n ih =>
    cases bytes with
    | nil => rfl
    | cons b rest =>
      unfold receiveSensor
      split
      · exact ih _ s
      · split
        · rfl
        · split
          · exact ih _ s
          · split
            · rfl
            · split
              · rw [ih, heatView_takeSensorFrame]
              · exact ih _ s

theorem heatView_receiveSensorBytes (bytes : List Byte) (s : State) : heatView (receiveSensorBytes bytes s) = heatView s := by
  unfold receiveSensorBytes
  split
  · exact heatView_receiveSensor _ _ s
  · split
    · rfl
    · split
      · exact (heatView_receiveSensor _ _ _).trans rfl
      · exact (heatView_receiveSensor _ _ _).trans rfl

/-! ### Events -/

/-- A timed command keeps what its act keeps at its moment. -/
theorem atMoment_keeps {b : Bool} {act : State → State} {s : State} (hs : b = true → P (act s)) (h : P s) : P (atMoment b act s) := by
  cases b
  · exact h
  · exact hs rfl

theorem linkSilent_keeps (K : KeptByBlocks P) (p : Port) {s : State} (h : P s) : P (linkSilent p s) := by
  unfold linkSilent loseAll
  have hl (u : State) (hu : P u) : P (allFunctions.foldl (loseFunction p) u) := K.view hu (heatView_loseEach p _ u)
  have hd : P (setPort p { s.ports.get p with up := false } s) := K.view h rfl
  dsimp only
  split
  · exact K.modeFreed _ (hl _ hd)
  · exact hl _ hd

theorem heatView_endStoreWrite (a b : Bool) (s : State) : heatView (endStoreWrite a b s) = heatView s := by
  unfold endStoreWrite
  split
  · rfl
  · split
    · exact (heatView_of_ports (hidePorts_answerPort _ _ _)).trans rfl
    · unfold storeFailed
      rw [heatView_appendEvent]
      exact (heatView_of_ports (hidePorts_answerPort _ _ _)).trans rfl

theorem convert_keeps (K : KeptByBlocks P) (a : AnalogChannel) (raw : BitVec 12) {s : State} (h : P s) : P (convert a raw s) := by
  cases a with
  | temp z => exact K.temperature z _ s h
  | ext d => exact K.extension d _ (K.view h rfl)
  | level c => exact K.view h ((heatView_of_feeds (hideFeeds_feedConversion c _)).trans rfl)

theorem consumeLevel_keeps (K : KeptByBlocks P) (i : DigitalInput) (level : Bool) {s : State} (h : P s) :
    P (consumeLevel i level s) := by
  cases i with
  | travelPulse =>
    simp only [consumeLevel]
    split
    · exact K.view h (heatView_of_travel (hideTravel_countEdge s))
    · exact h
  | travelDir => exact h
  | estop =>
    simp only [consumeLevel]
    split
    · exact K.assertEstop s h
    · exact K.releaseEstop s h
  | feedback z => exact K.feedback z s h

theorem takeLevel_keeps (K : KeptByBlocks P) (i : DigitalInput) {s : State} (h : P s) : P (takeLevel i s) := by
  have ht : P (setInput i { s.inputs.get i with debounced := (s.inputs.get i).pin, timer := none } s) := K.view h rfl
  unfold takeLevel
  dsimp only
  split
  · exact ht
  · exact consumeLevel_keeps K i _ ht

theorem changePin_keeps (K : KeptByBlocks P) (i : DigitalInput) (level : Bool) {s : State} (h : P s) : P (changePin i level s) := by
  unfold changePin
  dsimp only
  split
  · exact h
  · split
    · exact takeLevel_keeps K i (K.view h rfl)
    · exact K.view h rfl

theorem heatView_raiseScanner (s : State) : heatView (raiseScanner s) = heatView s := heatView_appendEvent _ _ _

/-! ### Every command, every step -/

theorem exec_keeps (K : KeptByBlocks P) {c : Instr} {s t : State} (h : P s) (e : exec c s = .next t) : P t := by
  have request {p k tag serve} (hs : ∀ s, P s → P (Prod.fst (serve s))) (e : takeRequest p k tag serve s = t) : P t :=
    e ▸ takeFrame_keeps K hs h
  have write {p tag x v} (e : takeRequest p .setItem tag (serveWrite p x v) s = t) : P t :=
    request (fun _ => serveWrite_keeps K p x v) e
  cases c <;> (injection e with e)
  case reset => exact e ▸ K.reset s h
  case settingsLoadComplete b => exact e ▸ K.load b s h
  case frameError p bytes => exact e ▸ receiveBytes_keeps K p bytes h
  case frameGapExpiry p => exact e ▸ atMoment_keeps (fun _ => K.view h rfl) h
  case linkDown p => exact e ▸ atMoment_keeps (fun _ => linkSilent_keeps K p h) h
  case busy p kind tag payload => exact e ▸ takeRawFrame_keeps K p kind tag payload h
  case unknownRequest p kind tag payload => exact e ▸ takeRawFrame_keeps K p kind tag payload h
  case replySent p => exact e ▸ K.view h rfl
  case status p tag => exact request (fun _ h => h) e
  case readItem p tag g f n => exact request (fun s h => (serveReadItem_state g f n s).symm ▸ h) e
  case setItem p tag g i v => exact request (fun _ => serveSetItem_keeps K p g i v) e
  case setSlotAddressWeight p tag x a v => exact request (fun _ => serveSlotWrite_keeps K p x a v) e
  case take p tag f o => exact request (fun _ => serveTake_keeps K p f o) e
  case release p tag f => exact request (fun _ => serveRelease_keeps K p f) e
  case go p tag g => exact request (fun _ => serveGo_keeps K p g) e
  case sideMode p tag d g => exact request (fun _ => serveSideMode_keeps K p d g) e
  case setReference p tag d => exact request (fun _ => serveSetReference_keeps K p d) e
  case jogGrade p tag d a n => exact request (fun _ => serveJogGrade_keeps K p d a n) e
  case jogFeed p tag c a n => exact request (fun _ => serveJogFeed_keeps K p c n) e
  case jogWidth p tag d a n => exact request (fun _ => serveJogWidth_keeps K p d a n) e
  case feedMode p tag c g => exact request (fun _ => serveFeedMode_keeps K p c g) e
  case clearFault p tag z => exact request (fun _ => serveClearFault_keeps K p z) e
  case clearHealth p tag z => exact request (fun _ => serveClearHealth_keeps K p z) e
  case mark p tag n => exact request (fun _ => serveMark_keeps K p n) e
  case writeJob p tag r l y n => exact request (fun _ => serveRoadJob_keeps K p r l y n) e
  case readRecords p tag a n k => exact request (fun s h => (serveReadRecords_state a n k s).symm ▸ h) e
  case ackRecords p tag a n => exact request (fun _ => serveAckRecords_keeps K p a n) e
  case setClock p tag a b c d => exact request (fun _ => serveSetClock_keeps K p a b c d) e
  case storeSettings p tag => exact request (fun _ => serveStoreSettings_keeps K p) e
  case storeWriteEnd a b => exact e ▸ K.view h (heatView_endStoreWrite a b s)
  case analogConversion a raw => exact e ▸ convert_keeps K a raw h
  case feedHoldExpiry c =>
    exact e ▸ atMoment_keeps (fun _ => K.view h (heatView_of_feeds (hideFeeds_expireHold c s))) h
  case pinChange i l => exact e ▸ changePin_keeps K i l h
  case debounceExpiry i => exact e ▸ atMoment_keeps (fun _ => takeLevel_keeps K i h) h
  case elementCheckDelayEnd z => exact e ▸ atMoment_keeps (fun hr => K.check z s hr h) h
  case sliceExpiry z => exact e ▸ atMoment_keeps (fun hr => K.slice z s hr h) h
  case speedWindowEnd => exact e ▸ atMoment_keeps (fun _ => K.window s h) h
  case pauseDetectorFire =>
    refine e ▸ atMoment_keeps (fun hr => K.pause s ?_ h) h
    simp only [pauseReached, Bool.and_eq_true, decide_eq_true_eq] at hr
    exact hr.1
  case stopTimerMatch => exact e ▸ atMoment_keeps (fun _ => K.stop s h) h
  case clockStep => exact e ▸ atMoment_keeps (fun _ => K.view h rfl) h
  case widthJogExpiry d => exact e ▸ atMoment_keeps (fun _ => K.view h (heatView_endWidthJog _ d s)) h
  case gradeJogExpiry d =>
    exact e ▸ atMoment_keeps (fun _ => K.view h (heatView_of_sides (hideSides_endGradeJog d _ s))) h
  case feedJogExpiry c =>
    exact e ▸ atMoment_keeps (fun _ => K.view h (heatView_of_feeds (hideFeeds_endFeedJog _ c s))) h
  case sensorRoundStart => exact e ▸ atMoment_keeps (fun _ => K.view h (heatView_of_round (hideRound_startRound s))) h
  case pollReply a b n => exact e ▸ K.view h ((heatView_takePollReply a b n _).trans rfl)
  case pollTimeout => exact e ▸ atMoment_keeps (fun _ => K.view h (heatView_of_round (hideRound_completePoll _ s))) h
  case sensorFrameDiscard bytes => exact e ▸ K.view h (heatView_receiveSensorBytes bytes s)
  case sensorFrameGapExpiry => exact e ▸ atMoment_keeps (fun _ => K.view h rfl) h
  case scanLine n px => exact e ▸ K.view h ((heatView_of_travel (hideTravel_takeScanLine n px _)).trans rfl)
  case scanner => exact e ▸ atMoment_keeps (fun _ => K.view h (heatView_raiseScanner s)) h
  case heatingMinute z => exact e ▸ atMoment_keeps (fun _ => K.view h rfl) h
  all_goals exact write e

/-- What the blocks keep, every step keeps. -/
theorem step_keeps (K : KeptByBlocks P) {s t : State} (h : P s) (e : step s = .next t) : P t := by
  unfold step at e
  split at e
  · injection e with e
    exact e ▸ K.view (K.elapse s h) rfl
  · rename_i c rest _
    exact exec_keeps K (s := { s with pending := rest }) (K.view h rfl) e

end Sys2Proof.Machine
end

section
/-! PROOFS. The mode controller: what the blocks' reactions leave alone, where the readiness chain leaves the mode and pave-pending, and the mode
rules kept by every step (R1, R10, R11, R16). -/

namespace Sys2Proof.Machine

open Sys2Proof

/-! ### What the blocks' reactions leave alone -/

/-- What the blocks write when they see the mode: the reaction of `hideReaction` without the mode controller's own fields. -/
def hideBlocks (s : State) : State :=
  { hideHeat s with
    travel := resetTravel, sides := PerSide.all resetSide, feed := PerFeed.all resetFeed, profiler := resetProfiler }

theorem hideBlocks_of_heat {s t : State} (h : hideHeat t = hideHeat s) : hideBlocks t = hideBlocks s := by
  have e := congrArg hideBlocks h; exact e

theorem hideBlocks_of_sides {s t : State} (h : hideSides t = hideSides s) : hideBlocks t = hideBlocks s := by
  have e := congrArg hideBlocks h; exact e

theorem hideBlocks_of_feeds {s t : State} (h : hideFeeds t = hideFeeds s) : hideBlocks t = hideBlocks s := by
  have e := congrArg hideBlocks h; exact e

/-- What the profiler writes when it sees the mode. -/
theorem profilerSeesMode_eq (old : Mode) (s : State) :
    profilerSeesMode old s
      = { s with
          profiler := { s.profiler with
            scanner := (profilerSeesMode old s).profiler.scanner, flags := (profilerSeesMode old s).profiler.flags }
          events := (profilerSeesMode old s).events } := by
  unfold profilerSeesMode raiseScanner raiseFlags
  dsimp only
  split
  · rfl
  · split <;> split
    all_goals first | rfl | (simp only [appendEvent_eq]; rfl)

/-- What the travel unit writes when it sees the mode. -/
theorem travelSeesMode_eq (old : Mode) (s : State) : travelSeesMode old s = { s with travel := (travelSeesMode old s).travel } := by
  unfold travelSeesMode restartStop
  repeat' split
  all_goals rfl

@[simp] theorem travelSeesMode_same (s : State) : travelSeesMode s.mode s = s := by simp [travelSeesMode]

@[simp] theorem hideBlocks_blocksSee (old : Mode) (run e : Bool) (s : State) :
    hideBlocks (blocksSee old run e s) = hideBlocks s := by
  unfold blocksSee
  dsimp only
  rw [profilerSeesMode_eq]
  refine (hideBlocks_of_feeds (hideFeeds_feedsSeeMode _ _ _)).trans ?_
  rw [hideBlocks_of_sides (hideSides_sidesSeeMode _ _ _ _)]
  split
  · rfl
  · rw [hideBlocks_of_heat (hideHeat_zonesSeeMode _ _), travelSeesMode_eq]
    rfl

theorem modes_of_blocks {s t : State} (h : hideBlocks t = hideBlocks s) :
    t.mode = s.mode ∧ t.pavePending = s.pavePending ∧ t.readiness = s.readiness ∧ t.failing = s.failing ∧ t.estop = s.estop := by
  have mode := congrArg State.mode h
  have pavePending := congrArg State.pavePending h
  have readiness := congrArg State.readiness h
  have failing := congrArg State.failing h
  have estop := congrArg State.estop h
  exact ⟨mode, pavePending, readiness, failing, estop⟩

theorem estop_of_reaction {s t : State} (h : hideReaction t = hideReaction s) : t.estop = s.estop := by
  have e := congrArg State.estop h
  exact e

@[simp] theorem blocksSee_mode (old : Mode) (run e : Bool) (s : State) : (blocksSee old run e s).mode = s.mode :=
  (modes_of_blocks (hideBlocks_blocksSee old run e s)).1

@[simp] theorem blocksSee_pavePending (old : Mode) (run e : Bool) (s : State) :
    (blocksSee old run e s).pavePending = s.pavePending := (modes_of_blocks (hideBlocks_blocksSee old run e s)).2.1

@[simp] theorem blocksSee_readiness (old : Mode) (run e : Bool) (s : State) : (blocksSee old run e s).readiness = s.readiness :=
  (modes_of_blocks (hideBlocks_blocksSee old run e s)).2.2.1

@[simp] theorem blocksSee_failing (old : Mode) (run e : Bool) (s : State) : (blocksSee old run e s).failing = s.failing :=
  (modes_of_blocks (hideBlocks_blocksSee old run e s)).2.2.2.1

@[simp] theorem blocksSee_estop (old : Mode) (run e : Bool) (s : State) : (blocksSee old run e s).estop = s.estop :=
  (modes_of_blocks (hideBlocks_blocksSee old run e s)).2.2.2.2

/-- The loss of readiness writes a record and a flag of the profiler. -/
theorem noteReadinessLoss_eq (b : Bool) (s : State) :
    noteReadinessLoss b s
      = { s with
          profiler := { s.profiler with flags := (noteReadinessLoss b s).profiler.flags }
          events := (noteReadinessLoss b s).events } := by
  unfold noteReadinessLoss
  split
  · rfl
  · split
    · simp only [appendEvent_eq]; rfl
    · rfl

@[simp] theorem noteReadinessLoss_mode (b : Bool) (s : State) : (noteReadinessLoss b s).mode = s.mode := by
  rw [noteReadinessLoss_eq]

@[simp] theorem noteReadinessLoss_pavePending (b : Bool) (s : State) : (noteReadinessLoss b s).pavePending = s.pavePending := by
  rw [noteReadinessLoss_eq]

@[simp] theorem noteReadinessLoss_readiness (b : Bool) (s : State) : (noteReadinessLoss b s).readiness = s.readiness := by
  rw [noteReadinessLoss_eq]

@[simp] theorem noteReadinessLoss_failing (b : Bool) (s : State) : (noteReadinessLoss b s).failing = s.failing := by
  rw [noteReadinessLoss_eq]

@[simp] theorem noteReadinessLoss_estop (b : Bool) (s : State) : (noteReadinessLoss b s).estop = s.estop := by
  rw [noteReadinessLoss_eq]

/-- R2: a mode change writes the mode and its record. -/
theorem changeMode_eq (m : Mode) (c : ModeCause) (o : Origin) (s : State) :
    changeMode m c o s = { s with mode := m, events := eventsAfter s [(o, .modeChanged s.mode m c)] } := by
  unfold changeMode
  rw [appendEvent_eq]
  rfl

@[simp] theorem changeMode_mode (m : Mode) (c : ModeCause) (o : Origin) (s : State) : (changeMode m c o s).mode = m := by
  rw [changeMode_eq]

@[simp] theorem changeMode_pavePending (m : Mode) (c : ModeCause) (o : Origin) (s : State) :
    (changeMode m c o s).pavePending = s.pavePending := by rw [changeMode_eq]

@[simp] theorem changeMode_readiness (m : Mode) (c : ModeCause) (o : Origin) (s : State) :
    (changeMode m c o s).readiness = s.readiness := by rw [changeMode_eq]

@[simp] theorem changeMode_failing (m : Mode) (c : ModeCause) (o : Origin) (s : State) :
    (changeMode m c o s).failing = s.failing := by rw [changeMode_eq]

@[simp] theorem changeMode_estop (m : Mode) (c : ModeCause) (o : Origin) (s : State) :
    (changeMode m c o s).estop = s.estop := by rw [changeMode_eq]

/-! ### Where the chain leaves the mode (R10, R11) -/

/-- R10, R11: the mode and pave-pending after the changes that a readiness flag sets off. -/
def chained (mode : Mode) (pave hot : Bool) : Mode × Bool :=
  match mode, hot with
  | .preheat, true => if pave then (.paving, false) else (.ready, false)
  | .ready, false => (.preheat, pave)
  | m, _ => (m, pave)

/-- The chain writes the mode, pave-pending and records. -/
theorem readinessChain_eq (s : State) :
    readinessChain s
      = { s with
          mode := (chained s.mode s.pavePending s.readiness).1
          pavePending := (chained s.mode s.pavePending s.readiness).2
          events := (readinessChain s).events } := by
  rcases readinessChain_cases s with ⟨e, hp, hr⟩ | ⟨m, r, p, e⟩ | ⟨m, r, p, e⟩ | ⟨m, r, e⟩
  · have hc : chained s.mode s.pavePending s.readiness = (s.mode, s.pavePending) := by
      unfold chained
      split <;> simp_all
    rw [e, hc]
  · rw [e]
    simp [changeMode_eq, chained, m, r, p]
  · rw [e]
    simp [changeMode_eq, chained, m, r, p]
  · rw [e]
    simp [changeMode_eq, chained, m, r]

@[simp] theorem readinessChain_mode (s : State) : (readinessChain s).mode = (chained s.mode s.pavePending s.readiness).1 := by
  rw [readinessChain_eq]

@[simp] theorem readinessChain_pavePending (s : State) :
    (readinessChain s).pavePending = (chained s.mode s.pavePending s.readiness).2 := by rw [readinessChain_eq]

@[simp] theorem readinessChain_readiness (s : State) : (readinessChain s).readiness = s.readiness := by rw [readinessChain_eq]

@[simp] theorem readinessChain_failing (s : State) : (readinessChain s).failing = s.failing := by rw [readinessChain_eq]

@[simp] theorem readinessChain_estop (s : State) : (readinessChain s).estop = s.estop := by rw [readinessChain_eq]

/-- In any other mode the chain does nothing. -/
theorem readinessChain_other {s : State} (hp : s.mode ≠ .preheat) (hr : s.mode ≠ .ready) : readinessChain s = s := by
  rcases readinessChain_cases s with ⟨e, -⟩ | ⟨m, -⟩ | ⟨m, -⟩ | ⟨m, -⟩
  · exact e
  all_goals contradiction

theorem chained_ne_starting {m : Mode} {pave hot : Bool} (h : m ≠ .starting) : (chained m pave hot).1 ≠ .starting := by
  cases m <;> cases pave <;> cases hot <;> simp_all [chained]

/-! ### A readiness evaluation and a whole mode change -/

theorem settleReadiness_starting {s : State} (h : s.mode = .starting) : settleReadiness s = s := if_pos h

theorem settleReadiness_running {s : State} (h : s.mode ≠ .starting) :
    settleReadiness s
      = blocksSee s.mode (runCondition s) false (readinessChain (noteReadinessLoss s.readiness (evaluateReadiness s))) := if_neg h

/-- R7, R10, R11: where a readiness evaluation leaves the mode controller. -/
theorem settleReadiness_modes {s : State} (h : s.mode ≠ .starting) :
    (settleReadiness s).mode = (chained s.mode s.pavePending (settleReadiness s).readiness).1
      ∧ (settleReadiness s).pavePending = (chained s.mode s.pavePending (settleReadiness s).readiness).2
      ∧ (settleReadiness s).readiness = (failingZones s).isEmpty
      ∧ (settleReadiness s).failing = (failingZones s).length := by
  rw [settleReadiness_running h]
  simp [evaluateReadiness]

@[simp] theorem settleReadiness_estop (s : State) : (settleReadiness s).estop = s.estop :=
  estop_of_reaction (hideReaction_settleReadiness s)

/-- In a mode that the chain does not leave, a readiness evaluation writes the flag, the count and the loss of readiness. -/
theorem settleReadiness_stays {s : State} (hs : s.mode ≠ .starting) (hp : s.mode ≠ .preheat) (hr : s.mode ≠ .ready) :
    settleReadiness s = noteReadinessLoss s.readiness (evaluateReadiness s) := by
  have hm : (noteReadinessLoss s.readiness (evaluateReadiness s)).mode = s.mode := by simp [evaluateReadiness]
  have hc : runCondition (noteReadinessLoss s.readiness (evaluateReadiness s)) = runCondition s := by
    rw [noteReadinessLoss_eq]
    rfl
  rw [settleReadiness_running hs, readinessChain_other (hm ▸ hp) (hm ▸ hr), ← hc, ← hm, blocksSee_same]

/-- The state in which the blocks see a mode change: the mode taken, and the chain of the readiness flag as it stood. -/
def modeTaken (mode : Mode) (cause : ModeCause) (origin : Origin) (s : State) : State :=
  readinessChain (changeMode mode cause origin s)

theorem takeModeChange_eq (m : Mode) (c : ModeCause) (o : Origin) (e : Bool) (s : State) :
    takeModeChange m c o e s = settleReadiness (blocksSee s.mode (runCondition s) e (modeTaken m c o s)) := rfl

theorem modeTaken_eq (m : Mode) (c : ModeCause) (o : Origin) (s : State) :
    modeTaken m c o s
      = { s with
          mode := (chained m s.pavePending s.readiness).1
          pavePending := (chained m s.pavePending s.readiness).2
          events := (modeTaken m c o s).events } := by
  unfold modeTaken
  rw [readinessChain_eq]
  simp [changeMode_eq]

theorem modeTaken_other {m : Mode} (hp : m ≠ .preheat) (hr : m ≠ .ready) (c : ModeCause) (o : Origin) (s : State) :
    modeTaken m c o s = changeMode m c o s := readinessChain_other (by simpa using hp) (by simpa using hr)

/-- R2, R10, R11: where a mode change leaves the mode controller. -/
theorem takeModeChange_modes {m : Mode} (hm : m ≠ .starting) (c : ModeCause) (o : Origin) (e : Bool) (s : State) :
    ((takeModeChange m c o e s).mode, (takeModeChange m c o e s).pavePending)
      = chained (chained m s.pavePending s.readiness).1 (chained m s.pavePending s.readiness).2
          (takeModeChange m c o e s).readiness := by
  rw [takeModeChange_eq]
  have h : (blocksSee s.mode (runCondition s) e (modeTaken m c o s)).mode ≠ .starting := by
    rw [blocksSee_mode, modeTaken_eq]
    exact chained_ne_starting hm
  have k := settleReadiness_modes h
  rw [blocksSee_mode, blocksSee_pavePending] at k
  obtain ⟨hm, hp, -⟩ := k
  rw [hm, hp, modeTaken_eq]

@[simp] theorem takeModeChange_estop (m : Mode) (c : ModeCause) (o : Origin) (e : Bool) (s : State) :
    (takeModeChange m c o e s).estop = s.estop := estop_of_reaction (hideReaction_takeModeChange m c o e s)

/-! ### The mode rules, before and after an evaluation -/

theorem modeSound_iff (s : State) :
    modeSound s = true ↔
      (s.pavePending = true → s.mode = .preheat) ∧ (s.mode = .ready → s.readiness = true)
        ∧ (s.mode = .preheat → s.readiness = false) ∧ (s.mode = .starting → s.readiness = false)
        ∧ (s.estop = true → s.mode = .parked ∨ s.mode = .starting) := by
  unfold modeSound
  cases s.mode <;> cases s.pavePending <;> cases s.readiness <;> cases s.estop <;> decide

/-- The mode rules that a readiness evaluation rests on; the rest of them it restores. -/
def modeFits (s : State) : Prop :=
  (s.pavePending = true → s.mode = .preheat) ∧ (s.mode = .starting → s.readiness = false)
    ∧ (s.estop = true → s.mode = .parked ∨ s.mode = .starting)

theorem modeFits_of_modeSound {s : State} (h : modeSound s = true) : modeFits s := by
  obtain ⟨hp, -, -, hs, he⟩ := (modeSound_iff s).mp h
  exact ⟨hp, hs, he⟩

theorem modeFits_of_heat {s t : State} (e : hideHeat t = hideHeat s) (h : modeFits s) : modeFits t := by
  have := congrArg modeFits e
  exact this.mpr h

theorem modeFits_of_geometry {s t : State} (e : hideGeometry t = hideGeometry s) (h : modeFits s) : modeFits t := by
  have := congrArg modeFits e
  exact this.mpr h

/-- R1, R10, R11: after a readiness evaluation the mode rules stand. -/
theorem settleReadiness_modeSound {s : State} (h : modeFits s) : modeSound (settleReadiness s) = true := by
  obtain ⟨hp, hs, he⟩ := h
  by_cases hm : s.mode = .starting
  · rw [settleReadiness_starting hm, modeSound_iff]
    simp_all
  · obtain ⟨em, ep, -⟩ := settleReadiness_modes hm
    rw [modeSound_iff, settleReadiness_estop, em, ep]
    generalize (settleReadiness s).readiness = hot
    cases hs : s.mode <;> cases hpv : s.pavePending <;> cases hot <;> simp_all [chained]

/-- R1, R16: a mode change that the flags allow leaves the mode rules standing. -/
theorem takeModeChange_modeSound {m : Mode} {c : ModeCause} {o : Origin} {e : Bool} {s : State} (hm : m ≠ .starting)
    (hp : s.pavePending = true → m = .preheat) (he : s.estop = true → m = .parked) :
    modeSound (takeModeChange m c o e s) = true := by
  rw [takeModeChange_eq]
  refine settleReadiness_modeSound ?_
  unfold modeFits
  simp only [blocksSee_mode, blocksSee_pavePending, blocksSee_readiness, blocksSee_estop]
  rw [modeTaken_eq]
  generalize s.readiness = hot at *
  cases m <;> cases hpv : s.pavePending <;> cases hot <;> simp_all [chained]

/-! ### The settings that readiness reads -/

/-- The items whose write is followed by a readiness evaluation. -/
def judgedSetting : Setting → Bool
  | .readinessBand | .extThreshold | .screed _ | .zoneSetpoint _ _ | .exclude _ | .input (.feedback _) .mode => true
  | _ => false

/-- A write that no evaluation follows stores its value, or finds it stored; what else it moves is no matter of the mode or the zones. -/
theorem heatView_applySetting {x : Setting} (hx : judgedSetting x = false) (v : Int) (s : State) :
    heatView (applySetting x v s) = heatView s ∨ heatView (applySetting x v s) = heatView (storeOnly x v s) := by
  cases x with
  | readinessBand | extThreshold | screed _ | zoneSetpoint _ _ | exclude _ => cases hx
  | slotParam slot param =>
    simp only [applySetting, writeSlotParam]
    split
    · exact .inl rfl
    · cases slot <;> exact .inr rfl
  | levelSetpoint c =>
    refine .inr ?_
    simp only [applySetting, writeLevelSetpoint]
    split <;> rfl
  | pulsesPerMetre => exact .inr (heatView_of_travel (hideTravel_moveStation _))
  | standbyCode =>
    refine .inr ?_
    simp only [applySetting, writeStandbyCode]
    split <;> rfl
  | recordInterval => exact .inr rfl
  | matCapacity =>
    simp only [applySetting, changeBoundary]
    split
    · exact .inl rfl
    · exact .inr (heatView_appendEvent _ _ _)
  | input i p =>
    cases p with
    | debounce => exact .inr rfl
    | mode =>
      cases i with
      | feedback z => cases hx
      | travelPulse | travelDir | estop => exact .inr rfl
  | _ => exact .inr rfl

/-! ### The mode rules are kept (O5) -/

theorem modeSound_of_view {s t : State} (h : modeSound s = true) (e : heatView t = heatView s) : modeSound t = true :=
  (congrArg modeSound e).trans h

/-- R9: the state in which GO enters its mode, pave-pending written as the table says. -/
def goStart (g : GoTarget) (s : State) : State :=
  match g with
  | .preheat | .standby | .park => { s with pavePending := false }
  | .pave => if s.mode = .ready then s else { s with pavePending := true }
  | .stop => s

/-- R9: a GO that enters a mode. -/
theorem goEffect_entry {g : GoTarget} {s : State} {m : Mode} (p : Port) (h : goEntry g s.mode = some (some m)) :
    goEffect p g s = some (goTo p m (goStart g s)) := by
  obtain ⟨mode⟩ := s
  cases g <;> cases mode <;> cases h <;> rfl

/-- R9: a GO whose pair is not in the table. -/
theorem goEffect_none {g : GoTarget} {s : State} (p : Port) (h : goEntry g s.mode = none) : goEffect p g s = none := by
  obtain ⟨mode⟩ := s
  cases g <;> cases mode <;> cases h <;> rfl

/-- R9: a GO that enters no mode by itself. -/
theorem goEffect_stay {g : GoTarget} {s : State} (p : Port) (h : goEntry g s.mode = some none) :
    (g = .preheat ∧ s.mode = .preheat ∧ goEffect p g s = some { s with pavePending := false })
    ∨ (g = .pave ∧ s.mode = .preheat ∧ goEffect p g s = some (settleReadiness { s with pavePending := true }))
    ∨ (g = .pave ∧ (s.mode = .paving ∨ s.mode = .paused) ∧ goEffect p g s = some s)
    ∨ (g = .park ∧ s.mode = .parked ∧ goEffect p g s = some s) := by
  obtain ⟨mode⟩ := s
  cases g <;> cases mode <;> cases h
  · exact .inl ⟨rfl, rfl, rfl⟩
  · exact .inr (.inl ⟨rfl, rfl, rfl⟩)
  · exact .inr (.inr (.inl ⟨rfl, .inl rfl, rfl⟩))
  · exact .inr (.inr (.inl ⟨rfl, .inr rfl, rfl⟩))
  · exact .inr (.inr (.inr ⟨rfl, rfl, rfl⟩))

/-- Outside PREHEAT pave-pending is clear (R1). -/
theorem pavePending_clear {s : State} (h : modeSound s = true) (hm : s.mode ≠ .preheat) : s.pavePending = false := by
  cases hq : s.pavePending
  · rfl
  · exact absurd (((modeSound_iff s).mp h).1 hq) hm

/-- R1: GO enters a mode other than PREHEAT with pave-pending clear. -/
theorem goStart_pavePending {g : GoTarget} {s : State} {m : Mode} (h : modeSound s = true) (hg : goEntry g s.mode = some (some m))
    (hp : (goStart g s).pavePending = true) : m = .preheat := by
  have hn := pavePending_clear h
  cases g <;> cases hm : s.mode <;> rw [hm] at hg hn <;> cases hg <;> simp_all [goStart]

theorem goStart_estop (g : GoTarget) (s : State) : (goStart g s).estop = s.estop := by
  unfold goStart
  repeat' split
  all_goals rfl

theorem goEntry_ne_starting {g : GoTarget} {m m' : Mode} (h : goEntry g m = some (some m')) : m' ≠ .starting := by
  cases g <;> cases m <;> cases h <;> decide

theorem goEffect_modeSound {p : Port} {g : GoTarget} {s t : State} (he : s.estop = false) (hg : goEffect p g s = some t)
    (h : modeSound s = true) : modeSound t = true := by
  match hk : goEntry g s.mode with
  | none => rw [goEffect_none p hk] at hg; cases hg
  | some (some m) =>
    rw [goEffect_entry p hk] at hg
    rw [← Option.some.inj hg]
    exact takeModeChange_modeSound (goEntry_ne_starting hk) (goStart_pavePending h hk) (by simp [goStart_estop, he])
  | some none =>
    rcases goEffect_stay p hk with ⟨-, hm, e⟩ | ⟨-, hm, e⟩ | ⟨-, -, e⟩ | ⟨-, -, e⟩ <;> rw [e] at hg <;> rw [← Option.some.inj hg]
    · rw [modeSound_iff] at h ⊢
      simp_all
    · exact settleReadiness_modeSound ⟨fun _ => hm, fun hk => by simp [hm] at hk, fun hk => by simp [he] at hk⟩
    · exact h
    · exact h

theorem assertEstop_modeSound {s : State} (h : modeSound s = true) : modeSound (assertEstop s) = true := by
  obtain ⟨hp, -, -, hs, -⟩ := (modeSound_iff s).mp h
  unfold assertEstop
  have hl : heatView (endWidthJogs .eStop { s with estop := true }) = heatView { s with estop := true } := by
    simp [endWidthJogs]
  dsimp only
  split
  case h_1 hm =>
    refine modeSound_of_view ?_ hl
    rw [modeSound_iff]
    simp_all
  case h_2 hm =>
    refine modeSound_of_view (s := { s with estop := true }) ?_ ?_
    · rw [modeSound_iff]
      simp_all
    · rw [heatView_of_feeds (hideFeeds_eachFeed _ (hideFeeds_forceFeedOff .eStop) _)]
      refine Eq.trans ?_ hl
      exact (heatView_of_sides (hideSides_forceSideOff _ _ _)).trans (heatView_of_sides (hideSides_forceSideOff _ _ _))
  case h_3 => exact takeModeChange_modeSound (by decide) (by simp) (fun _ => rfl)

theorem modeFreed_modeSound {s : State} (h : modeSound s = true) : modeSound (modeFreed s) = true := by
  obtain ⟨-, hr, hh, hs, he⟩ := (modeSound_iff s).mp h
  unfold modeFreed
  dsimp only
  split
  · rename_i hm
    refine takeModeChange_modeSound (by decide) (by simp) (fun hk => ?_)
    have := he hk
    rcases hm with hm | hm <;> simp [hm] at this
  · rw [modeSound_iff]
    exact ⟨fun hk => (by cases hk), hr, hh, hs, he⟩

theorem endWindow_modeSound {s : State} (h : modeSound s = true) : modeSound (endWindow s) = true := by
  obtain ⟨hp, hs, he⟩ := modeFits_of_modeSound h
  unfold endWindow
  refine settleReadiness_modeSound ?_
  unfold modeFits
  simp only [blocksSee_mode, blocksSee_pavePending, blocksSee_readiness, blocksSee_estop]
  split
  · rename_i hr
    have hm : s.mode = .paused := hr.1
    have hk : (closeWindow s).pavePending = s.pavePending ∧ (closeWindow s).estop = s.estop := ⟨rfl, rfl⟩
    simp_all
  · exact ⟨hp, hs, he⟩

theorem matchStop_modeSound {s : State} (h : modeSound s = true) : modeSound (matchStop s) = true := by
  unfold matchStop
  dsimp only
  split
  · exact modeSound_of_view h rfl
  · rename_i hm
    refine settleReadiness_modeSound ?_
    have hc := modeFits_of_modeSound h
    unfold modeFits at hc ⊢
    simp only [blocksSee_mode, blocksSee_pavePending, blocksSee_readiness, blocksSee_estop, appendEvent_eq, changeMode_eq]
    have hp : s.mode = .paused := by simpa using hm
    simp_all [markMatched]

theorem completeLoad_modeSound (b : Bool) {s : State} (h : modeSound s = true) : modeSound (completeLoad b s) = true := by
  unfold completeLoad
  split
  · rename_i hm
    obtain ⟨hp, -⟩ := (modeSound_iff s).mp h
    refine modeSound_of_view ?_ (heatView_of_round (hideRound_startRound _))
    have hn : s.pavePending = false := by
      cases hq : s.pavePending
      · rfl
      · rw [hp hq] at hm; cases hm
    have hl (i : Option SettingsImage) (n : Nat) : (evaluateReadiness (numberJob n (noteOutcome i s))).pavePending = false := by
      unfold evaluateReadiness numberJob recordJob noteOutcome
      cases i <;> simp only [appendEvent_eq] <;> exact hn
    rw [modeSound_iff]
    simp [hl]
  · exact h

theorem applySetting_modeSound (x : Setting) (v : Int) {s : State} (h : modeSound s = true) :
    modeSound (applySetting x v s) = true := by
  have hf : modeFits (storeOnly x v s) := modeFits_of_modeSound h
  cases hx : judgedSetting x
  · rcases heatView_applySetting hx v s with e | e
    · exact modeSound_of_view h e
    · exact modeSound_of_view (s := storeOnly x v s) h e
  · cases x with
    | readinessBand | extThreshold | screed _ => exact settleReadiness_modeSound hf
    | zoneSetpoint z set =>
      simp only [applySetting, writeZoneSetpoint]
      split
      · exact h
      · exact settleReadiness_modeSound (modeFits_of_heat (hideHeat_reselect z _) hf)
    | exclude z =>
      simp only [applySetting, writeExcludeFlag]
      split
      · exact h
      · refine settleReadiness_modeSound ?_
        unfold writeExclude
        dsimp only
        split
        · exact modeFits_of_modeSound h
        · split
          · unfold excludeZone
            dsimp only
            split
            · exact hf
            · exact modeFits_of_heat ((hideHeat_setZone _ _ _).trans (hideHeat_leaveTo _ _ _)) hf
          · split
            · exact modeFits_of_heat (hideHeat_enterHeating z _) hf
            · exact hf
    | input i p =>
      cases i with
      | feedback z =>
        cases p with
        | mode => exact settleReadiness_modeSound (modeFits_of_heat (hideHeat_feedbackChange z _) hf)
        | debounce => cases hx
      | travelPulse | travelDir | estop => cases hx
    | _ => cases hx

theorem modeSound_kept : KeptByBlocks (fun s => modeSound s = true) where
  view h _ e := modeSound_of_view h e
  reset s _ := by
    rw [modeSound_iff]
    simp [resetFrom, State.afterReset]
  load b _ h := completeLoad_modeSound b h
  go _ _ _ _ he hg h := goEffect_modeSound he hg h
  pause s hm h := by
    obtain ⟨hp, -, -, -, he⟩ := (modeSound_iff s).mp h
    exact takeModeChange_modeSound (by decide) (fun hk => by simp [hp hk] at hm) (fun hk => by simp [hm] at he; simp [he] at hk)
  window _ h := endWindow_modeSound h
  stop _ h := matchStop_modeSound h
  assertEstop _ h := assertEstop_modeSound h
  releaseEstop s h := by
    rw [modeSound_iff] at h ⊢
    obtain ⟨hp, hr, hh, hs, -⟩ := h
    exact ⟨hp, hr, hh, hs, fun hk => (by cases hk)⟩
  modeFreed _ h := modeFreed_modeSound h
  temperature z r s h :=
    settleReadiness_modeSound (modeFits_of_heat (hideHeat_zoneConversion z (setAnalog (.temp z) r s)) (modeFits_of_modeSound h))
  extension d s h := settleReadiness_modeSound (modeFits_of_geometry (hideGeometry_extConversion d s) (modeFits_of_modeSound h))
  feedback z s h := settleReadiness_modeSound (modeFits_of_heat (hideHeat_feedbackChange z s) (modeFits_of_modeSound h))
  check z s _ h := settleReadiness_modeSound (modeFits_of_heat (hideHeat_checkDelayEnd z s) (modeFits_of_modeSound h))
  slice z s _ h := settleReadiness_modeSound (modeFits_of_heat (hideHeat_expireSlice z s) (modeFits_of_modeSound h))
  clear z p s h := settleReadiness_modeSound (modeFits_of_heat (hideHeat_clearLatch z p s) (modeFits_of_modeSound h))
  config x v _ _ _ _ _ h := applySetting_modeSound x v h
  setpoint x v _ _ _ h := applySetting_modeSound x v h
  elapse _ h := h

end Sys2Proof.Machine

open Sys2Proof Sys2Proof.Machine

/-- Settles O5: the mode rules are among what every block keeps. -/
theorem modeRulesKept : Obligations.ModeRulesKept := by
  unfold Obligations.ModeRulesKept
  intro s t h e
  exact step_keeps modeSound_kept h e
end

section
/-! PROOFS. The zones: what one zone's move does to the other zones, the queue and the grant list; where the heating rules leave each zone (R41, R43,
R45); and the readiness flag and count kept true by every step (R7, R20). -/

namespace Sys2Proof.Machine

open Sys2Proof

/-! ### The queue, the grant list and the zones they name -/

/-- A zone record and what the allocator may have made of it: as it stood, or granted from the queue (R66). -/
def grantedFrom (r r' : ZoneRec) : Prop :=
  r' = r ∨ (r.state = .waiting ∧ r' = { r with state := .heating, check := .delay, checkMs := 0 })

theorem grantedFrom_refl (r : ZoneRec) : grantedFrom r r := .inl rfl

theorem grantedFrom_trans {a b c : ZoneRec} (h : grantedFrom a b) (k : grantedFrom b c) : grantedFrom a c := by
  rcases h with rfl | ⟨hw, rfl⟩
  · exact k
  · rcases k with rfl | ⟨hk, -⟩
    · exact .inr ⟨hw, rfl⟩
    · cases hk

/-- A record that does not wait is left alone. -/
theorem grantedFrom_eq {r r' : ZoneRec} (h : grantedFrom r r') (k : r.state ≠ .waiting) : r' = r :=
  h.resolve_right fun hw => k hw.1

/-- R47, one way: the queue names WAITING zones, each once, and the grant list HEATING ones. -/
def listsSound (s : State) : Prop :=
  s.queue.Nodup ∧ (∀ z ∈ s.queue, (s.zones.get z).state = .waiting) ∧ ∀ g ∈ s.grants, (s.zones.get g.zone).state = .heating

theorem mem_allZones (z : Zone) : z ∈ allZones := by cases z <;> decide

theorem listsSound_of_budgetSound {s : State} (h : budgetSound s = true) : listsSound s := by
  simp only [budgetSound, Bool.and_eq_true, List.all_eq_true, decide_eq_true_eq] at h
  obtain ⟨⟨⟨⟨placed, nodup⟩, -⟩, -⟩, -⟩ := h
  refine ⟨nodup, fun z hz => ?_, fun g hg => ?_⟩
  · have := placed z (mem_allZones z)
    simp only [zonePlaced, Bool.and_eq_true, decide_eq_true_eq] at this
    simpa [hz] using this.2
  · have hp := placed g.zone (mem_allZones g.zone)
    simp only [zonePlaced, Bool.and_eq_true, decide_eq_true_eq] at hp
    have hgr : granted s g.zone = true := List.any_eq_true.mpr ⟨g, hg, by simp⟩
    simpa [hgr] using hp.1

/-- A zone is taken out of both lists and its record written. -/
theorem listsSound_withdraw {s : State} {z : Zone} {r : ZoneRec} {q : List Zone} {gs : List Grant} (h : listsSound s)
    (hq : q.Sublist s.queue) (hz : z ∉ q) (hg : gs ⊆ s.grants) (hgz : ∀ g ∈ gs, g.zone ≠ z) :
    listsSound { s with queue := q, grants := gs, zones := s.zones.set z r } := by
  obtain ⟨nodup, waiting, heating⟩ := h
  refine ⟨nodup.sublist hq, fun y hy => ?_, fun g hgm => ?_⟩
  · have hne : y ≠ z := fun e => hz (e ▸ hy)
    exact (congrArg ZoneRec.state (PerZone.get_set_other _ _ _ _ hne)).trans (waiting y (hq.subset hy))
  · exact (congrArg ZoneRec.state (PerZone.get_set_other _ _ _ _ (hgz g hgm))).trans (heating g (hg hgm))

theorem notMem_queue {s : State} {z : Zone} (h : listsSound s) (hz : (s.zones.get z).state ≠ .waiting) : z ∉ s.queue :=
  fun hm => hz (h.2.1 z hm)

theorem grant_other {s : State} {z : Zone} (h : listsSound s) (hz : (s.zones.get z).state ≠ .heating) :
    ∀ g ∈ s.grants, g.zone ≠ z := fun g hg e => hz (e ▸ h.2.2 g hg)

/-- The record of a zone in neither list may be written. -/
theorem listsSound_setZone {s : State} {z : Zone} {r : ZoneRec} (h : listsSound s) (hw : (s.zones.get z).state ≠ .waiting)
    (hh : (s.zones.get z).state ≠ .heating) : listsSound (setZone z r s) :=
  listsSound_withdraw h (List.Sublist.refl _) (notMem_queue h hw) (List.Subset.refl _) (grant_other h hh)

/-- A record may be written without a change of its state. -/
theorem listsSound_setZone_state {s : State} {z : Zone} {r : ZoneRec} (h : listsSound s) (hr : r.state = (s.zones.get z).state) :
    listsSound (setZone z r s) := by
  obtain ⟨nodup, waiting, heating⟩ := h
  have keep (y : Zone) : ((setZone z r s).zones.get y).state = (s.zones.get y).state := by
    simp only [setZone_zones, PerZone.get_set]
    split
    · rename_i e
      rw [hr, e]
    · rfl
  exact ⟨nodup, fun y hy => (keep y).trans (waiting y hy), fun g hg => (keep g.zone).trans (heating g hg)⟩

/-! ### One zone's move -/

/-- The lists are in order after a move of the zone, and every other zone is as it stood or granted from the queue. -/
structure Moves (z : Zone) (s t : State) : Prop where
  lists : listsSound t
  others : ∀ y, y ≠ z → grantedFrom (s.zones.get y) (t.zones.get y)

theorem Moves.trans {z : Zone} {s t u : State} (h : Moves z s t) (k : Moves z t u) : Moves z s u :=
  ⟨k.lists, fun y hy => grantedFrom_trans (h.others y hy) (k.others y hy)⟩

theorem Moves.of_write {z : Zone} {s t : State} {r : ZoneRec} (h : listsSound t) (e : t.zones = s.zones.set z r) : Moves z s t :=
  ⟨h, fun y hy => .inl (by rw [e, PerZone.get_set_other _ _ _ _ hy])⟩

/-- What the heating rules of a zone rest on, apart from its state. -/
def sameRule (r r' : ZoneRec) : Prop :=
  r'.latch = r.latch ∧ r'.activeSet = r.activeSet ∧ r'.activeSetpoint = r.activeSetpoint

theorem sameRule_trans {a b c : ZoneRec} (h : sameRule a b) (k : sameRule b c) : sameRule a c :=
  ⟨k.1.trans h.1, k.2.1.trans h.2.1, k.2.2.trans h.2.2⟩

theorem sameRule_of_granted {r r' : ZoneRec} (h : grantedFrom r r') : sameRule r r' := by
  rcases h with rfl | ⟨-, rfl⟩ <;> exact ⟨rfl, rfl, rfl⟩

theorem grantHead_lists {s : State} (h : listsSound s) :
    listsSound (grantHead s) ∧ ∀ y, grantedFrom (s.zones.get y) ((grantHead s).zones.get y) := by
  match hq : s.queue with
  | [] => simpa [grantHead, hq] using ⟨h, fun y => grantedFrom_refl _⟩
  | z :: rest =>
    obtain ⟨nodup, waiting, heating⟩ := h
    have hz : (s.zones.get z).state = .waiting := waiting z (by simp [hq])
    have hn : z ∉ rest := (List.nodup_cons.mp (hq ▸ nodup)).1
    rw [grantHead_cons hq]
    refine ⟨⟨(List.nodup_cons.mp (hq ▸ nodup)).2, fun y hy => ?_, fun g hg => ?_⟩, fun y => ?_⟩
    · have hne : y ≠ z := fun e => hn (e ▸ hy)
      simpa [PerZone.get_set_other _ _ _ _ hne] using waiting y (by simp [hq, hy])
    · simp only [PerZone.get_set]
      split
      · rfl
      · rename_i hne
        rcases List.mem_append.mp hg with hg | hg
        · exact heating g hg
        · exact absurd (by rw [List.mem_singleton.mp hg]) hne
    · simp only [PerZone.get_set]
      split
      · rename_i e
        subst e
        exact .inr ⟨hz, rfl⟩
      · exact grantedFrom_refl _

/-- R66: an evaluation of the allocator grants queued zones and touches no other. -/
theorem allocateUpTo_lists (n : Nat) {s : State} (h : listsSound s) :
    listsSound (allocateUpTo n s) ∧ ∀ y, grantedFrom (s.zones.get y) ((allocateUpTo n s).zones.get y) := by
  induction n generalizing s with
  | zero => exact ⟨h, fun y => grantedFrom_refl _⟩
  | succ n ih =>
    unfold allocateUpTo
    split
    · obtain ⟨hl, hg⟩ := grantHead_lists h
      obtain ⟨hl', hg'⟩ := ih hl
      exact ⟨hl', fun y => grantedFrom_trans (hg y) (hg' y)⟩
    · exact ⟨h, fun y => grantedFrom_refl _⟩

theorem allocate_lists {s : State} (h : listsSound s) :
    listsSound (allocate s) ∧ ∀ y, grantedFrom (s.zones.get y) ((allocate s).zones.get y) := allocateUpTo_lists _ h

/-- A written record followed by an evaluation of the allocator. -/
theorem Moves.of_allocate {z : Zone} {s t : State} {r : ZoneRec} (h : listsSound t) (e : t.zones = s.zones.set z r) :
    Moves z s (allocate t) ∧ grantedFrom r ((allocate t).zones.get z) := by
  obtain ⟨hl, hg⟩ := allocate_lists h
  refine ⟨(Moves.of_write h e).trans ⟨hl, fun y _ => hg y⟩, ?_⟩
  have := hg z
  rwa [e, PerZone.get_set_same] at this

/-- R46, R47, R64: a zone that leaves for a state outside the lists. -/
theorem leaveTo_moves {z : Zone} {target : ZoneState} {s : State} (h : listsSound s) (ht : target ≠ .waiting) :
    Moves z s (leaveTo z target s) ∧ ((leaveTo z target s).zones.get z).state = target
      ∧ sameRule (s.zones.get z) ((leaveTo z target s).zones.get z) := by
  cases hs : (s.zones.get z).state
  case heating =>
    rw [leaveTo_heating hs]
    have hl := listsSound_withdraw (z := z) (gs := s.grants.filter fun g => decide (g.zone ≠ z))
      (r := { s.zones.get z with state := target, check := .idle, checkMs := 0 }) h
      (List.Sublist.refl _) (notMem_queue h (by simp [hs])) (List.filter_subset_self _)
      (fun g hg => by simpa using (List.mem_filter.mp hg).2)
    obtain ⟨hm, hg⟩ := Moves.of_allocate (z := z) (s := s) hl rfl
    have hr := sameRule_of_granted hg
    exact ⟨hm, congrArg ZoneRec.state (grantedFrom_eq hg ht), hr⟩
  case waiting =>
    have hl := listsSound_withdraw (z := z) (r := { s.zones.get z with state := target }) h
      (List.filter_sublist (p := fun y => decide (y ≠ z))) (by simp) (List.Subset.refl _) (grant_other h (by simp [hs]))
    simp only [leaveTo, hs]
    split
    · obtain ⟨hm, hg⟩ := Moves.of_allocate (z := z) (s := s) hl rfl
      have hr := sameRule_of_granted hg
      exact ⟨hm, congrArg ZoneRec.state (grantedFrom_eq hg ht), hr⟩
    · exact ⟨Moves.of_write hl rfl, by simp, by simp [sameRule]⟩
  all_goals
    rw [leaveTo_idle (by simp [hs]) (by simp [hs])]
    exact ⟨Moves.of_write (listsSound_setZone h (by simp [hs]) (by simp [hs])) rfl, by simp, by simp [sameRule]⟩

/-- A state of a zone that heats or may heat. -/
def runs (st : ZoneState) : Prop := st ≠ .off ∧ st ≠ .fault

/-- A move that leaves the zone running by the same rule. -/
def MovesToRun (z : Zone) (s t : State) : Prop :=
  Moves z s t ∧ runs (t.zones.get z).state ∧ sameRule (s.zones.get z) (t.zones.get z)

theorem MovesToRun.stay {z : Zone} {s : State} (h : listsSound s) (hr : runs (s.zones.get z).state) : MovesToRun z s s :=
  ⟨⟨h, fun _ _ => grantedFrom_refl _⟩, hr, rfl, rfl, rfl⟩

theorem leaveTo_satisfied {z : Zone} {s : State} (h : listsSound s) : MovesToRun z s (leaveTo z .satisfied s) := by
  obtain ⟨hm, hs, hr⟩ := leaveTo_moves (z := z) (target := .satisfied) h (by decide)
  exact ⟨hm, by simp [runs, hs], hr⟩

/-- R46: a SATISFIED zone joins the queue, and may be granted at once. -/
theorem joinQueue_moves {z : Zone} {s : State} (h : listsSound s) (hs : (s.zones.get z).state = .satisfied) :
    MovesToRun z s (joinQueue z s) := by
  have hn := notMem_queue h (z := z) (by simp [hs])
  have ho := grant_other h (z := z) (by simp [hs])
  obtain ⟨nodup, waiting, heating⟩ := h
  have hl : listsSound (setZone z { s.zones.get z with state := .waiting } { s with queue := s.queue ++ [z] }) := by
    refine ⟨List.nodup_append.mpr ⟨nodup, List.nodup_singleton z, fun a ha b hb e => ?_⟩, fun y hy => ?_, fun g hg => ?_⟩
    · exact hn (List.mem_singleton.mp hb ▸ e ▸ ha)
    · simp only [setZone_zones, PerZone.get_set]
      split
      · rfl
      · rename_i hne
        rcases List.mem_append.mp hy with hy | hy
        · exact waiting y hy
        · exact absurd (List.mem_singleton.mp hy) hne
    · simp only [setZone_zones, PerZone.get_set_other _ _ _ _ (ho g hg)]
      exact heating g hg
  unfold joinQueue
  dsimp only
  split
  · obtain ⟨hm, hg⟩ := Moves.of_allocate (z := z) (s := s) hl rfl
    have hr := sameRule_of_granted hg
    refine ⟨hm, ?_, hr⟩
    rcases hg with e | ⟨-, e⟩ <;> rw [e] <;> simp [runs]
  · exact ⟨Moves.of_write hl rfl, by simp [runs], by simp [sameRule]⟩

theorem judgeDemand_moves {z : Zone} {s : State} (h : listsSound s) (hs : (s.zones.get z).state = .satisfied) :
    MovesToRun z s (judgeDemand z s) := by
  unfold judgeDemand
  split
  · exact joinQueue_moves h hs
  · exact MovesToRun.stay h (by simp [runs, hs])

/-- R45: a zone made SATISFIED has its demand judged. -/
theorem satisfy_moves {z : Zone} {s : State} (h : listsSound s) :
    MovesToRun z s (judgeDemand z (leaveTo z .satisfied s)) := by
  obtain ⟨hm, hs, hr⟩ := leaveTo_moves (z := z) (target := .satisfied) h (by decide)
  obtain ⟨hm', hs', hr'⟩ := judgeDemand_moves hm.lists hs
  exact ⟨hm.trans hm', hs', sameRule_trans hr hr'⟩

/-- R52, R54: an entry to OVERTEMP or FAULT counts its fault and appends its record beside the zone's move. -/
theorem enterOvertemp_zones (z : Zone) (s : State) :
    (enterOvertemp z s).zones = (leaveTo z .overtemp s).zones ∧ (enterOvertemp z s).queue = (leaveTo z .overtemp s).queue
      ∧ (enterOvertemp z s).grants = (leaveTo z .overtemp s).grants := by
  unfold enterOvertemp
  rw [appendEvent_eq]
  exact ⟨rfl, rfl, rfl⟩

theorem enterSensorFault_zones (z : Zone) (s : State) :
    (enterSensorFault z s).zones = (leaveTo z .fault s).zones ∧ (enterSensorFault z s).queue = (leaveTo z .fault s).queue
      ∧ (enterSensorFault z s).grants = (leaveTo z .fault s).grants := by
  unfold enterSensorFault
  rw [appendEvent_eq]
  exact ⟨rfl, rfl, rfl⟩

/-- R55: an element failure sets the latch of a zone in FAULT. -/
theorem elementFail_zones (z : Zone) (s : State) :
    (elementFail z s).zones = (setLatch z true (leaveTo z .fault s)).zones ∧ (elementFail z s).queue = (leaveTo z .fault s).queue
      ∧ (elementFail z s).grants = (leaveTo z .fault s).grants := by
  unfold elementFail
  rw [appendEvent_eq]
  exact ⟨rfl, rfl, rfl⟩

/-- The heating rules read the zones and both lists only. -/
theorem Moves.congr {z : Zone} {s t u : State} (h : Moves z s t)
    (e : u.zones = t.zones ∧ u.queue = t.queue ∧ u.grants = t.grants) : Moves z s u := by
  obtain ⟨hz, hq, hg⟩ := e
  obtain ⟨hl, ho⟩ := h
  refine ⟨?_, by rwa [hz]⟩
  unfold listsSound at hl ⊢
  rwa [hz, hq, hg]

/-- R45, tests 4 to 8: a zone that is not OFF runs on. -/
theorem evaluateByState_moves {z : Zone} {s : State} (h : listsSound s) (hn : (s.zones.get z).state ≠ .off) :
    MovesToRun z s (evaluateByState z s) := by
  cases hs : (s.zones.get z).state <;> simp only [evaluateByState, hs]
  case off => exact absurd hs hn
  case fault => exact satisfy_moves h
  case overtemp =>
    split
    · exact satisfy_moves h
    · exact MovesToRun.stay h (by simp [runs, hs])
  case heating =>
    split
    · exact leaveTo_satisfied h
    · exact MovesToRun.stay h (by simp [runs, hs])
  case waiting =>
    split
    · exact MovesToRun.stay h (by simp [runs, hs])
    · exact leaveTo_satisfied h
  case satisfied => exact judgeDemand_moves h hs

/-- R52: a zone above its ceiling. -/
theorem enterOvertemp_moves {z : Zone} {s : State} (h : listsSound s) : MovesToRun z s (enterOvertemp z s) := by
  obtain ⟨hm, hs, hr⟩ := leaveTo_moves (z := z) (target := .overtemp) h (by decide)
  have e := enterOvertemp_zones z s
  exact ⟨hm.congr e, by rw [e.1, hs]; simp [runs], e.1 ▸ hr⟩

/-- R54: a zone whose channel is in FAULT. -/
theorem enterSensorFault_moves {z : Zone} {s : State} (h : listsSound s) :
    Moves z s (enterSensorFault z s) ∧ ((enterSensorFault z s).zones.get z).state = .fault
      ∧ sameRule (s.zones.get z) ((enterSensorFault z s).zones.get z) := by
  obtain ⟨hm, hs, hr⟩ := leaveTo_moves (z := z) (target := .fault) h (by decide)
  have e := enterSensorFault_zones z s
  exact ⟨hm.congr e, by rw [e.1, hs], e.1 ▸ hr⟩

/-- R55: a zone whose element fails. -/
theorem elementFail_moves {z : Zone} {s : State} (h : listsSound s) :
    Moves z s (elementFail z s) ∧ ((elementFail z s).zones.get z).state = .fault
      ∧ ((elementFail z s).zones.get z).latch = true
      ∧ ((elementFail z s).zones.get z).activeSet = (s.zones.get z).activeSet
      ∧ ((elementFail z s).zones.get z).activeSetpoint = (s.zones.get z).activeSetpoint := by
  obtain ⟨hm, hs, -, hset, hpoint⟩ := leaveTo_moves (z := z) (target := .fault) h (by decide)
  have e := elementFail_zones z s
  have hl : Moves z (leaveTo z .fault s) (setLatch z true (leaveTo z .fault s)) :=
    Moves.of_write (listsSound_setZone_state hm.lists rfl) rfl
  refine ⟨(hm.trans hl).congr e, ?_⟩
  rw [e.1]
  simp [setLatch, hs, hset, hpoint]

/-- R45, tests 1 and 2: a zone that is OFF, or whose latch is set, is not evaluated. -/
theorem evaluateZone_held {z : Zone} {s : State} (h : (s.zones.get z).state = .off ∨ (s.zones.get z).latch = true) :
    evaluateZone z s = s := by
  unfold evaluateZone
  rcases h with h | h <;> simp [h]

/-- R45: any other zone is evaluated to FAULT exactly where its channel is in FAULT, and stays a running zone otherwise. -/
theorem evaluateZone_moves {z : Zone} {s : State} (h : listsSound s) (hn : (s.zones.get z).state ≠ .off)
    (hl : (s.zones.get z).latch = false) :
    Moves z s (evaluateZone z s) ∧ sameRule (s.zones.get z) ((evaluateZone z s).zones.get z)
      ∧ ((evaluateZone z s).zones.get z).state ≠ .off
      ∧ (((evaluateZone z s).zones.get z).state = .fault ↔ zoneChannelFault s z = true) := by
  have running {t : State} (hf : zoneChannelFault s z ≠ true) (k : MovesToRun z s t) :
      Moves z s t ∧ sameRule (s.zones.get z) (t.zones.get z) ∧ (t.zones.get z).state ≠ .off
        ∧ ((t.zones.get z).state = .fault ↔ zoneChannelFault s z = true) :=
    ⟨k.1, k.2.2, k.2.1.1, fun e => absurd e k.2.1.2, fun e => absurd e hf⟩
  unfold evaluateZone
  dsimp only
  rw [if_neg hn, if_neg (by simp [hl])]
  split
  · rename_i hf
    split
    · rename_i hs
      exact ⟨⟨h, fun _ _ => grantedFrom_refl _⟩, ⟨rfl, rfl, rfl⟩, hn, by simp [hs, hf]⟩
    · obtain ⟨hm, hs, hr⟩ := enterSensorFault_moves (z := z) h
      exact ⟨hm, hr, by simp [hs], by simp [hs, hf]⟩
  · rename_i hf
    split
    · split
      · rename_i hs
        exact running hf (MovesToRun.stay h (by simp [runs, hs]))
      · exact running hf (enterOvertemp_moves h)
    · exact running hf (evaluateByState_moves h hn)

end Sys2Proof.Machine
end

section
/-! PROOFS. Where the heating rules put each zone (R41, R43, R45), kept by every reaction and by every readiness evaluation; and from it the truth of
the readiness flag and the failing count (R7, R20). -/

namespace Sys2Proof.Machine

open Sys2Proof

/-! ### The rules of one zone -/

/-- R43, R41, R45: what a zone that is not OFF rests on before its faults are judged: the set and setpoint its mode selects, in a heating mode, while
the zone is active. -/
def zonePosted (s : State) (z : Zone) (r : ZoneRec) : Prop :=
  r.activeSet = selectedSet s z ∧ r.activeSetpoint = setpointOf s z r.activeSet ∧ heatingMode s.mode = true ∧ zoneActive s z = true

/-- A zone that is OFF has no active set (R43). -/
def zoneBare (r : ZoneRec) : Prop := r.state = .off ∧ r.activeSet = .none ∧ r.activeSetpoint = 0

/-- R45, R54, R55: FAULT exactly while the latch is set or the channel is in FAULT. -/
def faultTrue (s : State) (z : Zone) (r : ZoneRec) : Prop :=
  r.state = .fault ↔ r.latch = true ∨ zoneChannelFault s z = true

/-- The zone record stands where R41, R43 and R45 put it. -/
def recordFits (s : State) (z : Zone) (r : ZoneRec) : Prop :=
  zoneBare r ∨ (r.state ≠ .off ∧ zonePosted s z r ∧ faultTrue s z r)

/-- Every zone stands where R41, R43 and R45 put it, and both lists name the zones they should. -/
def heatSound (s : State) : Prop := listsSound s ∧ ∀ z, recordFits s z (s.zones.get z)

theorem zoneChecks_iff (s : State) (z : Zone) :
    (zoneSelected s z && zoneJudged s z && zoneResting s z) = true ↔ recordFits s z (s.zones.get z) := by
  unfold zoneSelected zoneJudged zoneResting recordFits zoneBare zonePosted faultTrue
  generalize s.zones.get z = r
  by_cases hs : r.state = .off
  · simp [hs]
  · simp only [hs, if_false, Bool.and_eq_true, Bool.or_eq_true, decide_eq_true_eq, decide_false, Bool.or_false, ne_eq, not_false_eq_true,
      false_and, true_and, false_or, Bool.false_eq_true]
    rw [Bool.eq_iff_iff (a := decide _), decide_eq_true_eq, Bool.or_eq_true]
    tauto

theorem readinessSound_iff (s : State) :
    readinessSound s = true ↔
      modeSound s = true ∧ readinessCurrent s = true ∧ ∀ z, recordFits s z (s.zones.get z) := by
  simp only [readinessSound, Bool.and_eq_true, List.all_eq_true, and_assoc]
  refine and_congr_right fun _ => and_congr_right fun _ => ⟨fun h z => ?_, fun h z _ => ?_⟩
  · have := h z (mem_allZones z)
    exact (zoneChecks_iff s z).mp (by simpa [and_assoc] using this)
  · have := (zoneChecks_iff s z).mpr (h z)
    simpa [and_assoc] using this

theorem recordFits_heatView (s : State) (z : Zone) (r : ZoneRec) : recordFits (heatView s) z r ↔ recordFits s z r := by
  cases z <;> exact Iff.rfl

/-- The rules of a zone are read from the view. -/
theorem recordFits_view {s t : State} (e : heatView t = heatView s) (z : Zone) (r : ZoneRec) : recordFits t z r ↔ recordFits s z r :=
  (recordFits_heatView t z r).symm.trans
    ((iff_of_eq (congrArg (fun u => recordFits u z r) e)).trans (recordFits_heatView s z r))

theorem listsSound_view {s t : State} (e : heatView t = heatView s) : listsSound t ↔ listsSound s := by
  have := congrArg listsSound e
  exact iff_of_eq this

theorem zones_of_view {s t : State} (e : heatView t = heatView s) : t.zones = s.zones := by
  have := congrArg State.zones e
  exact this

theorem heatSound_of_view {s t : State} (h : heatSound s) (e : heatView t = heatView s) : heatSound t :=
  ⟨(listsSound_view e).mpr h.1, fun z => (recordFits_view e z _).mpr (by rw [zones_of_view e]; exact h.2 z)⟩

/-- Outside the heating modes every zone is bare. -/
theorem zoneBare_of_resting {s : State} (h : heatSound s) (hm : heatingMode s.mode = false) (z : Zone) : zoneBare (s.zones.get z) := by
  rcases h.2 z with hb | ⟨-, ⟨-, -, hh, -⟩, -⟩
  · exact hb
  · rw [hm] at hh
    cases hh

theorem zoneActive_of_running {s : State} {z : Zone} {r : ZoneRec} (h : recordFits s z r) (hn : r.state ≠ .off) :
    zonePosted s z r ∧ faultTrue s z r := by
  rcases h with hb | ⟨-, hp, hf⟩
  · exact absurd hb.1 hn
  · exact ⟨hp, hf⟩

/-- A grant moves a waiting zone within its rules. -/
theorem recordFits_granted {s : State} {z : Zone} {r r' : ZoneRec} (g : grantedFrom r r') (h : recordFits s z r) : recordFits s z r' := by
  rcases g with rfl | ⟨hw, rfl⟩
  · exact h
  · obtain ⟨hp, hf⟩ := zoneActive_of_running h (by simp [hw])
    refine .inr ⟨by simp, hp, ?_⟩
    unfold faultTrue at hf ⊢
    simpa [hw] using hf

/-- What no operation of the heating controller writes, the rules of a zone are read from. -/
theorem recordFits_heat {s t : State} (e : hideHeat t = hideHeat s) (z : Zone) (r : ZoneRec) : recordFits t z r ↔ recordFits s z r := by
  have := congrArg (fun u => recordFits u z r) e
  exact iff_of_eq this

theorem zonePosted_heat {s t : State} (e : hideHeat t = hideHeat s) (z : Zone) (r : ZoneRec) : zonePosted t z r ↔ zonePosted s z r := by
  have := congrArg (fun u => zonePosted u z r) e
  exact iff_of_eq this

/-- A move of one zone, of the heating controller's making, that leaves the zone within its rules. -/
structure Places (z : Zone) (s t : State) : Prop where
  frame : hideHeat t = hideHeat s
  moves : Moves z s t
  fits : recordFits s z (t.zones.get z)

theorem Places.stay {z : Zone} {s : State} (h : listsSound s) (hz : recordFits s z (s.zones.get z)) : Places z s s :=
  ⟨rfl, ⟨h, fun _ _ => grantedFrom_refl _⟩, hz⟩

/-- What places a zone whose record has been written places it from the record as it stood. -/
theorem Places.of_setZone {z : Zone} {r : ZoneRec} {s t : State} (h : Places z (setZone z r s) t) : Places z s t :=
  ⟨h.frame.trans (hideHeat_setZone z r s),
    ⟨h.moves.lists, fun y hy => by simpa [PerZone.get_set_other _ _ _ _ hy] using h.moves.others y hy⟩,
    (recordFits_heat (hideHeat_setZone z r s) z _).mp h.fits⟩

/-- Where every other zone stands by its rules, a zone put in its place leaves all of them so. -/
theorem heatSound_of_places {z : Zone} {s t : State} (p : Places z s t) (ho : ∀ y, y ≠ z → recordFits s y (s.zones.get y)) :
    heatSound t := by
  refine ⟨p.moves.lists, fun y => (recordFits_heat p.frame y _).mpr ?_⟩
  by_cases hy : y = z
  · exact hy ▸ p.fits
  · exact recordFits_granted (p.moves.others y hy) (ho y hy)

/-! ### Evaluation, selection, entry (R43, R45, R49) -/

/-- R45: a zone with its set selected is put in its place by an evaluation. -/
theorem evaluateZone_places {z : Zone} {s : State} (h : listsSound s)
    (hz : zoneBare (s.zones.get z) ∨ ((s.zones.get z).state ≠ .off ∧ zonePosted s z (s.zones.get z)
      ∧ ((s.zones.get z).latch = true → (s.zones.get z).state = .fault))) : Places z s (evaluateZone z s) := by
  rcases hz with hb | ⟨hn, hp, hl⟩
  · rw [evaluateZone_held (.inl hb.1)]
    exact Places.stay h (.inl hb)
  · cases hlatch : (s.zones.get z).latch
    · obtain ⟨m, ⟨hr, hset, hpoint⟩, hn', hf⟩ := evaluateZone_moves h hn hlatch
      refine ⟨hideHeat_evaluateZone z s, m, .inr ⟨hn', ?_, ?_⟩⟩
      · unfold zonePosted at hp ⊢
        rwa [hset, hpoint]
      · unfold faultTrue
        rw [hr, hlatch, hf]
        simp
    · rw [evaluateZone_held (.inr hlatch)]
      exact Places.stay h (.inr ⟨hn, hp, by simp [faultTrue, hl hlatch, hlatch]⟩)

/-- What a zone rests on while its set may have to be selected again. -/
def zonePending (s : State) (z : Zone) (r : ZoneRec) : Prop :=
  zoneBare r ∨ (r.state ≠ .off ∧ heatingMode s.mode = true ∧ zoneActive s z = true ∧ faultTrue s z r)

theorem zonePending_of_fits {s : State} {z : Zone} {r : ZoneRec} (h : recordFits s z r) : zonePending s z r := by
  rcases h with hb | ⟨hn, ⟨-, -, hm, ha⟩, hf⟩
  · exact .inl hb
  · exact .inr ⟨hn, hm, ha, hf⟩

/-- A zone that stands by its rules is selected already. -/
theorem reselect_fits {s : State} {z : Zone} (h : recordFits s z (s.zones.get z)) : reselect z s = s := by
  unfold reselect
  dsimp only
  rw [if_pos]
  rcases h with hb | ⟨-, ⟨hs, hp, -⟩, -⟩
  · exact .inl hb.1
  · exact .inr ⟨hs, hs ▸ hp⟩

/-- R43: a zone selected again is put in its place. -/
theorem reselect_places {z : Zone} {s : State} (h : listsSound s) (hz : zonePending s z (s.zones.get z)) :
    Places z s (reselect z s) := by
  unfold reselect
  dsimp only
  split
  · rename_i hk
    rcases hz with hb | ⟨hn, hm, ha, hf⟩
    · exact Places.stay h (.inl hb)
    · obtain ⟨hset, hpoint⟩ := hk.resolve_left hn
      exact Places.stay h (.inr ⟨hn, ⟨hset, hset ▸ hpoint, hm, ha⟩, hf⟩)
  · rename_i hk
    rcases hz with hb | ⟨hn, hm, ha, hf⟩
    · exact absurd (.inl hb.1) hk
    · refine Places.of_setZone
        (r := { s.zones.get z with activeSet := selectedSet s z, activeSetpoint := setpointOf s z (selectedSet s z) }) ?_
      refine evaluateZone_places (listsSound_setZone_state h ?_) (.inr ?_)
      · rfl
      simp only [setZone_zones, PerZone.get_set_same]
      exact ⟨hn, ⟨rfl, rfl, hm, ha⟩, fun hl => hf.mpr (.inl hl)⟩

/-- R49: a zone's entry to a heating mode puts it in its place. -/
theorem enterHeating_places {z : Zone} {s : State} (h : listsSound s) (hm : heatingMode s.mode = true)
    (hz : zoneBare (s.zones.get z)) : Places z s (enterHeating z s) := by
  have lists (r : ZoneRec) : listsSound (setZone z r s) := listsSound_setZone h (by simp [hz.1]) (by simp [hz.1])
  unfold enterHeating
  dsimp only
  split
  · exact Places.stay h (.inl hz)
  · rename_i ha
    have ha : zoneActive s z = true := by simpa [hz.1] using ha
    split
    · rename_i hl
      refine (Places.stay (lists _) (.inr ?_)).of_setZone
      simp only [setZone_zones, PerZone.get_set_same]
      exact ⟨by simp, ⟨rfl, rfl, hm, ha⟩, by simp [faultTrue, hl]⟩
    · rename_i hl
      refine (evaluateZone_places (lists _) (.inr ?_)).of_setZone
      simp only [setZone_zones, PerZone.get_set_same]
      exact ⟨by simp, ⟨rfl, rfl, hm, ha⟩, fun hk => absurd hk hl⟩

/-! ### Every zone in turn -/

/-- An operation taken on each zone in turn, which puts the zone in its place where it finds it fit for it (`Pre`), puts every zone in its place. -/
theorem eachZone_sound {f : Zone → State → State} {Pre : State → Zone → Prop}
    (places : ∀ z s, listsSound s → Pre s z → Places z s (f z s))
    (keep : ∀ {s t y}, hideHeat t = hideHeat s → grantedFrom (s.zones.get y) (t.zones.get y) → Pre s y → Pre t y)
    {s : State} (h : listsSound s) (pre : ∀ z, Pre s z) : heatSound (eachZone f s) := by
  suffices run : ∀ (zs : List Zone) (s : State), zs.Nodup → listsSound s → (∀ z ∈ zs, Pre s z) →
      (∀ z, z ∉ zs → recordFits s z (s.zones.get z)) → heatSound (zs.foldl (fun acc z => f z acc) s) by
    exact run allZones s (by decide) h (fun z _ => pre z) fun z hz => absurd (mem_allZones z) hz
  intro zs
  induction zs with
  | nil => exact fun s _ h _ done => ⟨h, fun z => done z (by simp)⟩
  | cons z zs ih =>
    intro s nodup h pre done
    obtain ⟨hz, nodup⟩ := List.nodup_cons.mp nodup
    obtain ⟨frame, m, fits⟩ := places z s h (pre z (by simp))
    refine ih (f z s) nodup m.lists (fun y hy => ?_) (fun y hy => (recordFits_heat frame y _).mpr ?_)
    · have hne : y ≠ z := fun e => hz (e ▸ hy)
      exact keep frame (m.others y hne) (pre y (by simp [hy]))
    · by_cases hne : y = z
      · exact hne ▸ fits
      · exact recordFits_granted (m.others y hne) (done y (by simp [hne, hy]))

theorem zonePending_heat {s t : State} (e : hideHeat t = hideHeat s) (z : Zone) (r : ZoneRec) : zonePending t z r ↔ zonePending s z r := by
  have := congrArg (fun u => zonePending u z r) e
  exact iff_of_eq this

theorem zonePending_granted {s t : State} {y : Zone} (e : hideHeat t = hideHeat s) (g : grantedFrom (s.zones.get y) (t.zones.get y))
    (h : zonePending s y (s.zones.get y)) : zonePending t y (t.zones.get y) := by
  refine (zonePending_heat e y _).mpr ?_
  rcases g with e | ⟨hw, e⟩
  · exact e ▸ h
  · rcases h with hb | ⟨-, hm, ha, hf⟩
    · rw [hb.1] at hw
      cases hw
    · refine .inr ⟨by simp [e], hm, ha, ?_⟩
      rw [e]
      unfold faultTrue at hf ⊢
      simpa [hw] using hf

/-- R50: every zone selected again. -/
theorem eachZone_reselect_sound {s : State} (h : listsSound s) (hz : ∀ z, zonePending s z (s.zones.get z)) :
    heatSound (eachZone reselect s) :=
  eachZone_sound (Pre := fun s z => zonePending s z (s.zones.get z)) (fun _ _ h hz => reselect_places h hz) zonePending_granted h hz

/-- Zones that stand by their rules are selected already. -/
theorem eachZone_reselect_fits {s : State} (h : ∀ z, recordFits s z (s.zones.get z)) : eachZone reselect s = s := by
  unfold eachZone
  induction allZones with
  | nil => rfl
  | cons z zs ih => rw [List.foldl_cons, reselect_fits (h z), ih]

/-- R49: every zone's entry to a heating mode. -/
theorem eachZone_enterHeating_sound {s : State} (h : listsSound s) (hm : heatingMode s.mode = true)
    (hz : ∀ z, zoneBare (s.zones.get z)) : heatSound (eachZone enterHeating s) := by
  refine eachZone_sound (Pre := fun s z => heatingMode s.mode = true ∧ zoneBare (s.zones.get z))
    (fun _ _ h hz => enterHeating_places h hz.1 hz.2) (fun e g hz => ?_) h fun z => ⟨hm, hz z⟩
  refine ⟨?_, grantedFrom_eq g (by simp [hz.2.1]) ▸ hz.2⟩
  have := congrArg (fun u => heatingMode u.mode) e
  exact this.trans hz.1

/-! ### Parking, and zones that are bare (R51) -/

/-- Zones that are bare stand by the rules of any mode. -/
theorem heatSound_of_bare {s t : State} (h : heatSound s) (hz : ∀ z, zoneBare (s.zones.get z)) (ez : t.zones = s.zones)
    (eq : t.queue = s.queue) (eg : t.grants = s.grants) : heatSound t := by
  refine ⟨?_, fun z => .inl (ez ▸ hz z)⟩
  obtain ⟨hl, -⟩ := h
  unfold listsSound at hl ⊢
  rwa [ez, eq, eg]

theorem parkZones_get (s : State) (z : Zone) : (parkZones s).zones.get z = zoneOff (s.zones.get z) := by cases z <;> rfl

/-- R51: parked zones stand by the rules. -/
theorem parkZones_sound (s : State) : heatSound (parkZones s) :=
  ⟨⟨List.nodup_nil, fun _ h => absurd h List.not_mem_nil, fun _ h => absurd h List.not_mem_nil⟩,
    fun z => .inl (parkZones_get s z ▸ ⟨rfl, rfl, rfl⟩)⟩

end Sys2Proof.Machine
end

section
/-! PROOFS. The zones and the readiness flag through a mode change, a readiness evaluation and every other event: the truth of readiness is kept by
every step (R7, R20, R41, R43, R45). -/

namespace Sys2Proof.Machine

open Sys2Proof

/-! ### The zones see the mode (R49 to R51) -/

/-- R49 to R51: zones that stood by the rules of the old mode stand by those of the new. -/
theorem zonesSeeMode_sound {old : Mode} {s : State} (h : heatSound { s with mode := old }) : heatSound (zonesSeeMode old s) := by
  unfold zonesSeeMode
  split
  · rename_i hm
    split
    · refine eachZone_reselect_sound h.1 fun z => ?_
      rcases h.2 z with hb | ⟨hn, ⟨-, -, -, ha⟩, hf⟩
      · exact .inl hb
      · exact .inr ⟨hn, hm, ha, hf⟩
    · rename_i ho
      exact eachZone_enterHeating_sound h.1 hm (zoneBare_of_resting (s := { s with mode := old }) h (by simpa using ho))
  · split
    · exact parkZones_sound s
    · rename_i ho
      exact heatSound_of_bare (s := { s with mode := old }) h (zoneBare_of_resting (s := { s with mode := old }) h (by simpa using ho))
        rfl rfl rfl

/-- The sides, the feed channels and the profiler see the mode without touching what the zones stand by. -/
theorem heatView_blocksSee (old : Mode) (run e : Bool) (s : State) :
    heatView (blocksSee old run e s) = heatView (if s.mode = old then s else zonesSeeMode old (travelSeesMode old s)) := by
  unfold blocksSee
  dsimp only
  rw [heatView_of_travel (hideTravel_profilerSeesMode _ _), heatView_of_feeds (hideFeeds_feedsSeeMode _ _ _),
    heatView_of_sides (hideSides_sidesSeeMode _ _ _ _)]

theorem blocksSee_sound {old : Mode} {run e : Bool} {s : State} (h : heatSound { s with mode := old }) :
    heatSound (blocksSee old run e s) := by
  refine heatSound_of_view ?_ (heatView_blocksSee old run e s)
  split
  · rename_i hm
    subst hm
    exact h
  · refine zonesSeeMode_sound ?_
    rw [travelSeesMode_eq]
    exact heatSound_of_view h rfl

/-- Between modes in which no zone heats, the zones see nothing. -/
theorem heatView_blocksSee_resting {old : Mode} {run e : Bool} {s : State} (ho : heatingMode old = false)
    (hm : heatingMode s.mode = false) : heatView (blocksSee old run e s) = heatView s := by
  rw [heatView_blocksSee]
  split
  · rfl
  · rw [travelSeesMode_eq]
    unfold zonesSeeMode
    simp only [hm, ho, Bool.false_eq_true, if_false]
    rfl

/-! ### A readiness evaluation (R7) -/

theorem failingZones_heatView (s : State) : failingZones (heatView s) = failingZones s := by
  unfold failingZones
  refine List.filter_congr fun z _ => ?_
  cases z <;> rfl

/-- The zones that fail their threshold are read from the view. -/
theorem failingZones_view {s t : State} (e : heatView t = heatView s) : failingZones t = failingZones s := by
  rw [← failingZones_heatView t, e, failingZones_heatView]

/-- The modes that the chain moves between select the same sets (R43). -/
theorem heatSound_mode {s : State} {m : Mode} (h : heatSound s) (hs : s.mode ≠ .standby) (hm : heatingMode m = true) (hn : m ≠ .standby) :
    heatSound { s with mode := m } := by
  refine ⟨h.1, fun z => ?_⟩
  rcases h.2 z with hb | ⟨ho, ⟨hset, hpoint, -, ha⟩, hf⟩
  · exact .inl hb
  · refine .inr ⟨ho, ⟨?_, hpoint, hm, ha⟩, hf⟩
    have e : selectedSet { s with mode := m } z = selectedSet s z := by simp only [selectedSet, hs, hn, if_false]; rfl
    exact hset.trans e.symm

/-- R10, R11: the chain keeps the mode, or moves within PREHEAT, READY and PAVING. -/
theorem chained_moves (m : Mode) (pave hot : Bool) :
    (chained m pave hot).1 = m ∨ (heatingMode m = true ∧ m ≠ .standby ∧ heatingMode (chained m pave hot).1 = true
      ∧ (chained m pave hot).1 ≠ .standby) := by
  cases m <;> cases pave <;> cases hot <;> decide

/-- The state in which the blocks see a readiness evaluation. -/
def readinessTaken (s : State) : State := readinessChain (noteReadinessLoss s.readiness (evaluateReadiness s))

theorem readinessTaken_eq (s : State) :
    readinessTaken s
      = { s with
          mode := (chained s.mode s.pavePending (failingZones s).isEmpty).1
          pavePending := (chained s.mode s.pavePending (failingZones s).isEmpty).2
          readiness := (failingZones s).isEmpty, failing := (failingZones s).length
          profiler := { s.profiler with flags := (readinessTaken s).profiler.flags }
          events := (readinessTaken s).events } := by
  unfold readinessTaken
  rw [readinessChain_eq, noteReadinessLoss_eq]
  rfl

/-- R7: the flag and the count are those of the zones as they stand, and the zones stand by their rules. -/
def readinessTrue (s : State) : Prop := heatSound s ∧ readinessCurrent s = true

theorem readinessTrue_of_view {s t : State} (h : readinessTrue s) (e : heatView t = heatView s) : readinessTrue t := by
  refine ⟨heatSound_of_view h.1 e, ?_⟩
  have hm := congrArg State.mode e
  have hr := congrArg State.readiness e
  have hf := congrArg State.failing e
  have hc := h.2
  unfold readinessCurrent at hc ⊢
  rw [failingZones_view e]
  have hm : t.mode = s.mode := hm
  have hr : t.readiness = s.readiness := hr
  have hf : t.failing = s.failing := hf
  rwa [hm, hr, hf]

theorem readinessTaken_sound {s : State} (h : heatSound s) : heatSound (readinessTaken s) := by
  rw [readinessTaken_eq]
  rcases chained_moves s.mode s.pavePending (failingZones s).isEmpty with e | ⟨-, hs, hm, hn⟩
  · rw [e]
    exact h
  · exact heatSound_mode h hs hm hn

/-- The blocks' reaction to a readiness evaluation leaves the zones as they stand. -/
theorem heatView_settleReadiness {s : State} (hm : s.mode ≠ .starting) (h : heatSound s) :
    heatView (settleReadiness s) = heatView (readinessTaken s) := by
  rw [settleReadiness_running hm, heatView_blocksSee]
  change heatView (if (readinessTaken s).mode = s.mode then readinessTaken s else
    zonesSeeMode s.mode (travelSeesMode s.mode (readinessTaken s))) = _
  split
  · rfl
  · rename_i hne
    have hsound := readinessTaken_sound h
    have ht : heatSound (travelSeesMode s.mode (readinessTaken s)) := by
      rw [travelSeesMode_eq]
      exact heatSound_of_view hsound rfl
    rw [readinessTaken_eq] at hne
    obtain ⟨hh, -, hh', -⟩ := (chained_moves s.mode s.pavePending (failingZones s).isEmpty).resolve_left hne
    have hheat : heatingMode (travelSeesMode s.mode (readinessTaken s)).mode = true := by
      rw [travelSeesMode_eq, readinessTaken_eq]
      exact hh'
    unfold zonesSeeMode
    rw [if_pos hheat, if_pos hh, eachZone_reselect_fits ht.2, travelSeesMode_eq]
    rfl

/-- R7, R20: after a readiness evaluation the flag and the count are those of the zones. -/
theorem settleReadiness_true {s : State} (h : heatSound s) : readinessTrue (settleReadiness s) := by
  by_cases hm : s.mode = .starting
  · rw [settleReadiness_starting hm]
    exact ⟨h, by simp [readinessCurrent, hm]⟩
  · refine readinessTrue_of_view (s := readinessTaken s) ⟨readinessTaken_sound h, ?_⟩ (heatView_settleReadiness hm h)
    unfold readinessCurrent
    have hf : failingZones (readinessTaken s) = failingZones s := by
      rw [readinessTaken_eq]
      rfl
    rw [hf, readinessTaken_eq]
    simp

/-- R2: a whole mode change leaves the zones by their rules and readiness true. -/
theorem blocksSee_settle_true {old : Mode} {run e : Bool} {s : State} (h : heatSound { s with mode := old }) :
    readinessTrue (settleReadiness (blocksSee old run e s)) := settleReadiness_true (blocksSee_sound h)

theorem takeModeChange_true {m : Mode} {c : ModeCause} {o : Origin} {e : Bool} {s : State} (h : heatSound s) :
    readinessTrue (takeModeChange m c o e s) := by
  rw [takeModeChange_eq]
  refine blocksSee_settle_true ?_
  rw [modeTaken_eq]
  exact h

/-! ### The mode controller's events -/

theorem goStart_sound {g : GoTarget} {s : State} (h : heatSound s) : heatSound (goStart g s) := by
  unfold goStart
  split
  · exact h
  · exact h
  · exact h
  · split <;> exact h
  · exact h

theorem goEffect_true {p : Port} {g : GoTarget} {s t : State} (hg : goEffect p g s = some t) (h : readinessTrue s) :
    readinessTrue t := by
  match hk : goEntry g s.mode with
  | none => rw [goEffect_none p hk] at hg; cases hg
  | some (some m) =>
    rw [goEffect_entry p hk] at hg
    rw [← Option.some.inj hg]
    exact takeModeChange_true (goStart_sound h.1)
  | some none =>
    rcases goEffect_stay p hk with ⟨-, -, e⟩ | ⟨-, -, e⟩ | ⟨-, -, e⟩ | ⟨-, -, e⟩ <;> rw [e] at hg <;> rw [← Option.some.inj hg]
    · exact h
    · exact settleReadiness_true h.1
    · exact h
    · exact h

theorem endWindow_true {s : State} (h : readinessTrue s) : readinessTrue (endWindow s) := by
  unfold endWindow
  refine blocksSee_settle_true ?_
  split
  · rw [changeMode_eq]
    exact h.1
  · exact h.1

theorem matchStop_true {s : State} (h : readinessTrue s) : readinessTrue (matchStop s) := by
  unfold matchStop
  dsimp only
  split
  · exact readinessTrue_of_view h rfl
  · refine blocksSee_settle_true ?_
    rw [appendEvent_eq, changeMode_eq]
    exact h.1

theorem assertEstop_true {s : State} (h : readinessTrue s) : readinessTrue (assertEstop s) := by
  have hl : heatView (endWidthJogs .eStop { s with estop := true }) = heatView { s with estop := true } := by simp [endWidthJogs]
  have hs : readinessTrue (endWidthJogs .eStop { s with estop := true }) := readinessTrue_of_view (s := { s with estop := true }) h hl
  unfold assertEstop
  dsimp only
  split
  · exact hs
  · refine readinessTrue_of_view hs ?_
    rw [heatView_of_feeds (hideFeeds_eachFeed _ (hideFeeds_forceFeedOff .eStop) _)]
    exact (heatView_of_sides (hideSides_forceSideOff _ _ _)).trans (heatView_of_sides (hideSides_forceSideOff _ _ _))
  · exact takeModeChange_true hs.1

theorem modeFreed_true {s : State} (h : readinessTrue s) : readinessTrue (modeFreed s) := by
  unfold modeFreed
  dsimp only
  split
  · exact takeModeChange_true h.1
  · exact h

/-- R7: an evaluation leaves the flag and the count those of the zones in the mode that follows. -/
theorem readinessCurrent_entered (m : Mode) (c : ModeCause) (o : Origin) (s : State) :
    readinessCurrent (changeMode m c o (evaluateReadiness s)) = true := by
  have hf : failingZones (changeMode m c o (evaluateReadiness s)) = failingZones s := by
    rw [changeMode_eq]
    rfl
  unfold readinessCurrent
  rw [hf]
  simp [changeMode_eq, evaluateReadiness]

theorem completeLoad_true (b : Bool) {s : State} (h : readinessTrue s) : readinessTrue (completeLoad b s) := by
  unfold completeLoad
  split
  · rename_i hm
    refine readinessTrue_of_view ?_ (heatView_of_round (hideRound_startRound _))
    refine readinessTrue_of_view ?_ (heatView_blocksSee_resting rfl (by simp [heatingMode]))
    have bare := zoneBare_of_resting h.1 (by simp [heatingMode, hm])
    have hz (i : Option SettingsImage) : (noteOutcome i s).zones = s.zones ∧ (noteOutcome i s).queue = s.queue
        ∧ (noteOutcome i s).grants = s.grants := by
      unfold noteOutcome
      cases i
      · rw [appendEvent_eq]; exact ⟨rfl, rfl, rfl⟩
      · exact ⟨rfl, rfl, rfl⟩
    obtain ⟨hz, hq, hg⟩ := hz (loadedImage b s.store.array)
    refine ⟨?_, readinessCurrent_entered _ _ _ _⟩
    simp only [changeMode_eq, numberJob, recordJob, appendEvent_eq]
    exact heatSound_of_bare h.1 bare hz hq hg
  · exact h

/-! ### The heating controller's events -/

/-- A zone put in its place among zones that stand by their rules. -/
theorem heatSound_placed {z : Zone} {s t : State} (h : heatSound s) (p : Places z s t) : heatSound t :=
  heatSound_of_places p fun y _ => h.2 y

/-- R55: an element failure puts a running zone in its place. -/
theorem elementFail_sound {z : Zone} {s : State} (h : heatSound s) (hn : (s.zones.get z).state ≠ .off) : heatSound (elementFail z s) := by
  obtain ⟨hp, -⟩ := zoneActive_of_running (h.2 z) hn
  obtain ⟨m, hs, hl, hset, hpoint⟩ := elementFail_moves (z := z) h.1
  refine heatSound_placed h ⟨hideHeat_elementFail z s, m, .inr ⟨by simp [hs], ?_, by simp [faultTrue, hs, hl]⟩⟩
  unfold zonePosted at hp ⊢
  rwa [hset, hpoint]

theorem feedbackChange_sound (z : Zone) {s : State} (h : heatSound s) : heatSound (feedbackChange z s) := by
  unfold feedbackChange
  dsimp only
  split
  · rename_i hk
    exact elementFail_sound h (by simp [hk.1])
  · exact h

/-- A record written with its state, its set and its latch kept. -/
theorem setZone_sound {z : Zone} {r : ZoneRec} {s : State} (h : heatSound s) (hs : r.state = (s.zones.get z).state)
    (hr : sameRule (s.zones.get z) r) : heatSound (setZone z r s) := by
  refine heatSound_placed h (Places.of_setZone (r := r) (Places.stay (listsSound_setZone_state h.1 hs) ?_))
  rw [setZone_zones, PerZone.get_set_same]
  obtain ⟨hl, hset, hpoint⟩ := hr
  have hz := h.2 z
  unfold recordFits zoneBare zonePosted faultTrue at hz ⊢
  rwa [hs, hl, hset, hpoint]

theorem checkDelayEnd_sound {z : Zone} {s : State} (hc : checkReached s z = true) (h : heatSound s) : heatSound (checkDelayEnd z s) := by
  simp only [checkReached, Bool.and_eq_true, decide_eq_true_eq] at hc
  unfold checkDelayEnd
  split
  · exact setZone_sound h rfl ⟨rfl, rfl, rfl⟩
  · exact elementFail_sound h (by simp [hc.1.1])

/-- R69: a rotation takes a HEATING zone to WAITING or SATISFIED. -/
theorem rotateGrant_sound {z : Zone} {s : State} (h : heatSound s) (hs : (s.zones.get z).state = .heating) : heatSound (rotateGrant z s) := by
  obtain ⟨hp, hf⟩ := zoneActive_of_running (h.2 z) (by simp [hs])
  have hq := notMem_queue h.1 (z := z) (by simp [hs])
  have place {st : ZoneState} {r' : ZoneRec} (hst : runs st)
      (g : grantedFrom { s.zones.get z with state := st, check := .idle, checkMs := 0 } r') : recordFits s z r' := by
    refine recordFits_granted g (.inr ⟨hst.1, hp, ?_⟩)
    unfold faultTrue at hf ⊢
    simpa [hs, hst.2] using hf
  have lists (r : ZoneRec) (gs : List Grant) (hg : gs = s.grants.filter fun g => decide (g.zone ≠ z)) :
      listsSound { s with queue := s.queue, grants := gs, zones := s.zones.set z r } :=
    listsSound_withdraw h.1 (List.Sublist.refl _) hq (hg ▸ List.filter_subset_self _)
      fun g hm => by
        subst hg
        exact of_decide_eq_true (List.mem_filter.mp hm).2
  unfold rotateGrant
  dsimp only
  split
  · have joined : listsSound (setZone z { s.zones.get z with state := .waiting, check := .idle, checkMs := 0 }
        { s with queue := s.queue ++ [z], grants := s.grants.filter fun g => decide (g.zone ≠ z) }) := by
      obtain ⟨nodup, waiting, heating⟩ := lists { s.zones.get z with state := .waiting, check := .idle, checkMs := 0 } _ rfl
      refine ⟨List.nodup_append.mpr ⟨nodup, List.nodup_singleton z, fun a ha b hb e => ?_⟩, fun y hy => ?_, heating⟩
      · exact hq (List.mem_singleton.mp hb ▸ e ▸ ha)
      · rcases List.mem_append.mp hy with hy | hy
        · exact waiting y hy
        · rw [List.mem_singleton.mp hy]
          simp
    obtain ⟨m, g⟩ := Moves.of_allocate (z := z) (s := s) joined rfl
    exact heatSound_placed h ⟨hideHeat_allocate _, m, place (by simp [runs]) g⟩
  · obtain ⟨m, g⟩ := Moves.of_allocate (z := z) (s := s)
      (lists { s.zones.get z with state := .satisfied, check := .idle, checkMs := 0 } _ rfl) rfl
    exact heatSound_placed h ⟨hideHeat_allocate _, m, place (by simp [runs]) g⟩

theorem expireSlice_sound {z : Zone} {s : State} (hr : sliceReached s z = true) (h : heatSound s) : heatSound (expireSlice z s) := by
  obtain ⟨g, hg, hz⟩ := List.any_eq_true.mp hr
  have hz : g.zone = z := by simp only [Bool.and_eq_true, decide_eq_true_eq] at hz; exact hz.1
  unfold expireSlice
  split
  · refine ⟨⟨h.1.1, h.1.2.1, fun g' hg' => ?_⟩, h.2⟩
    obtain ⟨g0, hg0, e⟩ := List.mem_map.mp hg'
    have : g'.zone = g0.zone := by
      rw [← e]
      split <;> rfl
    rw [this]
    exact h.1.2.2 g0 hg0
  · exact rotateGrant_sound h (hz ▸ h.1.2.2 g hg)

/-- R57: a cleared latch has a zone in FAULT judged again. -/
theorem clearLatch_sound {z : Zone} {p : Port} {s : State} (h : heatSound s) : heatSound (clearLatch z p s) := by
  have lists : listsSound (setLatch z false s) := listsSound_setZone_state h.1 rfl
  have others : ∀ y, y ≠ z → recordFits (setLatch z false s) y ((setLatch z false s).zones.get y) := fun y hy => by
    rw [setLatch, setZone_zones, PerZone.get_set_other _ _ _ _ hy]
    exact h.2 y
  have hz : (setLatch z false s).zones.get z = { s.zones.get z with latch := false } := by simp [setLatch]
  have view : heatView (appendEvent (.port p) (.zoneCleared z (zoneTemp s z)) (setLatch z false s)) = heatView (setLatch z false s) :=
    heatView_appendEvent _ _ _
  unfold clearLatch
  dsimp only
  split
  · rename_i hs
    obtain ⟨hp, -⟩ := zoneActive_of_running (h.2 z) (by simp [hs])
    have lists' := (listsSound_view view).mpr lists
    obtain ⟨m, hst, hl, hset, hpoint⟩ := leaveTo_moves (z := z) (target := .satisfied) lists' (by decide)
    rw [zones_of_view view, hz] at hl hset hpoint
    have frame : hideHeat (leaveTo z .satisfied (appendEvent (.port p) (.zoneCleared z (zoneTemp s z)) (setLatch z false s)))
        = hideHeat s := by simp [setLatch]
    have pl := evaluateZone_places (z := z) m.lists (.inr ⟨by simp [hst], ?_, fun hk => by rw [hl] at hk; cases hk⟩)
    · refine heatSound_of_places pl fun y hy => ?_
      refine recordFits_granted (m.others y hy) ?_
      rw [zones_of_view view]
      exact (recordFits_heat (frame.trans (by simp [setLatch])) y _).mpr (others y hy)
    · refine (zonePosted_heat frame z _).mpr ?_
      unfold zonePosted at hp ⊢
      rw [hset, hpoint]
      exact hp
  · rename_i hs
    refine heatSound_of_view (s := setLatch z false s) ⟨lists, fun y => ?_⟩ view
    by_cases hy : y = z
    · subst hy
      rw [hz]
      rcases h.2 y with hb | ⟨hn, hp, hf⟩
      · exact .inl hb
      · refine .inr ⟨hn, hp, ?_⟩
        unfold faultTrue at hf ⊢
        have hf := hf.not.mp hs
        exact ⟨fun hk => absurd hk hs, fun hk => absurd (.inr (hk.resolve_left (by simp))) hf⟩
    · exact others y hy

end Sys2Proof.Machine
end

section
/-! PROOFS. The conversions, the settings and the millisecond, as the zones see them; and the truth of readiness kept by every step (O11). -/

namespace Sys2Proof.Machine

open Sys2Proof

/-! ### What the rules of one zone read -/

theorem recordFits_congr {s t : State} {z : Zone} {r : ZoneRec} (hm : heatingMode t.mode = heatingMode s.mode)
    (ha : zoneActive t z = zoneActive s z) (hs : selectedSet t z = selectedSet s z) (hp : setpointOf t z = setpointOf s z)
    (hf : zoneChannelFault t z = zoneChannelFault s z) : recordFits t z r ↔ recordFits s z r := by
  unfold recordFits zonePosted faultTrue
  rw [hm, ha, hs, hp, hf]

theorem zonePending_heatView (s : State) (z : Zone) (r : ZoneRec) : zonePending (heatView s) z r ↔ zonePending s z r := by
  cases z <;> exact Iff.rfl

theorem zonePending_view {s t : State} (e : heatView t = heatView s) (z : Zone) (r : ZoneRec) : zonePending t z r ↔ zonePending s z r :=
  (zonePending_heatView t z r).symm.trans
    ((iff_of_eq (congrArg (fun u => zonePending u z r) e)).trans (zonePending_heatView s z r))

theorem heatView_trackMaximum (z : Zone) (s : State) : heatView (trackMaximum z s) = heatView s := by
  unfold trackMaximum
  dsimp only
  split <;> rfl

/-! ### Conversions (R32, R43, R45) -/

/-- R45: a converted temperature has its own zone judged, and touches no other. -/
theorem zoneConversion_sound (z : Zone) (r : Analog) {s : State} (h : heatSound s) :
    heatSound (zoneConversion z (setAnalog (.temp z) r s)) := by
  have view := heatView_trackMaximum z (setAnalog (.temp z) r s)
  have zones : (trackMaximum z (setAnalog (.temp z) r s)).zones = s.zones := (zones_of_view view).trans rfl
  unfold zoneConversion
  refine heatSound_of_places (evaluateZone_places ((listsSound_view view).mpr h.1) ?_) fun y hy => ?_
  · rw [zones]
    rcases h.2 z with hb | ⟨hn, hp, hf⟩
    · exact .inl hb
    · refine .inr ⟨hn, ?_, fun hl => hf.mpr (.inl hl)⟩
      have hk : zonePosted (heatView (trackMaximum z (setAnalog (.temp z) r s))) z (s.zones.get z) := by
        rw [view]
        cases z <;> exact hp
      cases z <;> exact hk
  · rw [zones, recordFits_view view]
    refine (recordFits_congr (s := s) (t := setAnalog (.temp z) r s) rfl rfl rfl rfl ?_).mpr (h.2 y)
    exact congrArg Analog.fault (PerZone.get_set_other s.analog.temp z y r hy)

theorem heatView_becomeStale (d : Side) (s : State) : heatView (becomeStale d s) = heatView s := by
  unfold becomeStale
  dsimp only
  split
  · rfl
  · refine (heatView_appendEvent _ _ _).trans ?_
    cases d <;> rfl

/-- The zone that an extension position selects the set of is the side's own. -/
theorem selectedSet_setExtension {d : Side} {y : Zone} (hy : y ≠ extensionZone d) (r : Extension) (s : State) :
    selectedSet (setExtension d r s) y = selectedSet s y := by
  cases d <;> cases y <;> first | rfl | exact absurd rfl hy

/-- R32, R43: a converted extension has its side's zone selected again. -/
theorem extConversion_sound (d : Side) {s : State} (h : heatSound s) : heatSound (extConversion d s) := by
  unfold extConversion
  dsimp only
  split
  · exact heatSound_of_view h ((heatView_becomeStale _ _).trans (heatView_endWidthJog _ _ _))
  · generalize hr : { s.geometry.get d with position := clamp 0 2500 (s.analog.ext.get d).value, stale := false } = r
    have place {t : State} (e : heatView t = heatView (setExtension d r s)) : heatSound (reselect (extensionZone d) t) := by
      have zones : t.zones = s.zones := (zones_of_view e).trans rfl
      refine heatSound_of_places (reselect_places ((listsSound_view e).mpr h.1) ?_) fun y hy => ?_
      · rw [zones, zonePending_view e]
        exact zonePending_of_fits (s := s) (h.2 (extensionZone d))
      · rw [zones, recordFits_view e]
        exact (recordFits_congr (s := s) (t := setExtension d r s) rfl rfl (selectedSet_setExtension hy r s) rfl rfl).mpr (h.2 y)
    refine place ?_
    split
    · exact heatView_endWidthJog _ _ _
    · rfl

/-! ### A millisecond -/

theorem elapse_zone (s : State) (z : Zone) : (elapse s).zones.get z = elapseZone (s.zones.get z) := by cases z <;> rfl

theorem elapseZone_rule (r : ZoneRec) : (elapseZone r).state = r.state ∧ sameRule r (elapseZone r) := by
  unfold elapseZone sameRule
  split <;> simp

theorem extended_elapse (s : State) (d : Side) : extended (elapse s) d = extended s d := by
  cases d <;> rfl

theorem pavingSet_elapse (s : State) (z : Zone) : pavingSet (elapse s) z = pavingSet s z := by
  unfold pavingSet
  split
  · rfl
  · rw [extended_elapse]

theorem failingZones_elapse (s : State) : failingZones (elapse s) = failingZones s := by
  unfold failingZones
  refine List.filter_congr fun z _ => ?_
  have hs : ((elapse s).zones.get z).state = (s.zones.get z).state := by rw [elapse_zone, (elapseZone_rule _).1]
  unfold meetsThreshold
  rw [hs, pavingSet_elapse]
  rfl

theorem elapse_true {s : State} (h : readinessTrue s) : readinessTrue (elapse s) := by
  obtain ⟨⟨⟨nodup, waiting, heating⟩, fits⟩, current⟩ := h
  have state (z : Zone) : ((elapse s).zones.get z).state = (s.zones.get z).state := by rw [elapse_zone, (elapseZone_rule _).1]
  refine ⟨⟨⟨nodup, fun z hz => (state z).trans (waiting z hz), fun g hg => ?_⟩, fun z => ?_⟩, ?_⟩
  · obtain ⟨g', hg', rfl⟩ := List.mem_map.mp hg
    exact (state g'.zone).trans (heating g' hg')
  · have hs : selectedSet (elapse s) z = selectedSet s z := by
      unfold selectedSet
      rw [pavingSet_elapse]
      rfl
    refine (recordFits_congr (s := s) (t := elapse s) rfl rfl hs rfl rfl).mpr ?_
    obtain ⟨hstate, hl, hset, hpoint⟩ := elapseZone_rule (s.zones.get z)
    have hz := fits z
    rw [elapse_zone]
    unfold recordFits zoneBare zonePosted faultTrue at hz ⊢
    rwa [hstate, hl, hset, hpoint]
  · unfold readinessCurrent at current ⊢
    rw [failingZones_elapse]
    exact current

/-! ### Settings (R8, R31, R42 to R44, R58) -/

/-- The settings that the zones' rules and readiness read are the same in both. -/
structure SameZoneSettings (f g : Settings) : Prop where
  band : g.readinessBand = f.readinessBand
  threshold : g.extThreshold = f.extThreshold
  boltOn : g.boltOn = f.boltOn
  zones : ∀ z, (g.zones.get z).pave = (f.zones.get z).pave ∧ (g.zones.get z).hold = (f.zones.get z).hold
    ∧ (g.zones.get z).exclude = (f.zones.get z).exclude

/-- An item that no evaluation follows, and any item of an input, is none of those settings. -/
theorem sameZoneSettings_store {x : Setting} (hx : judgedSetting x = false ∨ ∃ i p, x = .input i p) (f : Settings) (v : Int) :
    SameZoneSettings f (storeSetting f x v) := by
  cases x with
  | readinessBand | extThreshold | screed _ | zoneSetpoint _ _ | exclude _ => simp [judgedSetting] at hx
  | rating z =>
    refine ⟨rfl, rfl, rfl, fun y => ?_⟩
    simp only [storeSetting, storeZone, PerZone.get_set]
    split
    · rename_i e
      subst e
      exact ⟨rfl, rfl, rfl⟩
    · exact ⟨rfl, rfl, rfl⟩
  | slotParam slot param => cases slot <;> cases param <;> exact ⟨rfl, rfl, rfl, fun _ => ⟨rfl, rfl, rfl⟩⟩
  | sideSetpoint d which => cases which <;> exact ⟨rfl, rfl, rfl, fun _ => ⟨rfl, rfl, rfl⟩⟩
  | gain g p => cases g <;> exact ⟨rfl, rfl, rfl, fun _ => ⟨rfl, rfl, rfl⟩⟩
  | input i p => cases p <;> exact ⟨rfl, rfl, rfl, fun _ => ⟨rfl, rfl, rfl⟩⟩
  | _ => exact ⟨rfl, rfl, rfl, fun _ => ⟨rfl, rfl, rfl⟩⟩

theorem pavingSet_setSettings {s : State} {g : Settings} (e : SameZoneSettings s.settings g) (z : Zone) :
    pavingSet (setSettings g s) z = pavingSet s z := by
  have he (d : Side) : extended (setSettings g s) d = extended s d := congrArg (fun n => decide (n ≤ _)) e.threshold
  simp only [pavingSet, he]

theorem zoneActive_setSettings {s : State} {g : Settings} (e : SameZoneSettings s.settings g) (z : Zone) :
    zoneActive (setSettings g s) z = zoneActive s z := by
  simp only [zoneActive, fitted, setSettings_settings, e.boltOn, (e.zones z).2.2]

theorem setpointOf_setSettings {s : State} {g : Settings} (e : SameZoneSettings s.settings g) (z : Zone) :
    setpointOf (setSettings g s) z = setpointOf s z := by
  obtain ⟨hp, hh, -⟩ := e.zones z
  funext a
  cases a with
  | none => rfl
  | pave => exact hp
  | hold => exact hh

theorem readinessTrue_setSettings {s : State} {g : Settings} (e : SameZoneSettings s.settings g) (h : readinessTrue s) :
    readinessTrue (setSettings g s) := by
  obtain ⟨⟨lists, fits⟩, current⟩ := h
  refine ⟨⟨lists, fun z => ?_⟩, ?_⟩
  · refine (recordFits_congr (s := s) (t := setSettings g s) rfl (zoneActive_setSettings e z) ?_ (setpointOf_setSettings e z) rfl).mpr (fits z)
    unfold selectedSet
    rw [pavingSet_setSettings e]
    rfl
  · have hf : failingZones (setSettings g s) = failingZones s := by
      unfold failingZones
      refine List.filter_congr fun z _ => ?_
      have hb : (setSettings g s).settings.readinessBand = s.settings.readinessBand := e.band
      unfold meetsThreshold
      rw [zoneActive_setSettings e, pavingSet_setSettings e, setpointOf_setSettings e, hb]
      rfl
    unfold readinessCurrent at current ⊢
    rw [hf]
    exact current

/-- A write of one zone's settings is no matter of another zone's rules. -/
theorem recordFits_zoneSettings {z y : Zone} (hy : y ≠ z) (c : ZoneSettings) (s : State) (r : ZoneRec) :
    recordFits (setSettings (storeZone s.settings z c) s) y r ↔ recordFits s y r := by
  have hc : (storeZone s.settings z c).zones.get y = s.settings.zones.get y := PerZone.get_set_other _ _ _ _ hy
  refine recordFits_congr rfl ?_ rfl ?_ rfl
  · simp only [zoneActive, setSettings_settings, hc]
    rfl
  · funext a
    simp only [setpointOf, setSettings_settings, hc]

/-- R42, R43: a zone whose setpoint is stored is selected again. -/
theorem reselect_setpoint_sound {z : Zone} {c : ZoneSettings} {s : State} (hc : c.exclude = (s.settings.zones.get z).exclude)
    (h : heatSound s) : heatSound (reselect z (setSettings (storeZone s.settings z c) s)) := by
  refine heatSound_of_places (reselect_places h.1 ?_) fun y hy => (recordFits_zoneSettings hy c s _).mpr (h.2 y)
  rcases zonePending_of_fits (h.2 z) with hb | ⟨hn, hm, ha, hf⟩
  · exact .inl hb
  · refine .inr ⟨hn, hm, ?_, hf⟩
    simp only [zoneActive, setSettings_settings, storeZone, PerZone.get_set_same, hc]
    exact ha

/-- R58: an excluded zone is taken out of heating. -/
theorem excludeZone_places {z : Zone} {s : State} (h : listsSound s) (hz : (s.zones.get z).state = .off → zoneBare (s.zones.get z)) :
    Places z s (excludeZone z s) := by
  unfold excludeZone
  split
  · rename_i ho
    exact Places.stay h (.inl (hz ho))
  · obtain ⟨m, hs, -⟩ := leaveTo_moves (z := z) (target := .off) h (by decide)
    refine ⟨by simp, m.trans (Moves.of_write (r := zoneOff ((leaveTo z .off s).zones.get z)) (listsSound_setZone_state m.lists ?_) rfl), ?_⟩
    · exact hs.symm
    · simp only [setZone_zones, PerZone.get_set_same]
      exact .inl ⟨rfl, rfl, rfl⟩

theorem writeExclude_sound {z : Zone} {flag : Bool} {s : State} (h : heatSound s) : heatSound (writeExclude z flag s) := by
  have others (y : Zone) (hy : y ≠ z) := (recordFits_zoneSettings hy { s.settings.zones.get z with exclude := flag } s _).mpr (h.2 y)
  have off (ho : (s.zones.get z).state = .off) : zoneBare (s.zones.get z) := (h.2 z).resolve_right fun k => k.1 ho
  unfold writeExclude
  dsimp only
  split
  · exact h
  · rename_i hflag
    split
    · exact heatSound_of_places (excludeZone_places h.1 off) others
    · rename_i hf
      have hx : (s.settings.zones.get z).exclude = true := by simpa [hf] using hflag
      have bare : zoneBare (s.zones.get z) :=
        (h.2 z).resolve_right fun ⟨_, ⟨_, _, _, ha⟩, _⟩ => by simp [zoneActive, hx] at ha
      split
      · rename_i hm
        exact heatSound_of_places (enterHeating_places h.1 hm bare) others
      · rename_i hm
        exact heatSound_of_bare h (zoneBare_of_resting h (by simpa using hm)) rfl rfl rfl

/-- R8, R31, R42 to R44, R58, R178: an accepted write leaves readiness true; the items that only PARKED may write find every zone OFF. -/
theorem applySetting_true {x : Setting} {s : State} (hx : s.mode = .parked ∨ setpointOwner x ≠ none) (v : Int) (h : readinessTrue s) :
    readinessTrue (applySetting x v s) := by
  cases hj : judgedSetting x
  · rcases heatView_applySetting hj v s with e | e
    · exact readinessTrue_of_view h e
    · exact readinessTrue_of_view (readinessTrue_setSettings (sameZoneSettings_store (.inl hj) _ _) h) e
  · have config (hn : setpointOwner x = none) : readinessTrue (settleReadiness (storeOnly x v s)) := by
      have hm := hx.resolve_right fun k => k hn
      exact settleReadiness_true (heatSound_of_bare h.1 (zoneBare_of_resting h.1 (by rw [hm]; rfl)) rfl rfl rfl)
    cases x with
    | readinessBand | extThreshold => exact config rfl
    | screed part => cases part <;> exact config rfl
    | zoneSetpoint z set =>
      simp only [applySetting, writeZoneSetpoint]
      split
      · exact h
      · refine settleReadiness_true ?_
        cases set <;> exact reselect_setpoint_sound rfl h.1
    | exclude z =>
      simp only [applySetting, writeExcludeFlag]
      split
      · exact h
      · exact settleReadiness_true (writeExclude_sound h.1)
    | input i p =>
      cases p with
      | debounce => cases i <;> cases hj
      | mode =>
        cases i with
        | feedback z =>
          exact settleReadiness_true (feedbackChange_sound z
            (readinessTrue_setSettings (sameZoneSettings_store (.inr ⟨_, _, rfl⟩) _ v) h).1)
        | travelPulse | travelDir | estop => cases hj
    | _ => cases hj

theorem resetFrom_true (s : State) : readinessTrue (resetFrom s) :=
  ⟨⟨⟨List.nodup_nil, fun _ h => absurd h List.not_mem_nil, fun _ h => absurd h List.not_mem_nil⟩,
    fun z => .inl (by cases z <;> exact ⟨rfl, rfl, rfl⟩)⟩, rfl⟩

/-! ### Readiness is kept true (O11) -/

theorem readinessTrue_kept : KeptByBlocks readinessTrue where
  view h _ e := readinessTrue_of_view h e
  reset s _ := resetFrom_true s
  load b _ h := completeLoad_true b h
  go _ _ _ _ _ hg h := goEffect_true hg h
  pause _ _ h := takeModeChange_true h.1
  window _ h := endWindow_true h
  stop _ h := matchStop_true h
  assertEstop _ h := assertEstop_true h
  releaseEstop _ h := h
  modeFreed _ h := modeFreed_true h
  temperature z r _ h := settleReadiness_true (zoneConversion_sound z r h.1)
  extension d _ h := settleReadiness_true (extConversion_sound d h.1)
  feedback z _ h := settleReadiness_true (feedbackChange_sound z h.1)
  check _ _ hc h := settleReadiness_true (checkDelayEnd_sound hc h.1)
  slice _ _ hr h := settleReadiness_true (expireSlice_sound hr h.1)
  clear _ _ _ h := settleReadiness_true (clearLatch_sound h.1)
  config _ v _ hm _ _ _ h := applySetting_true (.inl hm) v h
  setpoint _ v _ _ ho h := applySetting_true (.inr (by simp [ho])) v h
  elapse _ h := elapse_true h

end Sys2Proof.Machine

open Sys2Proof Sys2Proof.Machine

/-- Settles O11: the mode rules and the truth of readiness are kept together; the queue and the grant list enter as the zones they may name. -/
theorem readinessIsTheTruth : Obligations.ReadinessIsTheTruth := by
  unfold Obligations.ReadinessIsTheTruth
  intro s t h hb e
  obtain ⟨mode, current, fits⟩ := (readinessSound_iff s).mp h
  have kept := step_keeps readinessTrue_kept ⟨⟨listsSound_of_budgetSound hb, fits⟩, current⟩ e
  exact (readinessSound_iff t).mpr ⟨step_keeps modeSound_kept mode e, kept.2, kept.1.2⟩
end

section
/-! PROOFS. An entry to PARKED, block by block (R51, R108, R124): what the zones, the sides, the feed channels and the profiler stand at after it, and
the one record it appends. -/

namespace Sys2Proof.Machine

open Sys2Proof

/-! ### The sides and the feed channels -/

/-- R111: a side record once a grade jog that runs on it has ended. -/
def gradeJogDone (k : GradeEnd) (r : SideRec) : SideRec :=
  if r.jogLeft = 0 then r else { r with duty := 0, dir := .none, jogLeft := 0, jogMs := 0, lastEnd := k }

theorem endGradeJog_eq (k : GradeEnd) (d : Side) (s : State) :
    endGradeJog d k s = { s with sides := s.sides.set d (gradeJogDone k (s.sides.get d)) } := by
  unfold endGradeJog gradeJogDone
  dsimp only
  split
  · rw [PerSide.set_get]
  · rfl

/-- R127: a channel record once a jog that runs on it has ended. -/
def jogDone (k : FeedEnd) (r : FeedRec) : FeedRec :=
  if r.jogLeft = 0 then r else { r with duty := 0, jogDuty := 0, jogLeft := 0, jogMs := 0, lastEnd := k }

theorem endFeedJog_eq (k : FeedEnd) (c : FeedChannel) (s : State) :
    endFeedJog k c s = { s with feed := s.feed.set c (jogDone k (s.feed.get c)) } := by
  unfold endFeedJog jogDone
  dsimp only
  split
  · rw [PerFeed.set_get]
  · rfl

/-- R108: a side record after the side is forced OFF with a cause. -/
def parkedSide (k : GradeEnd) (r : SideRec) : SideRec :=
  if (gradeJogDone k r).state = .referencing then { gradeJogDone k r with returnManual := false }
  else { gradeJogDone k r with state := .off, duty := 0, dir := .none }

/-- R124: a channel record after the channel becomes OFF with a cause. -/
def parkedFeed (k : FeedEnd) (r : FeedRec) : FeedRec := { jogDone k r with state := .off, duty := 0, hold := 0, holdMs := 0 }

def parkedSides (k : GradeEnd) (v : PerSide SideRec) : PerSide SideRec := ⟨parkedSide k v.left, parkedSide k v.right⟩

def mapFeeds (g : FeedRec → FeedRec) (v : PerFeed FeedRec) : PerFeed FeedRec := ⟨g v.convL, g v.convR, g v.augL, g v.augR⟩

@[simp] theorem parkedSides_get (k : GradeEnd) (v : PerSide SideRec) (d : Side) : (parkedSides k v).get d = parkedSide k (v.get d) := by
  cases d <;> rfl

@[simp] theorem mapFeeds_get (g : FeedRec → FeedRec) (v : PerFeed FeedRec) (c : FeedChannel) : (mapFeeds g v).get c = g (v.get c) := by
  cases c <;> rfl

/-- An operation that rewrites its own channel's record, taken on every channel. -/
theorem eachFeed_map {f : FeedChannel → State → State} {g : FeedRec → FeedRec} {s : State}
    (h : ∀ c v, f c { s with feed := v } = { s with feed := v.set c (g (v.get c)) }) :
    eachFeed f s = { s with feed := mapFeeds g s.feed } := by
  have first : f .convL s = { s with feed := s.feed.set .convL (g (s.feed.get .convL)) } := h .convL s.feed
  unfold eachFeed allFeed
  simp only [List.foldl_cons, List.foldl_nil]
  rw [first, h, h, h]
  rfl

theorem forceSideOff_eq (k : GradeEnd) (d : Side) (s : State) :
    forceSideOff k d s = { s with sides := s.sides.set d (parkedSide k (s.sides.get d)) } := by
  unfold forceSideOff parkedSide
  dsimp only
  rw [endGradeJog_eq]
  simp only [PerSide.get_set_same]
  split <;> simp only [setSide, PerSide.set_set]

theorem forceFeedOff_eq (k : FeedEnd) (c : FeedChannel) (s : State) :
    forceFeedOff k c s = { s with feed := s.feed.set c (parkedFeed k (s.feed.get c)) } := by
  unfold forceFeedOff parkedFeed
  dsimp only
  rw [endFeedJog_eq]
  simp only [PerFeed.get_set_same, setFeed, PerFeed.set_set]

theorem forceSidesOff_eq (k : GradeEnd) (s : State) : forceSidesOff k s = { s with sides := parkedSides k s.sides } := by
  simp only [forceSidesOff, forceSideOff_eq]
  rfl

theorem eachFeed_forceFeedOff (k : FeedEnd) (s : State) :
    eachFeed (forceFeedOff k) s = { s with feed := mapFeeds (parkedFeed k) s.feed } :=
  eachFeed_map fun c v => forceFeedOff_eq k c { s with feed := v }

/-! ### The profiler -/

/-- R131: leaving PAVING takes the SCANNER condition away; outside an entry to PAVING none rises. -/
theorem profilerSeesMode_left {old : Mode} {s : State} (hm : s.mode ≠ .paving) (ho : s.mode ≠ old) :
    profilerSeesMode old s
      = { s with
          profiler := { s.profiler with
            scanner := if old = .paving then false else s.profiler.scanner
            flags := joinFlags s.profiler.flags (standingFlags s) } } := by
  unfold profilerSeesMode raiseFlags
  dsimp only
  rw [if_neg ho, if_neg (fun h => hm h.1)]
  split <;> rfl

theorem joinFlags_afterPause {s : State} (f : IntervalFlags) (hm : s.mode ≠ .paving) :
    (joinFlags f (standingFlags s)).afterPause = true := by
  simp [joinFlags, standingFlags, hm]

/-! ### The zones, and every block together -/

/-- R51: the zones after an entry to PARKED. -/
def parkedHeat (old : Mode) (s : State) : State := if heatingMode old then parkZones s else s

/-- R51, R108, R124: every block sees an entry to PARKED; of the interval flags AFTER_PAUSE is among those it sets. -/
theorem blocksSee_parked {old : Mode} {s : State} (hm : s.mode = .parked) (ho : old ≠ .parked) (run e : Bool) :
    ∃ flags : IntervalFlags, flags.afterPause = true ∧
      blocksSee old run e s
        = { parkedHeat old s with
            sides := parkedSides (sideCause e) s.sides
            feed := mapFeeds (parkedFeed (feedCause e)) s.feed
            profiler := { s.profiler with scanner := if old = .paving then false else s.profiler.scanner, flags := flags } } := by
  have hn : s.mode ≠ old := hm ▸ ho.symm
  have ht : travelSeesMode old s = s := by simp [travelSeesMode, hm]
  have hz : zonesSeeMode old s = parkedHeat old s := by
    unfold zonesSeeMode
    rw [hm]
    rfl
  have keep : (parkedHeat old s).mode = .parked ∧ (parkedHeat old s).sides = s.sides ∧ (parkedHeat old s).feed = s.feed
      ∧ (parkedHeat old s).profiler = s.profiler := by
    unfold parkedHeat
    split <;> exact ⟨hm, rfl, rfl, rfl⟩
  obtain ⟨hp, hs, hf, hpr⟩ := keep
  have sides : sidesSeeMode old run e (parkedHeat old s) = { parkedHeat old s with sides := parkedSides (sideCause e) s.sides } := by
    rw [sidesSeeMode, if_pos ⟨hp, ho⟩, forceSidesOff_eq, hs]
  have feeds : feedsSeeMode old (feedCause e) (sidesSeeMode old run e (parkedHeat old s))
      = { parkedHeat old s with sides := parkedSides (sideCause e) s.sides, feed := mapFeeds (parkedFeed (feedCause e)) s.feed } := by
    rw [sides, feedsSeeMode, if_neg (by simpa [hp] using ho.symm), if_pos hp, eachFeed_forceFeedOff, hf]
  unfold blocksSee
  dsimp only
  rw [if_neg hn, ht, hz, feeds, profilerSeesMode_left (by simp [hp]) (by simpa [hp] using ho.symm)]
  refine ⟨_, joinFlags_afterPause (s := { parkedHeat old s with
    sides := parkedSides (sideCause e) s.sides, feed := mapFeeds (parkedFeed (feedCause e)) s.feed }) s.profiler.flags (by simp [hp]), ?_⟩
  simp only [hpr]

/-! ### The whole mode change -/

/-- R12: outside PAVING and PAUSED no loss of readiness is noted. -/
theorem noteReadinessLoss_resting {s : State} (hp : s.mode ≠ .paving) (hq : s.mode ≠ .paused) (b : Bool) : noteReadinessLoss b s = s := by
  unfold noteReadinessLoss
  split
  · rfl
  · rw [if_neg]
    exact fun h => h.2.elim hp hq

/-- R2, R51, R108, R124: a change of mode to PARKED, whole. It appends one record. -/
theorem takeModeChange_parked {s : State} (hm : s.mode ≠ .parked) (c : ModeCause) (o : Origin) (e : Bool) :
    ∃ (hot : Bool) (n : Nat) (flags : IntervalFlags), flags.afterPause = true ∧
      takeModeChange .parked c o e s
        = { parkedHeat s.mode s with
            mode := .parked, readiness := hot, failing := n
            sides := parkedSides (sideCause e) s.sides
            feed := mapFeeds (parkedFeed (feedCause e)) s.feed
            profiler := { s.profiler with scanner := if s.mode = .paving then false else s.profiler.scanner, flags := flags }
            events := eventsAfter s [(o, .modeChanged s.mode .parked c)] } := by
  rw [takeModeChange_eq, modeTaken_other (by decide) (by decide), changeMode_eq]
  obtain ⟨flags, hflags, e⟩ := blocksSee_parked (old := s.mode)
    (s := { s with mode := .parked, events := eventsAfter s [(o, .modeChanged s.mode .parked c)] }) rfl hm (runCondition s) e
  rw [settleReadiness_stays (by simp) (by simp) (by simp), noteReadinessLoss_resting (by simp [evaluateReadiness]) (by simp [evaluateReadiness])]
  rw [e]
  unfold parkedHeat
  split <;> exact ⟨_, _, flags, hflags, rfl⟩

/-! ### What a forced side and a forced channel stand at -/

theorem parkedSide_state (k : GradeEnd) (r : SideRec) :
    (parkedSide k r).state = if r.state = .referencing then .referencing else .off := by
  unfold parkedSide gradeJogDone
  by_cases hj : r.jogLeft = 0 <;> by_cases hr : r.state = .referencing <;> simp [hj, hr]

/-- R108: the jog of a forced side ends with the cause. -/
theorem parkedSide_jog (k : GradeEnd) (r : SideRec) :
    (parkedSide k r).jogLeft = 0 ∧ (0 < r.jogLeft → (parkedSide k r).lastEnd = k) := by
  unfold parkedSide gradeJogDone
  by_cases hj : r.jogLeft = 0 <;> by_cases hr : r.state = .referencing <;> simp [hj, hr]

/-- R108: a forced side drives no valve; one that stays REFERENCING drove none. -/
theorem parkedSide_duty {k : GradeEnd} {r : SideRec} (h : r.state = .referencing → r.duty = 0) : (parkedSide k r).duty = 0 := by
  unfold parkedSide gradeJogDone
  by_cases hj : r.jogLeft = 0 <;> by_cases hr : r.state = .referencing <;> simp [hj, hr, h]

theorem parkedFeed_eq (k : FeedEnd) (r : FeedRec) :
    parkedFeed k r
      = { r with
          state := .off, duty := 0, hold := 0, holdMs := 0, jogLeft := 0
          jogDuty := if r.jogLeft = 0 then r.jogDuty else 0
          jogMs := if r.jogLeft = 0 then r.jogMs else 0
          lastEnd := if r.jogLeft = 0 then r.lastEnd else k } := by
  unfold parkedFeed jogDone
  split <;> simp_all

end Sys2Proof.Machine
end

section
/-! PROOFS. Reset and the end of the settings load (R3, R5, R6): O4, O3 and O12. -/

namespace Sys2Proof.Machine

open Sys2Proof

/-! ### Reset (R3) -/

theorem resetFrom_input (s : State) (i : DigitalInput) :
    (resetFrom s).inputs.get i = { pin := (s.inputs.get i).pin, debounced := (s.inputs.get i).pin, timer := none } := by
  cases i with
  | feedback z => cases z <;> rfl
  | travelPulse | travelDir | estop => rfl

/-- R178: in STARTING no output is driven. -/
theorem driven_starting {s : State} (h : s.mode = .starting) (o : Output) : driven s o = 0 := by simp [driven, h]

/-! ### The settings load (R5, R6, R180) -/

/-- R22, R24, R132: what settling the loaded travel settings writes. -/
theorem settleTravel_eq (s : State) :
    settleTravel s
      = { s with
          travel := { s.travel with
            station := presentStation s
            highWater := max s.travel.highWater (presentStation s)
            windowStart := s.travel.windowStart + (presentStation s - s.travel.station) }
          profiler := { s.profiler with
            nextMark := nextMarkOf s.job.start (max s.travel.highWater (presentStation s)) s.settings.recordInterval } } := rfl

/-- R5, R73: the health counters of an image. -/
def loadedHealth (i : SettingsImage) : PerZone Health :=
  ⟨i.health.ml.stored, i.health.mr.stored, i.health.el.stored, i.health.er.stored,
    i.health.bl.stored, i.health.br.stored, i.health.tl.stored, i.health.tr.stored⟩

theorem loadedHealth_get (i : SettingsImage) (z : Zone) : (loadedHealth i).get z = (i.health.get z).stored := by cases z <;> rfl

/-- R5, R22, R24, R27: the odometer under the loaded settings. -/
def loadedTravel (i : SettingsImage) (s : State) : Travel :=
  let station := stationOf s.job.start s.travel.pulseCount i.settings.pulsesPerMetre
  { s.travel with
    stop := { s.travel.stop with codeInForce := i.settings.standbyCode, pending := false }
    station := station
    highWater := max s.travel.highWater station
    windowStart := s.travel.windowStart + (station - s.travel.station) }

theorem noteOutcome_good (i : SettingsImage) (s : State) :
    noteOutcome (some i) s
      = { s with
          settings := i.settings, health := loadedHealth i, travel := loadedTravel i s
          profiler := { s.profiler with
            nextMark := nextMarkOf s.job.start (loadedTravel i s).highWater i.settings.recordInterval }
          store := { s.store with loadOutcome := .good, defaulted := false }, recordsOpen := true, events := s.events } := by
  simp only [noteOutcome]
  rw [settleTravel_eq]
  unfold presentStation applyImage
  rfl

theorem noteOutcome_bad (s : State) :
    noteOutcome none s
      = { s with
          settings := s.settings, health := s.health, travel := s.travel, profiler := { s.profiler with nextMark := s.profiler.nextMark }
          store := { s.store with loadOutcome := .defaulted, defaulted := true }, recordsOpen := true
          events := eventsAfter { s with recordsOpen := true } [(.settingsStore, .settings .defaulted)] } := by
  unfold noteOutcome
  rw [appendEvent_eq]
  rfl

/-! ### The round that start-up begins (R80) -/

theorem answerPort_sensors (p : Port) (a : Answer) (s : State) : (answerPort p a s).sensors = s.sensors := by
  unfold answerPort
  dsimp only
  split <;> rfl

theorem sensors_of_sides {s t : State} (h : hideSides t = hideSides s) : t.sensors = s.sensors := by
  have e := congrArg State.sensors h; exact e

theorem captureSlots_sensors (d : Side) (ks : List GradePlace) (s : State) : (ks.foldl (captureSlot d) s).sensors = s.sensors := by
  induction ks generalizing s with
  | nil => rfl
  | cons k ks ih => rw [List.foldl_cons, ih]; rfl

theorem completeCapture_sensors (d : Side) (s : State) : (completeCapture d s).sensors = s.sensors := by
  unfold completeCapture
  dsimp only
  split
  · split
    · rw [answerPort_sensors]
      exact captureSlots_sensors _ _ s
    · rw [appendEvent_eq]
      exact (answerPort_sensors _ _ _).trans (captureSlots_sensors _ _ s)
  · rfl

theorem countValid_sensors (d : Side) (s : State) : (countValid d s).sensors = s.sensors := rfl

theorem watchLink_sinceStart (fresh polled : Bool) (s : State) : (watchLink fresh polled s).sensors.sinceStart = s.sensors.sinceStart := by
  unfold watchLink
  dsimp only
  split
  · rw [appendEvent_eq]
  · rfl

/-- R87, R88: the end of a round does not move the time since the last start. -/
theorem endRound_sinceStart (fresh polled : Bool) (s : State) : (endRound fresh polled s).sensors.sinceStart = s.sensors.sinceStart := by
  unfold endRound
  dsimp only
  rw [sensors_of_sides (hideSides_evaluateSide .right _), sensors_of_sides (hideSides_evaluateSide .left _), countValid_sensors,
    countValid_sensors, completeCapture_sensors, completeCapture_sensors, watchLink_sinceStart]

theorem pollNext_sinceStart (slots : List Slot) (fresh polled : Bool) (s : State) :
    (pollNext slots fresh polled s).sensors.sinceStart = s.sensors.sinceStart := by
  unfold pollNext
  split
  · rfl
  · exact endRound_sinceStart fresh polled s

/-- R80: a round that begins starts the time to the next one. -/
theorem startRound_sinceStart {s : State} (hm : s.mode ≠ .starting) (hr : s.sensors.round = none) :
    (startRound s).sensors.sinceStart = 0 := by
  unfold startRound
  rw [if_neg (by simp [hm, hr])]
  exact pollNext_sinceStart _ _ _ _

/-! ### The end of start-up -/

/-- R108: a side that is OFF is forced OFF. -/
theorem parkedSide_off {r : SideRec} (h : r.state = .off) (k : GradeEnd) :
    parkedSide k r
      = { r with
          duty := 0, dir := .none, jogLeft := 0
          jogMs := if r.jogLeft = 0 then r.jogMs else 0
          lastEnd := if r.jogLeft = 0 then r.lastEnd else k } := by
  obtain ⟨⟩ := r
  cases h
  unfold parkedSide gradeJogDone
  split <;> simp_all

/-- R5, R6: the machine after the load's outcome is noted with `n`, as PARKED finds it. -/
def startedUp (last : Nat) (flags : IntervalFlags) (n : State) : State :=
  { n with
    mode := .parked, readiness := (failingZones n).isEmpty, failing := (failingZones n).length
    sides := parkedSides .parked n.sides, feed := mapFeeds (parkedFeed .parked) n.feed
    profiler := { n.profiler with flags := flags }
    job := { n.job with number := nextJobNumber last }
    events := eventsAfter n
      [(.modeController, .jobStarted (nextJobNumber last) n.job.lane n.job.layer n.job.start),
       (.modeController, .modeChanged .starting .parked .start)] }

theorem numberJob_eq (last : Nat) (s : State) :
    numberJob last s
      = { s with
          job := { s.job with number := nextJobNumber last }
          events := eventsAfter s [(.modeController, .jobStarted (nextJobNumber last) s.job.lane s.job.layer s.job.start)] } := by
  unfold numberJob recordJob
  rw [appendEvent_eq]
  rfl

theorem noteOutcome_mode (i : Option SettingsImage) (s : State) : (noteOutcome i s).mode = s.mode := by
  unfold noteOutcome
  cases i
  · simp only [appendEvent_eq]
  · rfl

/-- What start-up's end writes beside what the load's outcome wrote: settings, health, travel, the next mark, the store and records. -/
theorem startedUp_frame (s : State) (last : Nat) (flags : IntervalFlags) (f : Settings) (h : PerZone Health) (tr : Travel)
    (mark : Option Int) (st : Store) (ev : Area EventRecord) :
    ∃ u, u = startedUp last flags
        { s with
          settings := f, health := h, travel := tr, profiler := { s.profiler with nextMark := mark }, store := st
          recordsOpen := true, events := ev }
      ∧ u = { s with
          mode := .parked, readiness := u.readiness, failing := u.failing, travel := u.travel, health := u.health
          sides := u.sides, feed := u.feed
          profiler := { s.profiler with nextMark := u.profiler.nextMark, flags := u.profiler.flags }
          events := u.events, recordsOpen := true, job := { s.job with number := u.job.number }, store := u.store
          settings := u.settings }
      ∧ u.mode = .parked ∧ u.sensors = s.sensors ∧ u.sides = parkedSides .parked s.sides ∧ u.feed = mapFeeds (parkedFeed .parked) s.feed
      ∧ u.profiler.flags = flags ∧ u.readiness = (failingZones u).isEmpty ∧ u.failing = (failingZones u).length
      ∧ u.settings = f ∧ u.health = h ∧ u.travel = tr ∧ u.job.number = nextJobNumber last ∧ u.profiler.nextMark = mark ∧ u.store = st
      ∧ u.events = eventsAfter { s with settings := f, travel := tr, recordsOpen := true, events := ev }
          [(.modeController, .jobStarted u.job.number s.job.lane s.job.layer s.job.start),
           (.modeController, .modeChanged .starting .parked .start)] :=
  ⟨_, rfl, rfl, rfl, rfl, rfl, rfl, rfl, rfl, rfl, rfl, rfl, rfl, rfl, rfl, rfl, rfl⟩

/-- R6: start-up ends in the steps of its rule, and a round begins. -/
theorem completeLoad_eq {s : State} (hm : s.mode = .starting) (b : Bool) :
    ∃ flags : IntervalFlags, flags.afterPause = true ∧
      completeLoad b s
        = startRound (startedUp (lastJobOf (loadedImage b s.store.array)) flags (noteOutcome (loadedImage b s.store.array) s)) := by
  generalize hi : loadedImage b s.store.array = i
  have hn : (noteOutcome i s).mode = .starting := (noteOutcome_mode i s).trans hm
  generalize hk : noteOutcome i s = n at hn
  obtain ⟨flags, hflags, e⟩ := blocksSee_parked (old := .starting)
    (s := changeMode .parked .start .modeController (evaluateReadiness (numberJob (lastJobOf i) n))) (by simp) (by decide)
    (runCondition (evaluateReadiness (numberJob (lastJobOf i) n))) false
  refine ⟨flags, hflags, ?_⟩
  unfold completeLoad
  dsimp only
  rw [if_pos hm, hi, hk, e, changeMode_eq, numberJob_eq]
  refine congrArg startRound ?_
  have mode : (evaluateReadiness (numberJob (lastJobOf i) n)).mode = .starting := by rw [numberJob_eq]; exact hn
  rw [numberJob_eq] at mode
  rw [mode]
  rfl

end Sys2Proof.Machine

open Sys2Proof Sys2Proof.Machine

/-- Settles O4: the state right after the first power-on is one closed value. -/
theorem resetMeetsEveryRule : Obligations.ResetMeetsEveryRule := by
  unfold Obligations.ResetMeetsEveryRule
  decide

/-- Settles O3: a reset decides every block but the pins, the array and the queue, which it takes over. -/
theorem resetEntersStarting : Obligations.ResetEntersStarting := by
  unfold Obligations.ResetEntersStarting
  intro s
  exact ⟨resetFrom s, rfl, rfl, resetFrom_input s, rfl, driven_starting rfl⟩

/-- Settles O12: `startedUp` is the state in which the first round begins; the two outcomes of the load differ in what it starts from. -/
theorem loadEndsStartUp : Obligations.LoadEndsStartUp := by
  unfold Obligations.LoadEndsStartUp
  intro s b
  refine ⟨fun hm => congrArg Host.Outcome.next (if_neg hm), fun hm hoff => ?_⟩
  obtain ⟨flags, hflags, e⟩ := completeLoad_eq hm b
  match ha : (if b then s.store.array else .bad) with
  | .bad =>
    have hi : loadedImage b s.store.array = none := by
      unfold loadedImage
      cases b <;> cases hs : s.store.array <;> simp_all
    rw [hi, noteOutcome_bad] at e
    obtain ⟨u, hu, frame, mode, sensors, sides, feed, hf, ready, failing, settings, health, travel, number, mark, store, events⟩ :=
      startedUp_frame s 0 flags _ _ _ _ _ _
    refine ⟨u, congrArg Host.Outcome.next (e.trans (congrArg startRound hu.symm)), fun hr => ?_, frame, fun d => ?_, fun c => ?_,
      by rw [hf, hflags], ready, failing, settings, health, travel, number, mark, store, ?_⟩
    · exact startRound_sinceStart (by simp [mode]) (by rw [sensors, hr])
    · rw [sides, parkedSides_get, parkedSide_off (hoff d)]
    · rw [feed, mapFeeds_get, parkedFeed_eq]
    · rw [events]
      exact (eventsAfter_append { s with recordsOpen := true } [(.settingsStore, .settings .defaulted)] [_, _]).symm
  | .good image =>
    have hi : loadedImage b s.store.array = some image := by
      unfold loadedImage
      cases b <;> cases hs : s.store.array <;> simp_all
    rw [hi, noteOutcome_good] at e
    obtain ⟨u, hu, frame, mode, sensors, sides, feed, hf, ready, failing, settings, health, travel, number, mark, store, events⟩ :=
      startedUp_frame s image.lastJob flags _ _ _ _ _ _
    refine ⟨u, congrArg Host.Outcome.next (e.trans (congrArg startRound hu.symm)), fun hr => ?_, frame, fun d => ?_, fun c => ?_,
      by rw [hf, hflags], ready, failing, settings, fun z => ?_, number, store, ?_, ?_, ?_⟩
    · exact startRound_sinceStart (by simp [mode]) (by rw [sensors, hr])
    · rw [sides, parkedSides_get, parkedSide_off (hoff d)]
    · rw [feed, mapFeeds_get, parkedFeed_eq]
    · rw [health, loadedHealth_get]
    · rw [travel]
      rfl
    · rw [mark, travel]
    · rw [events, travel]
end

section
/-! PROOFS. GO(PARK) and the e-stop latch (R9, R16, R17, R19, R36): O22 and O23. -/

namespace Sys2Proof.Machine

open Sys2Proof

/-! ### A request that its block answers -/

/-- A port that is open takes a request. -/
theorem portOpen_iff (s : State) (p : Port) :
    portOpen s p = true ↔ s.mode ≠ .starting ∧ (s.ports.get p).inFlight = none ∧ (s.ports.get p).sending = none := by
  simp [portOpen, portIdle]

/-- A request served on the state with its port opened, by a service that leaves the ports alone, is answered there. -/
theorem takeRequest_answered {p : Port} {k : RequestKind} {tag : Byte} {serve : State → Served} {s t : State} {a : Answer}
    (hp : portOpen s p = true) (h : serve (withOpened p (kindByte k) tag s) = (t, some a))
    (ht : t.ports = (withOpened p (kindByte k) tag s).ports) :
    takeRequest p k tag serve s = withReply p (kindByte k) tag a { t with ports := s.ports } := by
  obtain ⟨hm, hf, -⟩ := (portOpen_iff s p).mp hp
  refine takeRequest_served hf hm (h.trans ?_)
  have e : t = withOpened p (kindByte k) tag { t with ports := s.ports } := by
    obtain ⟨⟩ := t
    cases ht
    rfl
  rw [← e]

/-! ### GO(PARK) (R9) -/

theorem goEntry_park {m : Mode} (hs : m ≠ .starting) (hp : m ≠ .parked) : goEntry .park m = some (some .parked) := by
  cases m <;> first | rfl | contradiction

theorem heatingMode_of {m : Mode} (hs : m ≠ .starting) (hp : m ≠ .parked) : heatingMode m = true := by
  cases m <;> first | rfl | contradiction

theorem serveGo_park {p : Port} {s : State} (hm : holds s p .mode = true) (he : s.estop = false) (hs : s.mode ≠ .starting)
    (hp : s.mode ≠ .parked) :
    serveGo p 4 s
      = done (goPayload (takeModeChange .parked .request (.port p) false { s with pavePending := false }))
          (takeModeChange .parked .request (.port p) false { s with pavePending := false }) := by
  have hg : goTargetOfByte 4 = some .park := by decide
  have effect := goEffect_entry p (goEntry_park hs hp)
  unfold serveGo
  rw [if_neg (by simp [hm]), hg]
  dsimp only
  rw [if_neg (by simp [he]), effect]
  rfl

/-- R19: GO(PARK), on the state with any ports. -/
theorem serveGo_parked {p : Port} {s : State} (hm : holds s p .mode = true) (he : s.estop = false) (hs : s.mode ≠ .starting)
    (hp : s.mode ≠ .parked) (ports : PerPort PortState) :
    ∃ (hot : Bool) (n : Nat) (flags : IntervalFlags), flags.afterPause = true ∧
      serveGo p 4 { s with ports := ports }
        = ({ parkZones s with
              ports := ports, mode := .parked, pavePending := false, readiness := hot, failing := n
              sides := parkedSides .parked s.sides, feed := mapFeeds (parkedFeed .parked) s.feed
              profiler := { s.profiler with scanner := if s.mode = .paving then false else s.profiler.scanner, flags := flags }
              events := eventsAfter s [(.port p, .modeChanged s.mode .parked .request)] }, some (okAnswer [1, 0])) := by
  obtain ⟨hot, n, flags, hflags, e⟩ := takeModeChange_parked (s := { s with ports := ports, pavePending := false }) hp
    .request (.port p) false
  refine ⟨hot, n, flags, hflags, ?_⟩
  rw [serveGo_park (s := { s with ports := ports }) hm he hs hp, e]
  simp only [parkedHeat, heatingMode_of hs hp, if_true]
  rfl

/-- R117: a side that is not engaged and not jogging has no duty. -/
theorem duty_of_referencing {s : State} (h : sidesSound s = true) (d : Side) (hr : (s.sides.get d).state = .referencing) :
    (s.sides.get d).duty = 0 := by
  simp only [sidesSound, Bool.and_eq_true] at h
  have hd : sideSound s d = true := by cases d; exacts [h.1, h.2]
  simp only [sideSound, Bool.and_eq_true] at hd
  simpa [hr] using hd.1.2

/-! ### The e-stop latch (R16, R17, R36) -/

/-- R36: an extension record after its width jog ends with a cause. -/
def jogEnded (k : WidthEnd) (e : Extension) : Extension :=
  if e.jogDir = .none then e else { e with jogDir := .none, jogLeft := 0, jogMs := 0, lastEnd := k }

def jogsEnded (k : WidthEnd) (v : PerSide Extension) : PerSide Extension := ⟨jogEnded k v.left, jogEnded k v.right⟩

theorem endWidthJog_eq (k : WidthEnd) (d : Side) (s : State) :
    endWidthJog k d s = { s with geometry := s.geometry.set d (jogEnded k (s.geometry.get d)) } := by
  unfold endWidthJog jogEnded
  dsimp only
  split
  · rw [PerSide.set_get]
  · rfl

theorem endWidthJogs_eq (k : WidthEnd) (s : State) : endWidthJogs k s = { s with geometry := jogsEnded k s.geometry } := by
  simp only [endWidthJogs, endWidthJog_eq]
  rfl

theorem jogsEnded_get (k : WidthEnd) (v : PerSide Extension) (d : Side) :
    ((jogsEnded k v).get d).jogDir = .none ∧ ((v.get d).jogDir ≠ .none → ((jogsEnded k v).get d).lastEnd = k) := by
  have h (e : Extension) : (jogEnded k e).jogDir = .none ∧ (e.jogDir ≠ .none → (jogEnded k e).lastEnd = k) := by
    unfold jogEnded
    split
    · rename_i hj
      exact ⟨hj, fun hn => absurd hj hn⟩
    · exact ⟨rfl, fun _ => rfl⟩
  cases d
  · exact h v.left
  · exact h v.right

/-- R16: in STARTING the latch ends the width jogs and no more. -/
theorem assertEstop_starting {s : State} (h : s.mode = .starting) :
    assertEstop s = { s with estop := true, geometry := jogsEnded .eStop s.geometry } := by
  unfold assertEstop
  rw [h, endWidthJogs_eq]

/-- R16, R108, R124: in PARKED the latch forces the sides and the feed channels OFF as well. -/
theorem assertEstop_parked {s : State} (h : s.mode = .parked) :
    assertEstop s
      = { s with
          estop := true, geometry := jogsEnded .eStop s.geometry
          sides := parkedSides .eStop s.sides, feed := mapFeeds (parkedFeed .eStop) s.feed } := by
  unfold assertEstop
  rw [h]
  dsimp only
  rw [endWidthJogs_eq, forceSidesOff_eq, eachFeed_forceFeedOff]

/-- R16: a running machine is parked by the latch. -/
theorem assertEstop_running {s : State} (hs : s.mode ≠ .starting) (hp : s.mode ≠ .parked) :
    ∃ (hot : Bool) (n : Nat) (flags : IntervalFlags),
      assertEstop s
        = { parkZones s with
            mode := .parked, pavePending := false, readiness := hot, failing := n, estop := true
            geometry := jogsEnded .eStop s.geometry, sides := parkedSides .eStop s.sides, feed := mapFeeds (parkedFeed .eStop) s.feed
            profiler := { s.profiler with scanner := if s.mode = .paving then false else s.profiler.scanner, flags := flags }
            events := eventsAfter s [(.modeController, .modeChanged s.mode .parked .eStop)] } := by
  obtain ⟨hot, n, flags, -, e⟩ := takeModeChange_parked
    (s := { s with estop := true, geometry := jogsEnded .eStop s.geometry, pavePending := false }) hp .eStop .modeController true
  refine ⟨hot, n, flags, ?_⟩
  have h : assertEstop s = takeModeChange .parked .eStop .modeController true
      { s with estop := true, geometry := jogsEnded .eStop s.geometry, pavePending := false } := by
    unfold assertEstop
    dsimp only
    rw [endWidthJogs_eq]
    split
    · contradiction
    · contradiction
    · rfl
  rw [h, e]
  simp only [parkedHeat, heatingMode_of hs hp, if_true]
  rfl

/-- R177: the debounced ESTOP that has changed is handed on. -/
theorem takeLevel_estop {s : State} (h : s.inputs.estop.pin ≠ s.inputs.estop.debounced) :
    takeLevel .estop s
      = consumeLevel .estop s.inputs.estop.pin
          { s with inputs := { s.inputs with estop := { pin := s.inputs.estop.pin, debounced := s.inputs.estop.pin, timer := none } } } :=
  if_neg h

theorem parkedSide_resting (k : GradeEnd) (r : SideRec) : (parkedSide k r).state = .off ∨ (parkedSide k r).state = .referencing := by
  rw [parkedSide_state]
  split
  · exact .inr rfl
  · exact .inl rfl

/-- R178: under the latch no output is driven. -/
theorem driven_latched {s : State} (h : s.estop = true) (o : Output) : driven s o = 0 := by simp [driven, h]

end Sys2Proof.Machine

open Sys2Proof Sys2Proof.Machine

/-- Settles O22: the parked machine as `serveGo_parked` gives it, read block by block. -/
theorem parkingStopsEveryBlock : Obligations.ParkingStopsEveryBlock := by
  unfold Obligations.ParkingStopsEveryBlock
  intro p tag s hp hm he hn hsides _
  obtain ⟨hs, hf, -⟩ := (portOpen_iff s p).mp hp
  obtain ⟨hot, n, flags, hflags, e⟩ := serveGo_parked hm he hs hn (s.ports.set p (opened (kindByte .go) tag (s.ports.get p)))
  have duty (d : Side) : (parkedSide .parked (s.sides.get d)).duty = 0 := parkedSide_duty (duty_of_referencing hsides d)
  refine ⟨{ parkZones s with
    mode := .parked, pavePending := false, readiness := hot, failing := n
    sides := parkedSides .parked s.sides, feed := mapFeeds (parkedFeed .parked) s.feed
    profiler := { s.profiler with scanner := if s.mode = .paving then false else s.profiler.scanner, flags := flags }
    events := eventsAfter s [(.port p, .modeChanged s.mode .parked .request)] },
    congrArg Host.Outcome.next (takeRequest_served hf hs e), rfl, fun z => parkZones_get s z, fun d => ?_, fun c => ?_, hflags,
    fun d => ?_, fun c => ?_, fun z => ?_, rfl, rfl⟩
  · rw [parkedSides_get]
    exact ⟨parkedSide_state _ _, duty d, parkedSide_jog _ _⟩
  · rw [mapFeeds_get, parkedFeed_eq]
    exact ⟨rfl, rfl, rfl, fun hj => if_neg (by omega)⟩
  · simp only [commanded, parkedSides_get, duty d, ite_self, and_self]
  · simp only [commanded, mapFeeds_get, parkedFeed_eq]
  · have hz : ((parkZones s).zones.get z).state = .off := by rw [parkZones_get]; rfl
    simp only [commanded, hz]
    rfl

/-- Settles O23: the latch in STARTING, in PARKED and in a running mode. -/
theorem estopParksTheMachine : Obligations.EstopParksTheMachine := by
  unfold Obligations.EstopParksTheMachine
  intro s ht hsound
  have act : exec (.debounceExpiry .estop) s = .next (takeLevel .estop s) := by
    refine congrArg Host.Outcome.next (if_pos ?_)
    exact decide_eq_true ht
  rw [act]
  refine ⟨fun hpin hdeb => ?_, fun hpin hdeb => ?_⟩
  · rw [takeLevel_estop (by simp [hpin, hdeb]), hpin]
    rfl
  · have pave (hm : s.mode ≠ .preheat) : false = s.pavePending := (pavePending_clear hsound hm).symm
    rw [takeLevel_estop (by simp [hpin, hdeb]), hpin]
    change ∃ t, Host.Outcome.next (assertEstop _) = _ ∧ _
    by_cases hs : s.mode = .starting
    · rw [assertEstop_starting (by exact hs)]
      refine ⟨_, rfl, rfl, (pave (by simp [hs])).symm, driven_latched rfl, ?_, jogsEnded_get _ _, fun h => absurd hs h,
        fun h => absurd hs h, ?_, ?_⟩
      · simp [hs]
      · simp [hs]
      · rw [pave (by simp [hs])]
    by_cases hp : s.mode = .parked
    · rw [assertEstop_parked (by exact hp)]
      refine ⟨_, rfl, rfl, (pave (by simp [hp])).symm, driven_latched rfl, ?_, jogsEnded_get _ _, fun _ => ⟨fun d => ?_, fun c => ?_⟩,
        fun _ h => absurd hp h, ?_, ?_⟩
      · simp [hp]
      · simp only [parkedSides_get]
        exact parkedSide_resting _ _
      · simp only [mapFeeds_get, parkedFeed_eq]
      · simp [hp]
      · rw [pave (by simp [hp])]
    · obtain ⟨hot, n, flags, e⟩ := assertEstop_running
        (s := { s with inputs := { s.inputs with estop := { pin := false, debounced := false, timer := none } } }) hs hp
      rw [e]
      refine ⟨_, rfl, rfl, rfl, driven_latched rfl, ?_, jogsEnded_get _ _, fun _ => ⟨fun d => ?_, fun c => ?_⟩,
        fun _ _ => ⟨rfl, rfl, fun z => ?_⟩, ?_, rfl⟩
      · simp [hs]
      · simp only [parkedSides_get]
        exact parkedSide_resting _ _
      · simp only [mapFeeds_get, parkedFeed_eq]
      · exact congrArg ZoneRec.state (parkZones_get s z)
      · simp only [hs, hp, or_self, if_false]
        rfl
end

section
/-! PROOFS. What a mode change and a readiness evaluation append: records behind the ones that stand, all under one clock, one station and one
boundary (R2, R147). -/

namespace Sys2Proof.Machine

open Sys2Proof

/-! ### Records appended behind the ones that stand -/

/-- Whatever stamps an event record is the same in both. -/
def sameStamp (s t : State) : Prop :=
  t.clock = s.clock ∧ t.travel.station = s.travel.station ∧ t.settings.matCapacity = s.settings.matCapacity
    ∧ t.recordsOpen = s.recordsOpen

/-- From `s` to `t` the EVENT area is written by handing on event records, under the stamp of `s`. -/
structure Appends (s t : State) : Prop where
  stamp : sameStamp s t
  records : ∃ later, t.events = eventsAfter s later

theorem sameStamp.refl (s : State) : sameStamp s s := ⟨rfl, rfl, rfl, rfl⟩

theorem Appends.same {s t : State} (h : sameStamp s t) (e : t.events = s.events) : Appends s t := ⟨h, [], e⟩

theorem Appends.refl (s : State) : Appends s s := .same (.refl s) rfl

/-- Records handed on from the later state are handed on from the earlier one, behind those that led there. -/
theorem Appends.behind {s t u : State} {xs : List (Origin × Event)} (hs : sameStamp s t) (e : t.events = eventsAfter s xs)
    (k : Appends t u) : ∃ later, u.events = eventsAfter s (xs ++ later) := by
  obtain ⟨-, later, hu⟩ := k
  obtain ⟨hc, hst, hm, ho⟩ := hs
  refine ⟨later, hu.trans ?_⟩
  rw [eventsAfter_append]
  exact eventsAfter_congr later hc hst hm ho e

theorem Appends.trans {s t u : State} (h : Appends s t) (k : Appends t u) : Appends s u := by
  obtain ⟨hs, xs, hx⟩ := h
  obtain ⟨later, hu⟩ := Appends.behind hs hx k
  obtain ⟨c, st, m, o⟩ := hs
  obtain ⟨c', st', m', o'⟩ := k.stamp
  exact ⟨⟨c'.trans c, st'.trans st, m'.trans m, o'.trans o⟩, _, hu⟩

theorem appends_appendEvent (o : Origin) (e : Event) (s : State) : Appends s (appendEvent o e s) := by
  rw [appendEvent_eq]
  exact ⟨⟨rfl, rfl, rfl, rfl⟩, _, rfl⟩

/-- An operation taken on one part after another. -/
theorem appends_foldl {α : Type} {f : State → α → State} (h : ∀ s a, Appends s (f s a)) (as : List α) (s : State) :
    Appends s (as.foldl f s) := by
  induction as generalizing s with
  | nil => exact .refl s
  | cons a as ih => exact (h s a).trans (ih (f s a))

/-! ### The heating controller -/

theorem appends_setZone (z : Zone) (r : ZoneRec) (s : State) : Appends s (setZone z r s) := .same ⟨rfl, rfl, rfl, rfl⟩ rfl

theorem appends_noteFault (z : Zone) (k : HealthFault) (s : State) : Appends s (noteFault z k s) := .same ⟨rfl, rfl, rfl, rfl⟩ rfl

theorem appends_grantHead (s : State) : Appends s (grantHead s) := by
  unfold grantHead
  split
  · exact .refl s
  · exact .same ⟨rfl, rfl, rfl, rfl⟩ rfl

theorem appends_allocateUpTo (n : Nat) (s : State) : Appends s (allocateUpTo n s) := by
  induction n generalizing s with
  | zero => exact .refl s
  | succ n ih =>
    unfold allocateUpTo
    split
    · exact (appends_grantHead s).trans (ih _)
    · exact .refl s

/-- A state that differs in the zones, the queue and the grant list only, before an evaluation of the allocator. -/
theorem appends_allocate {s t : State} (h : sameStamp s t) (e : t.events = s.events) : Appends s (allocate t) :=
  (Appends.same h e).trans (appends_allocateUpTo _ _)

theorem appends_leaveTo (z : Zone) (st : ZoneState) (s : State) : Appends s (leaveTo z st s) := by
  unfold leaveTo
  dsimp only
  split
  · exact appends_allocate ⟨rfl, rfl, rfl, rfl⟩ rfl
  · split
    · exact appends_allocate ⟨rfl, rfl, rfl, rfl⟩ rfl
    · exact .same ⟨rfl, rfl, rfl, rfl⟩ rfl
  · exact appends_setZone _ _ s

theorem appends_judgeDemand (z : Zone) (s : State) : Appends s (judgeDemand z s) := by
  unfold judgeDemand joinQueue
  dsimp only
  split
  · split
    · exact appends_allocate ⟨rfl, rfl, rfl, rfl⟩ rfl
    · exact .same ⟨rfl, rfl, rfl, rfl⟩ rfl
  · exact .refl s

theorem appends_enterOvertemp (z : Zone) (s : State) : Appends s (enterOvertemp z s) :=
  ((appends_leaveTo z .overtemp s).trans (appends_noteFault z .overtemp _)).trans (appends_appendEvent _ _ _)

theorem appends_enterSensorFault (z : Zone) (s : State) : Appends s (enterSensorFault z s) :=
  ((appends_leaveTo z .fault s).trans (appends_noteFault z .sensor _)).trans (appends_appendEvent _ _ _)

theorem appends_evaluateByState (z : Zone) (s : State) : Appends s (evaluateByState z s) := by
  have satisfied : Appends s (judgeDemand z (leaveTo z .satisfied s)) := (appends_leaveTo z .satisfied s).trans (appends_judgeDemand z _)
  unfold evaluateByState
  dsimp only
  split
  · exact .refl s
  · exact satisfied
  · split
    · exact satisfied
    · exact .refl s
  · split
    · exact appends_leaveTo z .satisfied s
    · exact .refl s
  · split
    · exact .refl s
    · exact appends_leaveTo z .satisfied s
  · exact appends_judgeDemand z s

theorem appends_evaluateZone (z : Zone) (s : State) : Appends s (evaluateZone z s) := by
  unfold evaluateZone
  dsimp only
  repeat' split
  all_goals
    first
      | exact .refl s
      | exact appends_enterSensorFault z s
      | exact appends_enterOvertemp z s
      | exact appends_evaluateByState z s

theorem appends_reselect (z : Zone) (s : State) : Appends s (reselect z s) := by
  unfold reselect
  dsimp only
  split
  · exact .refl s
  · exact (appends_setZone z _ s).trans (appends_evaluateZone z _)

theorem appends_enterHeating (z : Zone) (s : State) : Appends s (enterHeating z s) := by
  unfold enterHeating
  dsimp only
  split
  · exact .refl s
  · split
    · exact appends_setZone z _ s
    · exact (appends_setZone z _ s).trans (appends_evaluateZone z _)

theorem appends_zonesSeeMode (old : Mode) (s : State) : Appends s (zonesSeeMode old s) := by
  unfold zonesSeeMode
  split
  · split
    · exact appends_foldl (fun s z => appends_reselect z s) allZones s
    · exact appends_foldl (fun s z => appends_enterHeating z s) allZones s
  · split
    · exact .same ⟨rfl, rfl, rfl, rfl⟩ rfl
    · exact .refl s

/-! ### The sides, the feed channels, the profiler, the travel unit -/

theorem appends_raiseFlags (s : State) : Appends s (raiseFlags s) := .same ⟨rfl, rfl, rfl, rfl⟩ rfl

theorem appends_setSide (d : Side) (r : SideRec) (s : State) : Appends s (setSide d r s) := .same ⟨rfl, rfl, rfl, rfl⟩ rfl

theorem appends_setFeed (c : FeedChannel) (r : FeedRec) (s : State) : Appends s (setFeed c r s) := .same ⟨rfl, rfl, rfl, rfl⟩ rfl

theorem appends_settleSide (d : Side) (s : State) : Appends s (settleSide d s) := by
  unfold settleSide enterSideState
  dsimp only
  split
  · exact .refl s
  · split
    · exact ((appends_setSide d _ s).trans (appends_appendEvent _ _ _)).trans (appends_raiseFlags _)
    · split
      · exact (appends_setSide d _ s).trans (appends_appendEvent _ _ _)
      · exact appends_setSide d _ s

theorem appends_sidesSeeMode (old : Mode) (run e : Bool) (s : State) : Appends s (sidesSeeMode old run e s) := by
  unfold sidesSeeMode
  split
  · rw [forceSidesOff_eq]
    exact .same ⟨rfl, rfl, rfl, rfl⟩ rfl
  · unfold sidesSeeRun
    split
    · exact .refl s
    · exact (appends_settleSide .left s).trans (appends_settleSide .right _)

theorem appends_endFeedJog (k : FeedEnd) (c : FeedChannel) (s : State) : Appends s (endFeedJog k c s) := by
  unfold endFeedJog
  dsimp only
  split
  · exact .refl s
  · exact appends_setFeed c _ s

theorem appends_settleEngaged (c : FeedChannel) (s : State) : Appends s (settleEngaged c s) := by
  unfold settleEngaged settleFeed enterSensorHold runAuto
  repeat' split
  all_goals
    first
      | exact .refl s
      | exact appends_setFeed c _ s
      | exact ((appends_setFeed c _ s).trans (appends_appendEvent _ _ _)).trans (appends_raiseFlags _)

theorem appends_feedsSeeMode (old : Mode) (k : FeedEnd) (s : State) : Appends s (feedsSeeMode old k s) := by
  have jogs : Appends s (if s.mode = .standby then eachFeed (endFeedJog .standby) s else s) := by
    split
    · exact appends_foldl (fun s c => appends_endFeedJog .standby c s) allFeed s
    · exact .refl s
  unfold feedsSeeMode
  dsimp only
  split
  · exact .refl s
  · split
    · rw [eachFeed_forceFeedOff]
      exact .same ⟨rfl, rfl, rfl, rfl⟩ rfl
    · split
      · exact jogs.trans (appends_foldl (fun s c => appends_settleEngaged c s) allFeed _)
      · exact jogs

theorem appends_profilerSeesMode (old : Mode) (s : State) : Appends s (profilerSeesMode old s) := by
  unfold profilerSeesMode
  dsimp only
  split
  · exact .refl s
  · have left : Appends s (if old = .paving then setProfiler { s.profiler with scanner := false } s else s) := by
      split
      · exact .same ⟨rfl, rfl, rfl, rfl⟩ rfl
      · exact .refl s
    refine Appends.trans ?_ (appends_raiseFlags _)
    split
    · refine (left.trans (t := setProfiler _ _) ?_).trans (appends_appendEvent _ _ _)
      exact .same ⟨rfl, rfl, rfl, rfl⟩ rfl
    · exact left

theorem appends_travelSeesMode (old : Mode) (s : State) : Appends s (travelSeesMode old s) := by
  unfold travelSeesMode restartStop
  repeat' split
  all_goals exact .same ⟨rfl, rfl, rfl, rfl⟩ rfl

/-! ### Every block, the chain, an evaluation -/

theorem appends_blocksSee (old : Mode) (run e : Bool) (s : State) : Appends s (blocksSee old run e s) := by
  have heated : Appends s (if s.mode = old then s else zonesSeeMode old (travelSeesMode old s)) := by
    split
    · exact .refl s
    · exact (appends_travelSeesMode old s).trans (appends_zonesSeeMode old _)
  unfold blocksSee
  dsimp only
  exact ((heated.trans (appends_sidesSeeMode _ _ _ _)).trans (appends_feedsSeeMode _ _ _)).trans (appends_profilerSeesMode _ _)

theorem appends_changeMode (m : Mode) (c : ModeCause) (o : Origin) (s : State) : Appends s (changeMode m c o s) := by
  rw [changeMode_eq]
  exact ⟨⟨rfl, rfl, rfl, rfl⟩, _, rfl⟩

theorem appends_readinessChain (s : State) : Appends s (readinessChain s) := by
  rcases readinessChain_cases s with ⟨e, -⟩ | ⟨-, -, -, e⟩ | ⟨-, -, -, e⟩ | ⟨-, -, e⟩ <;> rw [e]
  · exact .refl s
  · exact appends_changeMode _ _ _ s
  · refine ((appends_changeMode .ready .readiness .modeController s).trans ?_).trans (appends_changeMode _ _ _ _)
    exact .same ⟨rfl, rfl, rfl, rfl⟩ rfl
  · exact appends_changeMode _ _ _ s

theorem appends_noteReadinessLoss (b : Bool) (s : State) : Appends s (noteReadinessLoss b s) := by
  unfold noteReadinessLoss
  split
  · exact .refl s
  · split
    · exact (appends_appendEvent _ _ s).trans (appends_raiseFlags _)
    · exact .refl s

theorem appends_settleReadiness (s : State) : Appends s (settleReadiness s) := by
  by_cases h : s.mode = .starting
  · rw [settleReadiness_starting h]
    exact .refl s
  · rw [settleReadiness_running h]
    have evaluated : Appends s (evaluateReadiness s) := .same ⟨rfl, rfl, rfl, rfl⟩ rfl
    exact ((evaluated.trans (appends_noteReadinessLoss _ _)).trans (appends_readinessChain _)).trans (appends_blocksSee _ _ _ _)

/-- R2: the record of the change comes first. -/
theorem takeModeChange_events (m : Mode) (c : ModeCause) (o : Origin) (e : Bool) (s : State) :
    ∃ later, (takeModeChange m c o e s).events = eventsAfter s ((o, .modeChanged s.mode m c) :: later) := by
  have taken : (changeMode m c o s).events = eventsAfter s [(o, .modeChanged s.mode m c)] := by rw [changeMode_eq]
  rw [takeModeChange_eq]
  exact Appends.behind (appends_changeMode m c o s).stamp taken
    (((appends_readinessChain _).trans (appends_blocksSee _ _ _ _)).trans (appends_settleReadiness _))

end Sys2Proof.Machine
end

section
/-! PROOFS. A mode change read field by field: the odometer, the sides, the feed channels and the interval flags after it; and from that the pause
detector and the stop timer (R14, R15, R25, R28): O24. -/

namespace Sys2Proof.Machine

open Sys2Proof

/-! ### What a reaction writes -/

/-- The fields that a mode change or a readiness evaluation may write; every other stands. -/
theorem frame_of_reaction {s t : State} (h : hideReaction t = hideReaction s) :
    t = { s with
      mode := t.mode, pavePending := t.pavePending, readiness := t.readiness, failing := t.failing, travel := t.travel
      zones := t.zones, health := t.health, queue := t.queue, grants := t.grants, sides := t.sides, feed := t.feed
      profiler := t.profiler, events := t.events } := by
  obtain ⟨⟩ := s
  obtain ⟨⟩ := t
  simp only [hideReaction, hideHeat, State.mk.injEq, true_and] at h
  simp_all

/-! ### The odometer (R25, R28) -/

theorem travel_of_heat {s t : State} (h : hideHeat t = hideHeat s) : t.travel = s.travel := by
  have e := congrArg State.travel h; exact e

theorem travel_of_sides {s t : State} (h : hideSides t = hideSides s) : t.travel = s.travel := by
  have e := congrArg State.travel h; exact e

theorem travel_of_feeds {s t : State} (h : hideFeeds t = hideFeeds s) : t.travel = s.travel := by
  have e := congrArg State.travel h; exact e

/-- Of the blocks that see the mode only the travel unit writes its own fields. -/
theorem blocksSee_travel (old : Mode) (run e : Bool) (s : State) : (blocksSee old run e s).travel = (travelSeesMode old s).travel := by
  unfold blocksSee
  dsimp only
  rw [profilerSeesMode_eq]
  dsimp only
  rw [travel_of_feeds (hideFeeds_feedsSeeMode _ _ _), travel_of_sides (hideSides_sidesSeeMode _ _ _ _)]
  split
  · rename_i h
    rw [← h, travelSeesMode_same]
  · rw [travel_of_heat (hideHeat_zonesSeeMode _ _)]

/-- R25: outside an entry to PAUSED the travel unit restarts the pause time at most. -/
theorem travelSeesMode_pause {s : State} (h : s.mode ≠ .paused) (old : Mode) :
    (travelSeesMode old s).travel = { s.travel with pauseMs := (travelSeesMode old s).travel.pauseMs } := by
  unfold travelSeesMode
  rw [if_neg h]
  repeat' split
  all_goals rfl

theorem travelSeesMode_other {s : State} (h : s.mode ≠ .paused) (k : s.mode ≠ .paving) (old : Mode) : travelSeesMode old s = s := by
  unfold travelSeesMode
  rw [if_neg h, if_neg k, ite_self]

theorem readinessTaken_mode (s : State) :
    (readinessTaken s).mode = (chained s.mode s.pavePending (failingZones s).isEmpty).1 := by rw [readinessTaken_eq]

theorem readinessTaken_travel (s : State) : (readinessTaken s).travel = s.travel := by rw [readinessTaken_eq]

theorem settleReadiness_travel {s : State} (h : s.mode ≠ .starting) :
    (settleReadiness s).travel = (travelSeesMode s.mode (readinessTaken s)).travel := by
  rw [settleReadiness_running h, blocksSee_travel]
  rfl

/-- No chain ends in PAUSED. -/
theorem chained_ne_paused {m : Mode} (h : m ≠ .paused) (pave hot : Bool) : (chained m pave hot).1 ≠ .paused := by
  cases m <;> cases pave <;> cases hot <;> first | contradiction | decide

/-- Without pave-pending no chain ends in PAVING. -/
theorem chained_ne_paving {m : Mode} (h : m ≠ .paving) (hot : Bool) : (chained m false hot).1 ≠ .paving := by
  cases m <;> cases hot <;> first | contradiction | decide

theorem settleReadiness_pause {s : State} (h : s.mode ≠ .paused) :
    (settleReadiness s).travel = { s.travel with pauseMs := (settleReadiness s).travel.pauseMs } := by
  by_cases hs : s.mode = .starting
  · rw [settleReadiness_starting hs]
  · rw [settleReadiness_travel hs]
    have := travelSeesMode_pause (s := readinessTaken s) (readinessTaken_mode s ▸ chained_ne_paused h _ _) s.mode
    rwa [readinessTaken_travel] at this

theorem modeTaken_mode (m : Mode) (c : ModeCause) (o : Origin) (s : State) :
    (modeTaken m c o s).mode = (chained m s.pavePending s.readiness).1 := by rw [modeTaken_eq]

theorem modeTaken_travel (m : Mode) (c : ModeCause) (o : Origin) (s : State) : (modeTaken m c o s).travel = s.travel := by
  rw [modeTaken_eq]

/-- A mode change that does not enter PAUSED restarts the pause time at most. -/
theorem takeModeChange_pause {m : Mode} (h : m ≠ .paused) (c : ModeCause) (o : Origin) (e : Bool) (s : State) :
    (takeModeChange m c o e s).travel = { s.travel with pauseMs := (takeModeChange m c o e s).travel.pauseMs } := by
  have hm : (modeTaken m c o s).mode ≠ .paused := modeTaken_mode m c o s ▸ chained_ne_paused h _ _
  have first := travelSeesMode_pause hm s.mode
  rw [modeTaken_travel, ← blocksSee_travel s.mode (runCondition s) e] at first
  rw [takeModeChange_eq]
  have second := settleReadiness_pause (s := blocksSee s.mode (runCondition s) e (modeTaken m c o s)) (by rw [blocksSee_mode]; exact hm)
  rw [second, first]

/-- A mode change that ends in neither PAVING nor PAUSED leaves the odometer. -/
theorem takeModeChange_travel {m : Mode} {s : State} (h : m ≠ .paused) (k : m ≠ .paving) (hp : s.pavePending = false)
    (hs : m ≠ .starting) (c : ModeCause) (o : Origin) (e : Bool) : (takeModeChange m c o e s).travel = s.travel := by
  have hm := modeTaken_mode m c o s
  have hv : (modeTaken m c o s).pavePending = false := by
    rw [modeTaken_eq, hp]
    cases m <;> cases s.readiness <;> rfl
  rw [hp] at hm
  have hpaused : (modeTaken m c o s).mode ≠ .paused := hm ▸ chained_ne_paused h _ _
  have hpaving : (modeTaken m c o s).mode ≠ .paving := hm ▸ chained_ne_paving k _
  have hstart : (modeTaken m c o s).mode ≠ .starting := hm ▸ chained_ne_starting hs
  have first : (blocksSee s.mode (runCondition s) e (modeTaken m c o s)).travel = s.travel := by
    rw [blocksSee_travel, travelSeesMode_other hpaused hpaving, modeTaken_travel]
  generalize hu : blocksSee s.mode (runCondition s) e (modeTaken m c o s) = u at first
  have hum : u.mode = (modeTaken m c o s).mode := by rw [← hu, blocksSee_mode]
  have huv : u.pavePending = false := by rw [← hu, blocksSee_pavePending, hv]
  rw [takeModeChange_eq, hu, settleReadiness_travel (hum ▸ hstart), travelSeesMode_other, readinessTaken_travel, first]
  · rw [readinessTaken_mode]
    exact chained_ne_paused (hum ▸ hpaused) _ _
  · rw [readinessTaken_mode, huv]
    exact chained_ne_paving (hum ▸ hpaving) _

/-! ### The sides (R103, R104) -/

/-- A side's state, duty and direction at most are written, and those of an engaged side only. -/
def sidesMoved (s t : State) : Prop :=
  ∀ d : Side,
    t.sides.get d
        = { s.sides.get d with state := (t.sides.get d).state, duty := (t.sides.get d).duty, dir := (t.sides.get d).dir }
      ∧ (sideEngaged (s.sides.get d).state = false → t.sides.get d = s.sides.get d)

theorem sidesMoved_of_eq {s t : State} (h : t.sides = s.sides) : sidesMoved s t := fun d => by
  rw [h]
  exact ⟨rfl, fun _ => rfl⟩

theorem sidesMoved_trans {s t u : State} (h : sidesMoved s t) (k : sidesMoved t u) : sidesMoved s u := fun d => by
  obtain ⟨h, ho⟩ := h d
  obtain ⟨k, ko⟩ := k d
  refine ⟨k.trans (by rw [h]), fun hn => ?_⟩
  rw [ko (by rw [ho hn]; exact hn), ho hn]

theorem raiseFlags_sides (s : State) : (raiseFlags s).sides = s.sides := rfl

theorem enterSideState_sides (d : Side) (target : SideState) (s : State) :
    (enterSideState d target s).sides = s.sides.set d { s.sides.get d with state := target, duty := 0, dir := .none } := by
  unfold enterSideState
  dsimp only
  split
  · rw [raiseFlags_sides, appendEvent_eq]
    rfl
  · split
    · rw [appendEvent_eq]
      rfl
    · rfl

theorem settleSide_moved (d : Side) (s : State) : sidesMoved s (settleSide d s) := by
  unfold settleSide
  dsimp only
  split
  · exact sidesMoved_of_eq rfl
  · rename_i hn
    have he : sideEngaged (s.sides.get d).state = true := by
      cases h : sideEngaged (s.sides.get d).state
      · exact absurd (.inl h) hn
      · rfl
    intro y
    rw [enterSideState_sides, PerSide.get_set]
    split
    · rename_i e
      subst e
      exact ⟨rfl, fun hk => by rw [he] at hk; cases hk⟩
    · exact ⟨rfl, fun _ => rfl⟩

theorem sides_of_heat {s t : State} (h : hideHeat t = hideHeat s) : t.sides = s.sides := by
  have e := congrArg State.sides h; exact e

theorem sides_of_feeds {s t : State} (h : hideFeeds t = hideFeeds s) : t.sides = s.sides := by
  have e := congrArg State.sides h; exact e

theorem profilerSeesMode_sides (old : Mode) (s : State) : (profilerSeesMode old s).sides = s.sides := by rw [profilerSeesMode_eq]

theorem travelSeesMode_sides (old : Mode) (s : State) : (travelSeesMode old s).sides = s.sides := by rw [travelSeesMode_eq]

/-- The state in which the sides see the mode. -/
def heated (old : Mode) (s : State) : State := if s.mode = old then s else zonesSeeMode old (travelSeesMode old s)

theorem heated_sides (old : Mode) (s : State) : (heated old s).sides = s.sides := by
  unfold heated
  split
  · rfl
  · rw [sides_of_heat (hideHeat_zonesSeeMode _ _), travelSeesMode_sides]

theorem heated_mode (old : Mode) (s : State) : (heated old s).mode = s.mode := by
  have mode {u v : State} (h : hideHeat u = hideHeat v) : u.mode = v.mode := by
    have e := congrArg State.mode h; exact e
  unfold heated
  split
  · rfl
  · rw [mode (hideHeat_zonesSeeMode _ _), travelSeesMode_eq]

theorem blocksSee_eq (old : Mode) (run e : Bool) (s : State) :
    blocksSee old run e s
      = profilerSeesMode old (feedsSeeMode old (feedCause e) (sidesSeeMode old run e (heated old s))) := rfl

/-- Of the blocks that see the mode only the levelling controller writes the sides. -/
theorem blocksSee_sides (old : Mode) (run e : Bool) (s : State) :
    (blocksSee old run e s).sides = (sidesSeeMode old run e (heated old s)).sides := by
  rw [blocksSee_eq, profilerSeesMode_sides, sides_of_feeds (hideFeeds_feedsSeeMode _ _ _)]

theorem blocksSee_moved {s : State} (h : s.mode ≠ .parked) (old : Mode) (run e : Bool) : sidesMoved s (blocksSee old run e s) := by
  refine sidesMoved_trans (sidesMoved_of_eq (heated_sides old s)) ?_
  refine sidesMoved_trans ?_ (sidesMoved_of_eq (blocksSee_sides old run e s))
  unfold sidesSeeMode
  rw [if_neg (fun k => h ((heated_mode old s).symm.trans k.1))]
  unfold sidesSeeRun
  split
  · exact sidesMoved_of_eq rfl
  · exact sidesMoved_trans (settleSide_moved .left _) (settleSide_moved .right _)

theorem chained_ne_parked {m : Mode} (h : m ≠ .parked) (pave hot : Bool) : (chained m pave hot).1 ≠ .parked := by
  cases m <;> cases pave <;> cases hot <;> first | contradiction | decide

theorem readinessTaken_sides (s : State) : (readinessTaken s).sides = s.sides := by rw [readinessTaken_eq]

theorem settleReadiness_moved {s : State} (h : s.mode ≠ .parked) : sidesMoved s (settleReadiness s) := by
  by_cases hs : s.mode = .starting
  · exact sidesMoved_of_eq (by rw [settleReadiness_starting hs])
  · rw [settleReadiness_running hs]
    refine sidesMoved_trans (sidesMoved_of_eq (readinessTaken_sides s)) (blocksSee_moved (s := readinessTaken s) ?_ _ _ _)
    rw [readinessTaken_mode]
    exact chained_ne_parked h _ _

/-- R103, R104: a change to a mode other than PARKED settles engaged sides and leaves every other. -/
theorem takeModeChange_moved {m : Mode} (h : m ≠ .parked) (c : ModeCause) (o : Origin) (e : Bool) (s : State) :
    sidesMoved s (takeModeChange m c o e s) := by
  have hm : (modeTaken m c o s).mode ≠ .parked := modeTaken_mode m c o s ▸ chained_ne_parked h _ _
  have taken : (modeTaken m c o s).sides = s.sides := by rw [modeTaken_eq]
  rw [takeModeChange_eq]
  refine sidesMoved_trans (sidesMoved_of_eq taken) (sidesMoved_trans (blocksSee_moved hm _ _ _) (settleReadiness_moved ?_))
  rw [blocksSee_mode]
  exact hm

/-! ### The feed channels (R118, R125) -/

/-- A channel that is not engaged is as it stood. -/
def feedsMoved (s t : State) : Prop := ∀ c : FeedChannel, feedEngaged (s.feed.get c).state = false → t.feed.get c = s.feed.get c

theorem feedsMoved_of_eq {s t : State} (h : t.feed = s.feed) : feedsMoved s t := fun c _ => by rw [h]

theorem feedsMoved_trans {s t u : State} (h : feedsMoved s t) (k : feedsMoved t u) : feedsMoved s u := fun c hc => by
  rw [k c (by rw [h c hc]; exact hc), h c hc]

theorem raiseFlags_feed (s : State) : (raiseFlags s).feed = s.feed := rfl

/-- A settled channel writes its own record. -/
theorem settleFeed_feed (c : FeedChannel) (s : State) : ∃ r, (settleFeed c s).feed = s.feed.set c r := by
  unfold settleFeed
  split
  · exact ⟨_, rfl⟩
  · split
    · split
      · exact ⟨s.feed.get c, (PerFeed.set_get _ _).symm⟩
      · unfold enterSensorHold
        rw [raiseFlags_feed, appendEvent_eq]
        exact ⟨_, rfl⟩
    · exact ⟨_, rfl⟩

theorem settleEngaged_moved (c : FeedChannel) (s : State) : feedsMoved s (settleEngaged c s) := by
  unfold settleEngaged
  split
  · rename_i he
    obtain ⟨r, hr⟩ := settleFeed_feed c s
    intro y hy
    rw [hr, PerFeed.get_set_other]
    intro e
    rw [e, he] at hy
    cases hy
  · exact feedsMoved_of_eq rfl

theorem feedsMoved_each {f : FeedChannel → State → State} (h : ∀ c s, feedsMoved s (f c s)) (s : State) : feedsMoved s (eachFeed f s) := by
  unfold eachFeed
  induction allFeed generalizing s with
  | nil => exact feedsMoved_of_eq rfl
  | cons c cs ih => exact feedsMoved_trans (h c s) (ih (f c s))

theorem feed_of_heat {s t : State} (h : hideHeat t = hideHeat s) : t.feed = s.feed := by
  have e := congrArg State.feed h; exact e

theorem feed_of_sides {s t : State} (h : hideSides t = hideSides s) : t.feed = s.feed := by
  have e := congrArg State.feed h; exact e

theorem heated_feed (old : Mode) (s : State) : (heated old s).feed = s.feed := by
  unfold heated
  split
  · rfl
  · rw [feed_of_heat (hideHeat_zonesSeeMode _ _), travelSeesMode_eq]

theorem profilerSeesMode_feed (old : Mode) (s : State) : (profilerSeesMode old s).feed = s.feed := by rw [profilerSeesMode_eq]

theorem mode_of_sides {s t : State} (h : hideSides t = hideSides s) : t.mode = s.mode := by
  have e := congrArg State.mode h; exact e

/-- The mode as the feed channels see it. -/
theorem sidesSeen_mode (old : Mode) (run e : Bool) (s : State) : (sidesSeeMode old run e (heated old s)).mode = s.mode :=
  (mode_of_sides (hideSides_sidesSeeMode _ _ _ _)).trans (heated_mode old s)

theorem sidesSeen_feed (old : Mode) (run e : Bool) (s : State) : (sidesSeeMode old run e (heated old s)).feed = s.feed :=
  (feed_of_sides (hideSides_sidesSeeMode _ _ _ _)).trans (heated_feed old s)

theorem blocksSee_feedsMoved {s : State} (h : s.mode ≠ .parked) (k : s.mode ≠ .standby) (old : Mode) (run e : Bool) :
    feedsMoved s (blocksSee old run e s) := by
  rw [blocksSee_eq]
  refine feedsMoved_trans (feedsMoved_of_eq (sidesSeen_feed old run e s)) ?_
  refine feedsMoved_trans ?_ (feedsMoved_of_eq (profilerSeesMode_feed old _))
  have hm := sidesSeen_mode old run e s
  unfold feedsSeeMode
  dsimp only
  generalize sidesSeeMode old run e (heated old s) = u at hm
  rw [if_neg (show u.mode ≠ .parked from hm ▸ h), if_neg (show u.mode ≠ .standby from hm ▸ k)]
  split
  · exact feedsMoved_of_eq rfl
  · split
    · exact feedsMoved_each settleEngaged_moved u
    · exact feedsMoved_of_eq rfl

theorem chained_ne_standby {m : Mode} (h : m ≠ .standby) (pave hot : Bool) : (chained m pave hot).1 ≠ .standby := by
  cases m <;> cases pave <;> cases hot <;> first | contradiction | decide

theorem settleReadiness_feedsMoved {s : State} (h : s.mode ≠ .parked) (k : s.mode ≠ .standby) : feedsMoved s (settleReadiness s) := by
  by_cases hs : s.mode = .starting
  · exact feedsMoved_of_eq (by rw [settleReadiness_starting hs])
  · have taken : (readinessTaken s).feed = s.feed := by rw [readinessTaken_eq]
    rw [settleReadiness_running hs]
    refine feedsMoved_trans (feedsMoved_of_eq taken) (blocksSee_feedsMoved (s := readinessTaken s) ?_ ?_ _ _ _)
    · rw [readinessTaken_mode]
      exact chained_ne_parked h _ _
    · rw [readinessTaken_mode]
      exact chained_ne_standby k _ _

/-- R118: a change to a mode other than PARKED and STANDBY settles engaged channels and leaves every other. -/
theorem takeModeChange_feedsMoved {m : Mode} (h : m ≠ .parked) (k : m ≠ .standby) (c : ModeCause) (o : Origin) (e : Bool) (s : State) :
    feedsMoved s (takeModeChange m c o e s) := by
  have hm : (modeTaken m c o s).mode ≠ .parked := modeTaken_mode m c o s ▸ chained_ne_parked h _ _
  have hk : (modeTaken m c o s).mode ≠ .standby := modeTaken_mode m c o s ▸ chained_ne_standby k _ _
  have taken : (modeTaken m c o s).feed = s.feed := by rw [modeTaken_eq]
  rw [takeModeChange_eq]
  refine feedsMoved_trans (feedsMoved_of_eq taken)
    (feedsMoved_trans (blocksSee_feedsMoved hm hk _ _ _) (settleReadiness_feedsMoved ?_ ?_))
  · rw [blocksSee_mode]
    exact hm
  · rw [blocksSee_mode]
    exact hk

end Sys2Proof.Machine
end

section
/-! PROOFS. Levelling and feed suspended with paving, and the two timers that stop it (R14, R15, R25, R28): O24. -/

namespace Sys2Proof.Machine

open Sys2Proof

/-! ### An evaluation in a mode that it does not leave -/

theorem noteReadinessLoss_afterPause (b : Bool) {s : State} (h : s.profiler.flags.afterPause = true) :
    (noteReadinessLoss b s).profiler.flags.afterPause = true := by
  unfold noteReadinessLoss
  split
  · exact h
  · split
    · rw [appendEvent_eq]
      simp [raiseFlags, joinFlags, h]
    · exact h

/-- In a mode that the chain does not leave, an evaluation leaves the sides, the channels and the odometer, and clears no interval flag. -/
theorem settleReadiness_leaves {s : State} (hs : s.mode ≠ .starting) (hp : s.mode ≠ .preheat) (hr : s.mode ≠ .ready) :
    (settleReadiness s).sides = s.sides ∧ (settleReadiness s).feed = s.feed ∧ (settleReadiness s).travel = s.travel
      ∧ (settleReadiness s).mode = s.mode ∧ (settleReadiness s).pavePending = s.pavePending
      ∧ (s.profiler.flags.afterPause = true → (settleReadiness s).profiler.flags.afterPause = true) := by
  rw [settleReadiness_stays hs hp hr]
  refine ⟨?_, ?_, ?_, ?_, ?_, fun h => noteReadinessLoss_afterPause _ h⟩
  all_goals
    rw [noteReadinessLoss_eq]
    rfl

/-! ### The sides without the run condition (R103) -/

/-- A side that neither corrects nor holds. -/
def sideRests (r : SideRec) : Prop := r.state ≠ .auto ∧ r.state ≠ .hold

theorem sideRests_of_disengaged {r : SideRec} (h : sideEngaged r.state = false) : sideRests r := by
  unfold sideRests
  cases hs : r.state <;> simp_all [sideEngaged]

theorem settleSide_rests {s : State} (h : runCondition s = false) (d : Side) : sideRests ((settleSide d s).sides.get d) := by
  have hs : settledState s d = .suspended := by simp [settledState, h]
  unfold settleSide
  dsimp only
  rw [hs]
  split
  · rename_i k
    rcases k with k | k
    · exact sideRests_of_disengaged k
    · exact ⟨by simp [k], by simp [k]⟩
  · rw [enterSideState_sides, PerSide.get_set_same]
    exact ⟨by simp, by simp⟩

theorem settleSide_other {d y : Side} (h : y ≠ d) (s : State) : (settleSide d s).sides.get y = s.sides.get y := by
  unfold settleSide
  dsimp only
  split
  · rfl
  · rw [enterSideState_sides, PerSide.get_set_other _ _ _ _ h]

theorem runCondition_of_sides {s t : State} (h : hideSides t = hideSides s) : runCondition t = runCondition s := by
  have e := congrArg runCondition h; exact e

/-- R104: once the run condition is gone, no side corrects and none holds. -/
theorem settleSides_rest {s : State} (h : runCondition s = false) (d : Side) :
    sideRests ((settleSide .right (settleSide .left s)).sides.get d) := by
  have hl : runCondition (settleSide .left s) = false := (runCondition_of_sides (hideSides_settleSide .left s)).trans h
  cases d
  · rw [settleSide_other (by decide)]
    exact settleSide_rests h .left
  · exact settleSide_rests hl .right

/-- R103: without the run condition no side of a settled machine corrects or holds. -/
theorem sideRests_of_sound {s : State} (h : sidesSound s = true) (hr : runCondition s = false) (d : Side) : sideRests (s.sides.get d) := by
  simp only [sidesSound, Bool.and_eq_true] at h
  have hd : sideSound s d = true := by cases d; exacts [h.1, h.2]
  simp only [sideSound, Bool.and_eq_true, Bool.or_eq_true, Bool.not_eq_true', decide_eq_true_eq] at hd
  obtain ⟨⟨⟨hs, -⟩, -⟩, -⟩ := hd
  rcases hs with hs | hs
  · exact sideRests_of_disengaged hs
  · have : settledState s d = .suspended := by simp [settledState, hr]
    exact ⟨by simp [hs, this], by simp [hs, this]⟩

/-! ### The feed channels outside PAVING (R118, R125) -/

/-- R118: a channel record once the channel is settled outside PAVING. -/
def suspendedFeed (r : FeedRec) : FeedRec :=
  if feedEngaged r.state then { r with state := .suspended, duty := 0, hold := 0, holdMs := 0 } else r

theorem settleEngaged_outside {s : State} (h : s.mode ≠ .paving) (c : FeedChannel) :
    settleEngaged c s = { s with feed := s.feed.set c (suspendedFeed (s.feed.get c)) } := by
  unfold settleEngaged suspendedFeed settleFeed
  rw [if_pos h]
  split
  · rfl
  · rw [PerFeed.set_get]

theorem suspendedFeed_rests (r : FeedRec) :
    (suspendedFeed r).state ≠ .auto ∧ (suspendedFeed r).state ≠ .holdLast ∧ (suspendedFeed r).state ≠ .sensorHold := by
  unfold suspendedFeed
  cases hs : r.state <;> simp [feedEngaged, hs]

theorem jogDone_left (k : FeedEnd) (r : FeedRec) : (jogDone k r).jogLeft = 0 := by
  unfold jogDone
  split
  · assumption
  · rfl

/-! ### Every block, in PAUSED and in STANDBY -/

/-- R14, R103, R118: paving suspended, as every block sees it. -/
theorem blocksSee_paused {s : State} (hm : s.mode = .paused) (run e : Bool)
    (hrun : run = false → ∀ d, sideRests (s.sides.get d)) :
    (∀ d : Side, sideRests ((blocksSee .paving run e s).sides.get d))
      ∧ (blocksSee .paving run e s).feed = mapFeeds suspendedFeed s.feed
      ∧ (blocksSee .paving run e s).profiler.flags.afterPause = true := by
  have hmode := sidesSeen_mode .paving run e s
  have hfeed := sidesSeen_feed .paving run e s
  have hh : (heated .paving s).mode = .paused := (heated_mode .paving s).trans hm
  have hrc : runCondition (heated .paving s) = false := by simp [runCondition, hh]
  refine ⟨fun d => ?_, ?_⟩
  · rw [blocksSee_sides]
    unfold sidesSeeMode sidesSeeRun
    rw [if_neg (fun k => by rw [hh] at k; cases k.1), hrc]
    split
    · rename_i hr
      rw [heated_sides]
      exact hrun hr.symm d
    · exact settleSides_rest hrc d
  · rw [blocksSee_eq]
    generalize sidesSeeMode .paving run e (heated .paving s) = u at hmode hfeed
    have hu : u.mode = .paused := hmode.trans hm
    have feeds : feedsSeeMode .paving (feedCause e) u = { u with feed := mapFeeds suspendedFeed s.feed } := by
      unfold feedsSeeMode
      dsimp only
      rw [if_neg (by simp [hu]), if_neg (by simp [hu]), if_pos (.inl rfl), if_neg (by simp [hu]),
        eachFeed_map (f := settleEngaged) (fun c v => settleEngaged_outside (s := { u with feed := v }) (by simp [hu]) c), hfeed]
    rw [feeds, profilerSeesMode_left (by simp [hu]) (by simp [hu])]
    exact ⟨rfl, joinFlags_afterPause (s := { u with feed := mapFeeds suspendedFeed s.feed }) _ (by simp [hu])⟩

/-- R125: the feed jogs end as a machine that does not pave enters STANDBY. -/
theorem blocksSee_standby_feed {s : State} {old : Mode} (hm : s.mode = .standby) (ho : old ≠ .standby) (hp : old ≠ .paving)
    (run e : Bool) : (blocksSee old run e s).feed = mapFeeds (jogDone .standby) s.feed := by
  have hmode := sidesSeen_mode old run e s
  have hfeed := sidesSeen_feed old run e s
  rw [blocksSee_eq, profilerSeesMode_feed]
  generalize sidesSeeMode old run e (heated old s) = u at hmode hfeed
  have hu : u.mode = .standby := hmode.trans hm
  unfold feedsSeeMode
  dsimp only
  rw [if_neg (by rw [hu]; exact ho.symm), if_neg (by simp [hu]), if_pos hu, if_neg (by simp [hu, hp]),
    eachFeed_map (f := endFeedJog .standby) (fun c v => endFeedJog_eq .standby c { u with feed := v }), hfeed]

/-! ### The pause detector and the stop timer -/

theorem restartStop_travel (s : State) :
    (restartStop s).travel = { s.travel with
      stop := { state := .running, elapsed := 0, subMs := 0, pending := false
                codeInForce := if s.travel.stop.pending then s.settings.standbyCode else s.travel.stop.codeInForce } } := rfl

/-- R14: what the pause detector leaves. -/
theorem firePause_effect {s : State} (hm : s.mode = .paving) (hsides : sidesSound s = true) :
    (firePause s).mode = .paused ∧ (firePause s).pavePending = s.pavePending ∧ (firePause s).travel = (restartStop s).travel
      ∧ (∀ d : Side, sideRests ((firePause s).sides.get d)) ∧ (firePause s).feed = mapFeeds suspendedFeed s.feed
      ∧ (firePause s).profiler.flags.afterPause = true := by
  have mode : (blocksSee s.mode (runCondition s) false (modeTaken .paused .pause .modeController s)).mode = .paused := by
    rw [blocksSee_mode, modeTaken_mode]
    rfl
  obtain ⟨sides, feed, travel, hmode, pave, flag⟩ := settleReadiness_leaves
    (s := blocksSee s.mode (runCondition s) false (modeTaken .paused .pause .modeController s)) (by rw [mode]; decide)
    (by rw [mode]; decide) (by rw [mode]; decide)
  have taken : (modeTaken .paused .pause .modeController s).sides = s.sides ∧ (modeTaken .paused .pause .modeController s).feed = s.feed
      ∧ (modeTaken .paused .pause .modeController s).pavePending = s.pavePending
      ∧ (modeTaken .paused .pause .modeController s).settings = s.settings := by
    rw [modeTaken_eq]
    exact ⟨rfl, rfl, rfl, rfl⟩
  obtain ⟨hts, htf, htp, htset⟩ := taken
  have hpaused : (modeTaken .paused .pause .modeController s).mode = .paused := by rw [modeTaken_mode]; rfl
  obtain ⟨rests, suspended, after⟩ := blocksSee_paused hpaused (runCondition s) false
    (fun hr d => by rw [hts]; exact sideRests_of_sound hsides hr d)
  rw [← hm] at rests suspended after
  have ht : (travelSeesMode s.mode (modeTaken .paused .pause .modeController s)).travel = (restartStop s).travel := by
    unfold travelSeesMode
    rw [if_neg (by simp [hpaused, hm]), if_pos hpaused, restartStop_travel, restartStop_travel, modeTaken_travel, htset]
  unfold firePause
  rw [takeModeChange_eq]
  refine ⟨hmode.trans mode, ?_, ?_, fun d => ?_, ?_, flag after⟩
  · rw [pave, blocksSee_pavePending, htp]
  · rw [travel, blocksSee_travel, ht]
  · rw [sides]
    exact rests d
  · rw [feed, suspended, htf]

theorem hideReaction_firePause (s : State) : hideReaction (firePause s) = hideReaction s := hideReaction_takeModeChange _ _ _ _ s

/-- The state in which the blocks see STANDBY after the stop timer's match. -/
def standbyTaken (s : State) : State :=
  appendEvent .travelUnit
    (.standbyEntered s.travel.stop.codeInForce (compareOf s.travel.stop.codeInForce) s.travel.highWater)
    (changeMode .standby .timer .modeController (markMatched s))

theorem matchStop_paused {s : State} (hm : s.mode = .paused) :
    matchStop s = settleReadiness (blocksSee .paused (runCondition s) false (standbyTaken s)) := by
  unfold matchStop standbyTaken
  dsimp only
  rw [if_neg (by simp [hm]), hm]

theorem standbyTaken_eq (s : State) :
    standbyTaken s
      = { markMatched s with
          mode := .standby
          events := eventsAfter s
            [(.modeController, .modeChanged s.mode .standby .timer),
             (.travelUnit, .standbyEntered s.travel.stop.codeInForce (compareOf s.travel.stop.codeInForce) s.travel.highWater)] } := by
  unfold standbyTaken
  rw [appendEvent_eq, changeMode_eq]
  rfl

/-- R15: what the stop timer's match in PAUSED leaves. -/
theorem matchStop_effect {s : State} (hm : s.mode = .paused) :
    (matchStop s).mode = .standby ∧ (matchStop s).pavePending = s.pavePending ∧ (matchStop s).travel = (markMatched s).travel
      ∧ (matchStop s).feed = mapFeeds (jogDone .standby) s.feed
      ∧ ∃ later, (matchStop s).events = eventsAfter s
          ((.modeController, .modeChanged .paused .standby .timer)
            :: (.travelUnit, .standbyEntered s.travel.stop.codeInForce (compareOf s.travel.stop.codeInForce) s.travel.highWater)
            :: later) := by
  have hstandby : (standbyTaken s).mode = .standby := by rw [standbyTaken_eq]
  have mode : (blocksSee .paused (runCondition s) false (standbyTaken s)).mode = .standby := by rw [blocksSee_mode, hstandby]
  obtain ⟨-, feed, travel, hmode, pave, -⟩ := settleReadiness_leaves
    (s := blocksSee .paused (runCondition s) false (standbyTaken s)) (by rw [mode]; decide)
    (by rw [mode]; decide) (by rw [mode]; decide)
  have stamp : sameStamp s (standbyTaken s) := by
    rw [standbyTaken_eq]
    exact ⟨rfl, rfl, rfl, rfl⟩
  have events : (standbyTaken s).events = eventsAfter s
      [(.modeController, .modeChanged .paused .standby .timer),
       (.travelUnit, .standbyEntered s.travel.stop.codeInForce (compareOf s.travel.stop.codeInForce) s.travel.highWater)] := by
    rw [standbyTaken_eq, hm]
  rw [matchStop_paused hm]
  refine ⟨hmode.trans mode, ?_, ?_, ?_, Appends.behind stamp events ((appends_blocksSee _ _ _ _).trans (appends_settleReadiness _))⟩
  · rw [pave, blocksSee_pavePending, standbyTaken_eq]
    rfl
  · rw [travel, blocksSee_travel, travelSeesMode_other (by simp [hstandby]) (by simp [hstandby]), standbyTaken_eq]
  · rw [feed, blocksSee_standby_feed hstandby (by decide) (by decide), standbyTaken_eq]
    rfl

theorem hideReaction_matchStop {s : State} (hm : s.mode = .paused) : hideReaction (matchStop s) = hideReaction s := by
  rw [matchStop_paused hm, hideReaction_settleReadiness, hideReaction_blocksSee]
  exact (hideReaction_appendEvent _ _ _).trans ((hideReaction_changeMode _ _ _ _).trans rfl)

end Sys2Proof.Machine

open Sys2Proof Sys2Proof.Machine

/-- Settles O24: the pause detector by `firePause_effect`, the stop timer by `matchStop_effect`. -/
theorem stopsSuspendPaving : Obligations.StopsSuspendPaving := by
  unfold Obligations.StopsSuspendPaving
  refine ⟨fun s => ⟨fun h => ?_, fun hm hms hsides => ?_⟩,
    fun s => ⟨fun h => ?_, fun hrun hcode hreach => ⟨fun hm => ?_, fun hm => ?_⟩⟩⟩
  · refine congrArg Host.Outcome.next (if_neg ?_)
    simp only [pauseReached, Bool.and_eq_true, decide_eq_true_eq]
    rintro ⟨hm, hms⟩
    exact h.elim (fun k => k hm) (fun k => absurd hms (by omega))
  · obtain ⟨mode, pave, travel, sides, feed, flag⟩ := firePause_effect hm hsides
    obtain ⟨later, events⟩ := takeModeChange_events .paused .pause .modeController false s
    have frame := frame_of_reaction (hideReaction_firePause s)
    refine ⟨firePause s, later, congrArg Host.Outcome.next (if_pos ?_), mode, hm ▸ events, travel, sides, fun c => ?_, flag, ?_⟩
    · simp [pauseReached, hm, hms]
    · rw [feed, mapFeeds_get]
      exact suspendedFeed_rests _
    · generalize firePause s = t at mode pave frame
      rwa [mode, pave] at frame
  · refine congrArg Host.Outcome.next (if_neg ?_)
    simp only [matchReached, Bool.and_eq_true, decide_eq_true_eq]
    rintro ⟨⟨hr, hc⟩, hreach⟩
    rcases h with h | h | h
    · exact h hr
    · exact hc h
    · omega
  all_goals
    have act : exec .stopTimerMatch s = .next (matchStop s) := by
      refine congrArg Host.Outcome.next (if_pos ?_)
      simp [matchReached, hrun, hcode, hreach]
  · rw [act]
    exact congrArg Host.Outcome.next (if_pos hm)
  · obtain ⟨mode, pave, travel, feed, later, events⟩ := matchStop_effect hm
    have frame := frame_of_reaction (hideReaction_matchStop hm)
    refine ⟨matchStop s, later, act, mode, events, fun c => ?_, ?_⟩
    · rw [feed, mapFeeds_get]
      exact jogDone_left _ _
    · generalize matchStop s = t at mode pave travel frame
      rw [mode, pave, travel] at frame
      exact frame
end

section
/-! PROOFS. GO and its table (R9): O21. -/

namespace Sys2Proof.Machine

open Sys2Proof

/-! ### GO, refused and done -/

theorem serveGo_notHolder {p : Port} {target : Byte} {s : State} (h : holds s p .mode = false) :
    serveGo p target s = refuse .notHolder s := if_pos h

theorem goTargetOfByte_unknown {b : Byte} (h : 4 < b.toNat) : goTargetOfByte b = none := by
  have ne (c : Byte) (hc : c.toNat ≤ 4) : b ≠ c := fun e => by
    rw [e] at h
    omega
  unfold goTargetOfByte
  rw [if_neg (ne 0 (by decide)), if_neg (ne 1 (by decide)), if_neg (ne 2 (by decide)), if_neg (ne 3 (by decide)),
    if_neg (ne 4 (by decide))]

theorem serveGo_unknown {p : Port} {target : Byte} {s : State} (h : holds s p .mode = true) (ht : 4 < target.toNat) :
    serveGo p target s = refuse .unknown s := by
  unfold serveGo
  rw [if_neg (by simp [h]), goTargetOfByte_unknown ht]

theorem serveGo_latched {p : Port} {target : Byte} {g : GoTarget} {s : State} (h : holds s p .mode = true)
    (hg : goTargetOfByte target = some g) (he : s.estop = true) : serveGo p target s = refuse .state s := by
  unfold serveGo
  rw [if_neg (by simp [h]), hg]
  exact if_pos he

theorem serveGo_none {p : Port} {target : Byte} {g : GoTarget} {s : State} (h : holds s p .mode = true)
    (hg : goTargetOfByte target = some g) (he : s.estop = false) (hk : goEntry g s.mode = none) :
    serveGo p target s = refuse .state s := by
  unfold serveGo
  rw [if_neg (by simp [h]), hg]
  dsimp only
  rw [if_neg (by simp [he]), goEffect_none p hk]

theorem serveGo_done {p : Port} {target : Byte} {g : GoTarget} {s t : State} (h : holds s p .mode = true)
    (hg : goTargetOfByte target = some g) (he : s.estop = false) (ht : goEffect p g s = some t) :
    serveGo p target s = done (goPayload t) t := by
  unfold serveGo
  rw [if_neg (by simp [h]), hg]
  dsimp only
  rw [if_neg (by simp [he]), ht]

/-! ### Where a GO leaves the machine -/

/-- What is shown of a GO of the table that takes `s` to `t` (R2, R9, R10, R11). -/
structure GoDone (p : Port) (g : GoTarget) (entered : Option Mode) (s t : State) : Prop where
  leaves : (t.mode, t.pavePending) = goLeaves g s.mode s.readiness t.readiness
  records : ∀ m, entered = some m → ∃ later, t.events = eventsAfter s ((.port p, .modeChanged s.mode m .request) :: later)
  stays : entered = none → t.mode = s.mode →
    t = { s with pavePending := t.pavePending, readiness := t.readiness, failing := t.failing }
  pause : t.travel = { s.travel with pauseMs := t.travel.pauseMs }
  frame : hideReaction t = hideReaction s

theorem goEntry_ne_paused {g : GoTarget} {m m' : Mode} (h : goEntry g m = some (some m')) : m' ≠ .paused := by
  cases g <;> cases m <;> cases h <;> decide

theorem goStart_eq (g : GoTarget) (s : State) : goStart g s = { s with pavePending := (goStart g s).pavePending } := by
  unfold goStart
  repeat' split
  all_goals rfl

/-- R10, R11: the chain from an entered mode, before and after readiness is evaluated. -/
theorem goLeaves_entry {g : GoTarget} {m m' : Mode} {pave hot hotAfter : Bool} (h : goEntry g m = some (some m'))
    (hp : pave = decide (g = .pave ∧ m ≠ .ready)) :
    chained (chained m' pave hot).1 (chained m' pave hot).2 hotAfter = goLeaves g m hot hotAfter := by
  subst hp
  cases g <;> cases m <;> cases h <;> cases hot <;> cases hotAfter <;> decide

theorem goStart_pave {g : GoTarget} {s : State} {m : Mode} (h : modeSound s = true) (hg : goEntry g s.mode = some (some m)) :
    (goStart g s).pavePending = decide (g = .pave ∧ s.mode ≠ .ready) := by
  have hn := pavePending_clear h
  cases g <;> cases hm : s.mode <;> rw [hm] at hg hn <;> cases hg <;> simp_all [goStart]

theorem goEffect_entered {p : Port} {g : GoTarget} {s : State} {m : Mode} (h : modeSound s = true)
    (hg : goEntry g s.mode = some (some m)) : ∃ t, goEffect p g s = some t ∧ GoDone p g (some m) s t := by
  have start := goStart_eq g s
  have pave := goStart_pave h hg
  refine ⟨_, goEffect_entry p hg, ?_, fun m' e => ?_, fun e => (by cases e), ?_, ?_⟩
  · unfold goTo
    rw [takeModeChange_modes (goEntry_ne_starting hg), start, goLeaves_entry hg (by rw [← pave, start])]
  · cases e
    obtain ⟨later, e⟩ := takeModeChange_events m .request (.port p) false (goStart g s)
    refine ⟨later, e.trans ?_⟩
    rw [start]
    exact eventsAfter_congr _ rfl rfl rfl rfl rfl
  · have travel := takeModeChange_pause (goEntry_ne_paused hg) .request (.port p) false (goStart g s)
    have same : (goStart g s).travel = s.travel := by rw [start]
    rw [same] at travel
    exact travel
  · unfold goTo
    rw [hideReaction_takeModeChange, start]
    rfl

/-- R9: a GO that writes pave-pending at most. -/
theorem goDone_same {p : Port} {g : GoTarget} {s : State} {pave : Bool} (h : (s.mode, pave) = goLeaves g s.mode s.readiness s.readiness) :
    GoDone p g none s { s with pavePending := pave } :=
  ⟨h, fun _ e => (by cases e), fun _ _ => rfl, rfl, rfl⟩

/-- An evaluation that leaves the mode in PREHEAT moves no block. -/
theorem settleReadiness_preheat {s : State} (hm : s.mode = .preheat) (h : (settleReadiness s).mode = s.mode) :
    settleReadiness s = evaluateReadiness s := by
  have hs : s.mode ≠ .starting := by simp [hm]
  have cold : (evaluateReadiness s).readiness = false := by
    obtain ⟨mode, -, hot, -⟩ := settleReadiness_modes hs
    rw [h, hm, hot] at mode
    change (failingZones s).isEmpty = false
    cases hk : (failingZones s).isEmpty
    · rfl
    · rw [hk] at mode
      cases hp : s.pavePending <;> rw [hp] at mode <;> cases mode
  have chain : readinessChain (evaluateReadiness s) = evaluateReadiness s := by
    rcases readinessChain_cases (evaluateReadiness s) with ⟨e, -⟩ | ⟨-, e, -⟩ | ⟨-, e, -⟩ | ⟨e, -⟩
    · exact e
    · rw [cold] at e
      cases e
    · rw [cold] at e
      cases e
    · have : s.mode = .ready := e
      rw [hm] at this
      cases this
  have rest : (evaluateReadiness s).mode = .preheat := hm
  rw [settleReadiness_running hs, noteReadinessLoss_resting (by simp [rest]) (by simp [rest]), chain]
  exact blocksSee_same false (evaluateReadiness s)

/-- R9: GO(PAVE) in PREHEAT sets pave-pending and judges readiness. -/
theorem goDone_paved {p : Port} {s : State} (hm : s.mode = .preheat) (cold : s.readiness = false) :
    GoDone p .pave none s (settleReadiness { s with pavePending := true }) := by
  generalize hu : ({ s with pavePending := true } : State) = u
  have hum : u.mode = .preheat := by rw [← hu]; exact hm
  have hup : u.pavePending = true := by rw [← hu]
  have hut : u.travel = s.travel := by rw [← hu]
  have huf : hideReaction u = hideReaction s := by rw [← hu]; rfl
  refine ⟨?_, fun _ e => (by cases e), fun _ hstay => ?_, ?_, ?_⟩
  · obtain ⟨mode, pave, -⟩ := settleReadiness_modes (s := u) (by simp [hum])
    rw [mode, pave, hum, hup, hm, cold]
    generalize (settleReadiness u).readiness = hot
    cases hot <;> rfl
  · rw [settleReadiness_preheat hum (hstay.trans (hm.trans hum.symm)), ← hu]
    rfl
  · rw [← hut]
    exact settleReadiness_pause (by simp [hum])
  · rw [hideReaction_settleReadiness, huf]

theorem goEffect_stayed {p : Port} {g : GoTarget} {s : State} (h : modeSound s = true) (hg : goEntry g s.mode = some none) :
    ∃ t, goEffect p g s = some t ∧ GoDone p g none s t := by
  obtain ⟨-, -, cold, -, -⟩ := (modeSound_iff s).mp h
  have clear := pavePending_clear h
  rcases goEffect_stay p hg with ⟨rfl, hm, e⟩ | ⟨rfl, hm, e⟩ | ⟨rfl, hm, e⟩ | ⟨rfl, hm, e⟩
  · refine ⟨_, e, goDone_same ?_⟩
    simp [goLeaves, hm, cold hm]
  · exact ⟨_, e, goDone_paved hm (cold hm)⟩
  · refine ⟨_, e, goDone_same (pave := s.pavePending) ?_⟩
    rcases hm with hm | hm <;> rw [clear (by simp [hm]), hm] <;> rfl
  · refine ⟨_, e, goDone_same (pave := s.pavePending) ?_⟩
    rw [clear (by simp [hm]), hm]
    rfl

/-- R9: a GO of the table, whatever the ports. -/
theorem goEffect_done {p : Port} {g : GoTarget} {s : State} {entered : Option Mode} (h : modeSound s = true)
    (hg : goEntry g s.mode = some entered) : ∃ t, goEffect p g s = some t ∧ GoDone p g entered s t := by
  cases entered with
  | none => exact goEffect_stayed h hg
  | some m => exact goEffect_entered h hg

/-- What is shown of a GO on a state with its port opened holds of the state itself. -/
theorem GoDone.withPorts {p : Port} {g : GoTarget} {entered : Option Mode} {s t : State} {ports : PerPort PortState}
    (h : GoDone p g entered { s with ports := ports } t) : t.ports = ports ∧ GoDone p g entered s { t with ports := s.ports } := by
  obtain ⟨leaves, records, stays, pause, frame⟩ := h
  have hports : t.ports = ports := by
    have e := congrArg State.ports frame
    exact e
  refine ⟨hports, leaves, fun m hm => ?_, fun hn hm => ?_, pause, ?_⟩
  · obtain ⟨later, e⟩ := records m hm
    exact ⟨later, e.trans (eventsAfter_congr _ rfl rfl rfl rfl rfl)⟩
  · have e := congrArg (fun u => { u with ports := s.ports }) (stays hn hm)
    exact e
  · have e := congrArg (fun u => { u with ports := s.ports }) frame
    exact e

end Sys2Proof.Machine

open Sys2Proof Sys2Proof.Machine

/-- Settles O21: the refusals in their order, and a GO of the table by `goEffect_done`. -/
theorem goFollowsItsTable : Obligations.GoFollowsItsTable := by
  unfold Obligations.GoFollowsItsTable
  intro p tag target s hp
  obtain ⟨hs, hf, -⟩ := (portOpen_iff s p).mp hp
  refine ⟨fun h => ?_, fun h ht => ?_, fun g hg h => ⟨fun he => ?_, fun he hk => ?_, fun entered he hk hsound => ?_⟩⟩
  · exact congrArg Host.Outcome.next (takeRequest_refused hf hs (serveGo_notHolder h))
  · exact congrArg Host.Outcome.next (takeRequest_refused hf hs (serveGo_unknown h ht))
  · exact congrArg Host.Outcome.next (takeRequest_refused hf hs (serveGo_latched h hg he))
  · exact congrArg Host.Outcome.next (takeRequest_refused hf hs (serveGo_none h hg he hk))
  · obtain ⟨t, ht, done⟩ := goEffect_done (p := p) (s := { s with ports := s.ports.set p (opened (kindByte .go) tag (s.ports.get p)) })
      hsound hk
    obtain ⟨ports, done⟩ := done.withPorts
    have served := takeRequest_answered (k := .go) (tag := tag) (serve := serveGo p target) hp (serveGo_done h hg he ht) ports
    have act : ∃ u : State, u = { t with ports := s.ports } ∧ exec (.go p tag target) s
        = .next (withReply p (kindByte .go) tag (okAnswer (u8 (modeCode u.mode) ++ boolByte u.pavePending)) u) :=
      ⟨_, rfl, congrArg Host.Outcome.next served⟩
    obtain ⟨u, hu, act⟩ := act
    rw [← hu] at done
    obtain ⟨leaves, records, stays, pause, frame⟩ := done
    have frame := frame_of_reaction frame
    have whole : u = { s with
        mode := u.mode, pavePending := u.pavePending, readiness := u.readiness, failing := u.failing
        travel := { s.travel with pauseMs := u.travel.pauseMs }, zones := u.zones, health := u.health
        queue := u.queue, grants := u.grants, sides := u.sides, feed := u.feed, profiler := u.profiler, events := u.events } := by
      rw [← pause]
      exact frame
    cases entered with
    | none => exact ⟨u, [], act, leaves, fun _ e => (by cases e), stays, whole⟩
    | some m =>
      obtain ⟨later, events⟩ := records m rfl
      exact ⟨u, later, act, leaves, fun m' e => Option.some.inj e ▸ events, stays, whole⟩
end

section
/-! PROOFS. Functions that become free, by RELEASE or by a link's silence, and the loss of MODE (R18, R109, R125, R168, R169): O20 and O16. -/

namespace Sys2Proof.Machine

open Sys2Proof

/-! ### MODE becomes free (R18) -/

/-- What is shown of the loss of MODE in PAVING or PAUSED. -/
structure PavingStopped (s t : State) : Prop where
  mode : t.mode = if t.readiness then .ready else .preheat
  pavePending : t.pavePending = false
  events : ∃ later, t.events = eventsAfter s ((.modeController, .modeChanged s.mode .ready .authorityLoss) :: later)
  travel : t.travel = s.travel
  sides : sidesMoved s t
  feeds : feedsMoved s t
  frame : hideReaction t = hideReaction s

theorem modeFreed_resting {s : State} (h : s.mode ≠ .paving) (k : s.mode ≠ .paused) : modeFreed s = { s with pavePending := false } :=
  if_neg (not_or.mpr ⟨h, k⟩)

theorem modeFreed_running {s : State} (h : s.mode = .paving ∨ s.mode = .paused) : PavingStopped s (modeFreed s) := by
  have e : modeFreed s = takeModeChange .ready .authorityLoss .modeController false { s with pavePending := false } := if_pos h
  rw [e]
  generalize hu : ({ s with pavePending := false } : State) = u
  have hup : u.pavePending = false := by rw [← hu]
  have modes := takeModeChange_modes (m := .ready) (by decide) .authorityLoss .modeController false u
  obtain ⟨later, events⟩ := takeModeChange_events .ready .authorityLoss .modeController false u
  have travel := takeModeChange_travel (m := .ready) (s := u) (by decide) (by decide) hup (by decide) .authorityLoss .modeController false
  have sides := takeModeChange_moved (m := .ready) (by decide) .authorityLoss .modeController false u
  have feeds := takeModeChange_feedsMoved (m := .ready) (by decide) (by decide) .authorityLoss .modeController false u
  have frame := hideReaction_takeModeChange .ready .authorityLoss .modeController false u
  generalize takeModeChange .ready .authorityLoss .modeController false u = t at *
  rw [hup] at modes
  subst hu
  have ends : (t.mode, t.pavePending) = (if t.readiness then .ready else .preheat, false) := by
    rw [modes]
    generalize t.readiness = hot
    cases s.readiness <;> cases hot <;> rfl
  exact ⟨congrArg Prod.fst ends, congrArg Prod.snd ends, ⟨later, events.trans (eventsAfter_congr _ rfl rfl rfl rfl rfl)⟩, travel, sides,
    feeds, frame.trans rfl⟩

/-! ### One function becomes free (R109, R125) -/

theorem holderOf_setHolderIn (a : Authority) (f g : Function) (h : Option Port) :
    holderOf (setHolderIn a f h) g = if g = f then h else holderOf a g := by
  cases f <;> cases g <;> simp [holderOf, setHolderIn, PerSide.get_set]

/-- The jogs running under a function end; the extensions, the sides and the channels it does not own stand. -/
theorem endJogsUnder_eq (f : Function) (s : State) :
    (endJogsUnder f s
        = { s with
            geometry := (endJogsUnder f s).geometry, sides := (endJogsUnder f s).sides, feed := (endJogsUnder f s).feed })
      ∧ (∀ d, (endJogsUnder f s).geometry.get d
          = if f = .width d then jogEnded .authority (s.geometry.get d) else s.geometry.get d)
      ∧ (∀ d, (endJogsUnder f s).sides.get d = if f = .grade d then gradeJogDone .authority (s.sides.get d) else s.sides.get d)
      ∧ ∀ c, (endJogsUnder f s).feed.get c
          = if f = .feed (feedSide c) then jogDone .authority (s.feed.get c) else s.feed.get c := by
  cases f with
  | mode | heat | records => exact ⟨rfl, fun _ => rfl, fun _ => rfl, fun _ => rfl⟩
  | grade d =>
    simp only [endJogsUnder, endGradeJog_eq]
    refine ⟨trivial, fun _ => rfl, fun y => ?_, fun _ => rfl⟩
    cases d <;> cases y <;> rfl
  | width d =>
    simp only [endJogsUnder, endWidthJog_eq]
    refine ⟨trivial, fun y => ?_, fun _ => rfl, fun _ => rfl⟩
    cases d <;> cases y <;> rfl
  | feed d =>
    cases d <;> simp only [endJogsUnder, endFeedJog_eq]
    · refine ⟨trivial, fun _ => rfl, fun _ => rfl, fun y => ?_⟩
      cases y <;> rfl
    · refine ⟨trivial, fun _ => rfl, fun _ => rfl, fun y => ?_⟩
      cases y <;> rfl

theorem jogEnded_eq (e : Extension) (P : Prop) [Decidable P] :
    (if P then jogEnded .authority e else e)
      = if P ∧ e.jogDir ≠ .none then { e with jogDir := .none, jogLeft := 0, jogMs := 0, lastEnd := .authority } else e := by
  unfold jogEnded
  by_cases h : P <;> by_cases k : e.jogDir = .none <;> simp [h, k]

theorem gradeJogDone_eq (r : SideRec) (P : Prop) [Decidable P] :
    (if P then gradeJogDone .authority r else r)
      = if P ∧ 0 < r.jogLeft then { r with duty := 0, dir := .none, jogLeft := 0, jogMs := 0, lastEnd := .authority } else r := by
  unfold gradeJogDone
  by_cases h : P <;> by_cases k : r.jogLeft = 0 <;> simp [h, k, Nat.pos_iff_ne_zero]

theorem jogDone_eq (r : FeedRec) (P : Prop) [Decidable P] :
    (if P then jogDone .authority r else r)
      = if P ∧ 0 < r.jogLeft then { r with duty := 0, jogDuty := 0, jogLeft := 0, jogMs := 0, lastEnd := .authority } else r := by
  unfold jogDone
  by_cases h : P <;> by_cases k : r.jogLeft = 0 <;> simp [h, k, Nat.pos_iff_ne_zero]

/-! ### RELEASE (R168) -/

theorem functionOfByte_code {b : Byte} {f : Function} (h : b.toNat = functionCode f) : functionOfByte b = some f := by
  unfold functionOfByte
  rw [h]
  cases f with
  | grade d | feed d | width d => cases d <;> rfl
  | mode | heat | records => rfl

theorem functionOfByte_unknown {b : Byte} (h : 8 < b.toNat) : functionOfByte b = none := by
  unfold functionOfByte
  split <;> first | omega | rfl

theorem serveRelease_unknown {p : Port} {b : Byte} {s : State} (h : 8 < b.toNat) : serveRelease p b s = refuse .unknown s := by
  unfold serveRelease
  rw [functionOfByte_unknown h]

theorem serveRelease_notHolder {p : Port} {b : Byte} {f : Function} {s : State} (hf : functionOfByte b = some f)
    (h : holds s p f = false) : serveRelease p b s = refuse .notHolder s := by
  unfold serveRelease
  rw [hf]
  exact if_pos h

theorem serveRelease_held {p : Port} {b : Byte} {f : Function} {s : State} (hf : functionOfByte b = some f) (h : holds s p f = true) :
    serveRelease p b s
      = done [] (if f = .mode then modeFreed (endJogsUnder f (setHolder f none s)) else endJogsUnder f (setHolder f none s)) := by
  unfold serveRelease
  rw [hf]
  exact if_neg (by simp [h])

end Sys2Proof.Machine

open Sys2Proof Sys2Proof.Machine

/-- Settles O20: the refusals, then a freed function's jogs by `endJogsUnder_eq` and the loss of MODE by `modeFreed_running`. -/
theorem releaseFreesFunction : Obligations.ReleaseFreesFunction := by
  unfold Obligations.ReleaseFreesFunction
  intro p tag function s hp
  obtain ⟨hs, hin, -⟩ := (portOpen_iff s p).mp hp
  refine ⟨fun h => congrArg Host.Outcome.next (takeRequest_refused hin hs (serveRelease_unknown h)), fun f hcode => ?_⟩
  have hf := functionOfByte_code hcode
  refine ⟨fun h => congrArg Host.Outcome.next (takeRequest_refused hin hs (serveRelease_notHolder hf h)), fun h hn => ?_,
    fun h hm hpaving hpaused => ?_, fun h hm hmode _ => ?_⟩
  all_goals
    have served := serveRelease_held (s := withOpened p (kindByte .release) tag s) hf h
  · rw [if_neg hn] at served
    obtain ⟨frame, geometry, sides, feed⟩ := endJogsUnder_eq f (setHolder f none (withOpened p (kindByte .release) tag s))
    generalize endJogsUnder f (setHolder f none (withOpened p (kindByte .release) tag s)) = t at served frame geometry sides feed
    have ports : t.ports = (withOpened p (kindByte .release) tag s).ports := by rw [frame]; rfl
    refine ⟨{ t with ports := s.ports }, congrArg Host.Outcome.next (takeRequest_answered hp served ports), ?_,
      fun d => (geometry d).trans (jogEnded_eq _ _), fun d => (sides d).trans (gradeJogDone_eq _ _),
      fun c => (feed c).trans (jogDone_eq _ _)⟩
    exact congrArg (fun u => { u with ports := s.ports }) frame
  · subst hm
    refine congrArg Host.Outcome.next (takeRequest_served hin hs (served.trans ?_))
    rw [if_pos rfl,
      modeFreed_resting (s := endJogsUnder .mode (setHolder .mode none (withOpened p (kindByte .release) tag s))) hpaving hpaused]
    rfl
  · subst hm
    rw [if_pos rfl] at served
    obtain ⟨mode, pave, ⟨later, events⟩, travel, -, -, frame⟩ :=
      modeFreed_running (s := endJogsUnder .mode (setHolder .mode none (withOpened p (kindByte .release) tag s))) hmode
    have frame := frame_of_reaction frame
    generalize modeFreed (endJogsUnder .mode (setHolder .mode none (withOpened p (kindByte .release) tag s))) = t at *
    have ports : t.ports = (withOpened p (kindByte .release) tag s).ports := by rw [frame]; rfl
    have holder : holderOf t.authority .mode = none := by rw [frame]; rfl
    rw [pave, travel] at frame
    refine ⟨{ t with ports := s.ports }, later, congrArg Host.Outcome.next (takeRequest_answered hp served ports), mode, pave, holder,
      events.trans (eventsAfter_congr _ rfl rfl rfl rfl rfl), ?_⟩
    exact congrArg (fun u => { u with ports := s.ports }) frame
end

section
/-! PROOFS. A link's silence (R162, R169): the functions of its station become free one after another. O16. -/

namespace Sys2Proof.Machine

open Sys2Proof

/-- A jog that ends leaves the operation of its side or channel. -/
theorem gradeJogDone_state (k : GradeEnd) (r : SideRec) : (gradeJogDone k r).state = r.state := by
  unfold gradeJogDone
  split <;> rfl

theorem jogDone_state (k : FeedEnd) (r : FeedRec) : (jogDone k r).state = r.state := by
  unfold jogDone
  split <;> rfl

/-- What is shown of the loss of the functions `fs` that a silent station holds. -/
structure Lost (p : Port) (fs : List Function) (s u : State) : Prop where
  frame : u = { s with authority := u.authority, geometry := u.geometry, sides := u.sides, feed := u.feed, events := u.events }
  events : u.events = eventsAfter s ((fs.filter (holds s p)).map fun f => (.authorityTable, .authority f .loss p))
  holder : ∀ f, holderOf u.authority f = if f ∈ fs ∧ holds s p f = true then none else holderOf s.authority f
  geometry : ∀ d, u.geometry.get d
    = if .width d ∈ fs ∧ holds s p (.width d) = true then jogEnded .authority (s.geometry.get d) else s.geometry.get d
  sides : ∀ d, u.sides.get d
    = if .grade d ∈ fs ∧ holds s p (.grade d) = true then gradeJogDone .authority (s.sides.get d) else s.sides.get d
  feed : ∀ c, u.feed.get c
    = if .feed (feedSide c) ∈ fs ∧ holds s p (.feed (feedSide c)) = true then jogDone .authority (s.feed.get c) else s.feed.get c

theorem Lost.none (p : Port) (s : State) : Lost p [] s s :=
  ⟨rfl, rfl, fun _ => by simp, fun _ => by simp, fun _ => by simp, fun _ => by simp⟩

theorem loseFunction_free {p : Port} {s : State} {f : Function} (h : holds s p f = false) : loseFunction p s f = s :=
  if_neg (by simp [h])

/-- The loss of one function that the station holds. -/
theorem loseFunction_held {p : Port} {s : State} {f : Function} (h : holds s p f = true) : Lost p [f] s (loseFunction p s f) := by
  obtain ⟨frame, geometry, sides, feed⟩ := endJogsUnder_eq f (setHolder f none s)
  have e : loseFunction p s f = appendEvent .authorityTable (.authority f .loss p) (endJogsUnder f (setHolder f none s)) := if_pos h
  rw [e, appendEvent_eq]
  generalize endJogsUnder f (setHolder f none s) = t at frame geometry sides feed
  have authority : t.authority = setHolderIn s.authority f none := by rw [frame]; rfl
  have whole : t = { s with
      authority := setHolderIn s.authority f none, geometry := t.geometry, sides := t.sides, feed := t.feed } := frame
  have under {g : Function} {α : Type} {a b : α} : (if f = g then a else b) = if g ∈ [f] ∧ holds s p g = true then a else b := by
    by_cases k : f = g
    · subst k
      simp [h]
    · rw [if_neg k, if_neg (fun hk => k (List.mem_singleton.mp hk.1).symm)]
  refine ⟨?_, ?_, fun g => ?_, fun d => ?_, fun d => ?_, fun c => ?_⟩
  · rw [whole]
  · simp only [List.filter_cons, h, if_true, List.filter_nil, List.map_cons, List.map_nil]
    rw [whole]
    exact eventsAfter_congr _ rfl rfl rfl rfl rfl
  · rw [← under, authority, holderOf_setHolderIn]
    by_cases k : f = g
    · rw [if_pos k, if_pos k.symm]
    · rw [if_neg k, if_neg (Ne.symm k)]
  · rw [← under]
    exact geometry d
  · rw [← under]
    exact sides d
  · rw [← under]
    exact feed c

theorem loseFunction_lost (p : Port) (s : State) (f : Function) : Lost p [f] s (loseFunction p s f) := by
  cases h : holds s p f
  · rw [loseFunction_free h]
    have keep {g : Function} : ¬ (g ∈ [f] ∧ holds s p g = true) := fun k => by
      rw [List.mem_singleton.mp k.1, h] at k
      cases k.2
    exact ⟨rfl, by simp [h], fun _ => (if_neg keep).symm, fun _ => (if_neg keep).symm, fun _ => (if_neg keep).symm,
      fun _ => (if_neg keep).symm⟩
  · exact loseFunction_held h

/-- A function that is not lost is held as before. -/
theorem Lost.holds_other {p : Port} {f g : Function} {s t : State} (h : Lost p [f] s t) (hg : g ≠ f) : holds t p g = holds s p g := by
  unfold holds
  rw [h.holder g, if_neg fun k => hg (List.mem_singleton.mp k.1)]

/-- A part under the function `g`, written when `f` is lost and then when the rest is. -/
theorem Lost.part_cons {p : Port} {f g : Function} {fs : List Function} {s t : State} {α : Type} {F : α → α} {a b c : α} (hf : f ∉ fs)
    (h : Lost p [f] s t) (hb : b = if g ∈ [f] ∧ holds s p g = true then F a else a)
    (hc : c = if g ∈ fs ∧ holds t p g = true then F b else b) : c = if g ∈ f :: fs ∧ holds s p g = true then F a else a := by
  by_cases k : g = f
  · subst k
    simpa [hb, hf] using hc
  · rw [hc, h.holds_other k, hb]
    simp [k]

/-- Functions lost one after another. -/
theorem Lost.cons {p : Port} {f : Function} {fs : List Function} {s t u : State} (hf : f ∉ fs) (h : Lost p [f] s t) (k : Lost p fs t u) :
    Lost p (f :: fs) s u := by
  refine ⟨k.frame.trans (by rw [h.frame]), ?_, fun g => ?_, fun d => ?_, fun d => ?_, fun c => ?_⟩
  · have rest : fs.filter (holds t p) = fs.filter (holds s p) :=
      List.filter_congr fun g hg => h.holds_other fun e => hf (e ▸ hg)
    have split : (f :: fs).filter (holds s p) = [f].filter (holds s p) ++ fs.filter (holds s p) := List.filter_append (l₁ := [f]) fs
    rw [k.events, rest, split, List.map_append, eventsAfter_append, ← h.events]
    refine eventsAfter_congr _ ?_ ?_ ?_ ?_ rfl <;> rw [h.frame]
  · exact Lost.part_cons (F := fun _ => Option.none) hf h (h.holder g) (k.holder g)
  · exact Lost.part_cons hf h (h.geometry d) (k.geometry d)
  · exact Lost.part_cons hf h (h.sides d) (k.sides d)
  · exact Lost.part_cons hf h (h.feed c) (k.feed c)

theorem loseEach_lost (p : Port) (fs : List Function) (hn : fs.Nodup) (s : State) : Lost p fs s (fs.foldl (loseFunction p) s) := by
  induction fs generalizing s with
  | nil => exact .none p s
  | cons f fs ih =>
    obtain ⟨hf, hn⟩ := List.nodup_cons.mp hn
    exact (loseFunction_lost p s f).cons hf (ih hn (loseFunction p s f))

theorem mem_allFunctions (f : Function) : f ∈ allFunctions := by
  cases f with
  | grade d | feed d | width d => cases d <;> decide
  | mode | heat | records => decide

/-- R162: the state in which a silent link is DOWN and its functions are free. -/
def silenced (p : Port) (s : State) : State := allFunctions.foldl (loseFunction p) (setPort p { s.ports.get p with up := false } s)

theorem linkSilent_eq (p : Port) (s : State) :
    linkSilent p s = if holds s p .mode then modeFreed (silenced p s) else silenced p s := rfl

theorem silenced_lost (p : Port) (s : State) : Lost p allFunctions (setPort p { s.ports.get p with up := false } s) (silenced p s) :=
  loseEach_lost p allFunctions (by decide) _

end Sys2Proof.Machine

open Sys2Proof Sys2Proof.Machine

/-- Settles O16: the functions lost by `silenced_lost`, the loss of MODE by `modeFreed_running`. -/
theorem linkSilenceFreesFunctions : Obligations.LinkSilenceFreesFunctions := by
  unfold Obligations.LinkSilenceFreesFunctions
  intro p s
  refine ⟨fun h => ?_, fun hup hsilent => ?_⟩
  · refine congrArg Host.Outcome.next (if_neg ?_)
    simp only [silenceReached, Bool.and_eq_true, decide_eq_true_eq]
    rintro ⟨hup, hs⟩
    rcases h with h | h
    · rw [h] at hup
      cases hup
    · omega
  · have act : exec (.linkDown p) s = .next (linkSilent p s) := by
      refine congrArg Host.Outcome.next (if_pos ?_)
      simp [silenceReached, hup, hsilent]
    obtain ⟨frame, events, holder, geometry, sides, feed⟩ := silenced_lost p s
    have mode : (silenced p s).mode = s.mode := by rw [frame]; rfl
    have all {g : Function} {α : Type} {a b : α} :
        (if g ∈ allFunctions ∧ holds s p g = true then a else b) = if holds s p g = true then a else b := by simp [mem_allFunctions]
    have sideState (d : Side) : ((silenced p s).sides.get d).state = (s.sides.get d).state := by
      rw [sides d]
      split
      · exact gradeJogDone_state _ _
      · rfl
    have feedState (c : FeedChannel) : ((silenced p s).feed.get c).state = (s.feed.get c).state := by
      rw [feed c]
      split
      · exact jogDone_state _ _
      · rfl
    refine ⟨silenced p s, linkSilent p s, act, ?_, fun f => (holder f).trans all, fun d => (geometry d).trans (all.trans (jogEnded_eq _ _)),
      fun d => (sides d).trans (all.trans (gradeJogDone_eq _ _)), fun c => (feed c).trans (all.trans (jogDone_eq _ _)), fun h => ?_,
      fun h hp hq => ?_, fun h hm => ?_⟩
    · have recorded := events.trans (eventsAfter_congr (s := s) _ rfl rfl rfl rfl rfl)
      rw [recorded] at frame
      exact frame
    · rw [linkSilent_eq, h]
      rfl
    · rw [linkSilent_eq, h]
      exact modeFreed_resting (by rw [mode]; exact hp) (by rw [mode]; exact hq)
    · have e : linkSilent p s = modeFreed (silenced p s) := by rw [linkSilent_eq, if_pos h]
      obtain ⟨stops, pave, records, travel, moved, fed, whole⟩ := modeFreed_running (s := silenced p s) (by rw [mode]; exact hm)
      have whole := frame_of_reaction whole
      rw [mode] at records
      rw [← e] at stops pave records travel moved fed whole
      rw [pave, travel] at whole
      exact ⟨stops, records, fun d => (moved d).1, fun d hd => (moved d).2 (by rw [sideState]; exact hd),
        fun c hc => fed c (by rw [feedState]; exact hc), whole⟩
end

section
/-! PROOFS. The acceptance of a good frame and the replies of a port (R4, R161 to R163): O15. -/

namespace Sys2Proof.Machine

open Sys2Proof

/-! ### A row that is a request is a frame taken by its port -/

/-- A request row's command takes the frame it is spelled with. -/
theorem exec_of_spelling {i : Instr} {w : Spelled} (h : spellingOf i = some w) :
    ∃ serve : State → Served, ∀ s, exec i s = .next (takeFrame w.port w.kind w.tag serve s) := by
  cases i <;> cases h
  all_goals exact ⟨_, fun _ => rfl⟩

/-- R161, R163 case 1: a good frame that meets a request in flight. -/
theorem takeFrame_meets {p : Port} {kind tag : Byte} {serve : State → Served} {s : State}
    (h : (s.ports.get p).inFlight.isSome = true) :
    takeFrame p kind tag serve s
      = setPort p
          (if (busyQueue (heardBy (s.ports.get p))).length < 4 then
            transmit (replyOf kind tag (bareAnswer .busy)) (heardBy (s.ports.get p))
           else countError (heardBy (s.ports.get p))) s := by
  have heard : (hearFrame p s).ports.get p = heardBy (s.ports.get p) := by simp [hearFrame]
  rw [takeFrame_busy h]
  unfold answerBusy countFrameError
  dsimp only
  rw [heard]
  split
  · simp [hearFrame, setPort, replyOf, bareAnswer]
  · simp [hearFrame, setPort]

/-! ### A frame that is no request (R163 cases 3 and 4) -/

/-- The length of a kind's payload (section 12.2). -/
def payloadLength : RequestKind → Nat
  | .status => 0 | .readItem => 4 | .setItem => 11 | .take => 2 | .release => 1 | .go => 1 | .sideMode => 2
  | .setReference => 1 | .jog => 3 | .feedMode => 2 | .clearFault => 1 | .clearHealth => 1 | .mark => 1
  | .writeJob => 22 | .readRecords => 6 | .ackRecords => 5 | .setClock => 5 | .storeSettings => 0

theorem readPayload_writeJob_length {payload : List Byte} {q : Request} (h : readPayload .writeJob payload = some q) :
    payload.length = payloadLength .writeJob := by
  change (match payload.drop 16 with
    | [lane, layer, s0, s1, s2, s3] => some (Request.writeJob (payload.take 16) lane layer (word s0 s1 s2 s3))
    | _ => none) = some q at h
  split at h
  · rename_i e
    have hl := congrArg List.length e
    simp only [List.length_drop, List.length_cons, List.length_nil] at hl
    simp only [payloadLength]
    omega
  · cases h

/-- A payload is read where it has its kind's length only. -/
theorem readPayload_length {k : RequestKind} {payload : List Byte} {q : Request} (h : readPayload k payload = some q) :
    payload.length = payloadLength k := by
  match k, payload, h with
  | .status, [], _ | .storeSettings, [], _ => rfl
  | .release, [_], _ | .go, [_], _ | .setReference, [_], _ | .clearFault, [_], _ | .clearHealth, [_], _ | .mark, [_], _ => rfl
  | .take, [_, _], _ | .sideMode, [_, _], _ | .feedMode, [_, _], _ => rfl
  | .jog, [_, _, _], _ => rfl
  | .readItem, [_, _, _, _], _ => rfl
  | .ackRecords, [_, _, _, _, _], _ | .setClock, [_, _, _, _, _], _ => rfl
  | .readRecords, [_, _, _, _, _, _], _ => rfl
  | .setItem, [_, _, _, _, _, _, _, _, _, _, _], _ => rfl
  | .writeJob, _, h => exact readPayload_writeJob_length h

theorem kindOfByte_kindByte (k : RequestKind) : kindOfByte (kindByte k) = some k := by cases k <;> decide

theorem kindByte_bounds (k : RequestKind) : 1 ≤ (kindByte k).toNat ∧ (kindByte k).toNat ≤ 18 := by cases k <;> decide

theorem kindOfByte_unknown {b : Byte} (h : 18 < b.toNat ∨ b = 0) : kindOfByte b = none := by
  unfold kindOfByte
  refine List.find?_eq_none.mpr fun k _ hk => ?_
  have e : kindByte k = b := of_decide_eq_true hk
  obtain ⟨lo, hi⟩ := kindByte_bounds k
  rw [e] at lo hi
  rcases h with h | h
  · omega
  · subst h
    exact absurd lo (by decide)

theorem requestOf_unknown {b : Byte} (h : 18 < b.toNat ∨ b = 0) (payload : List Byte) : requestOf b payload = none := by
  unfold requestOf
  rw [kindOfByte_unknown h]
  rfl

theorem requestOf_length {k : RequestKind} {payload : List Byte} (h : payload.length ≠ payloadLength k) :
    requestOf (kindByte k) payload = none := by
  unfold requestOf
  rw [kindOfByte_kindByte]
  change readPayload k payload = none
  cases hq : readPayload k payload with
  | none => rfl
  | some q => exact absurd (readPayload_length hq) h

/-- R163 cases 3 and 4: the answer to a frame that carries no request. -/
theorem takeRawFrame_unknown {p : Port} {kind tag : Byte} {payload : List Byte} {s : State} (hs : s.mode ≠ .starting)
    (hf : (s.ports.get p).inFlight = none) (h : requestOf kind payload = none) :
    takeRawFrame p kind tag payload s = withReply p kind tag (bareAnswer .unknown) s := by
  unfold takeRawFrame
  rw [takeFrame_accepted hf (.inl hs)]
  unfold serveFrame
  rw [h]
  exact deliver_withOpened

/-! ### The transmitter (R163) -/

theorem finishReply_idle {r : PortState} (h : r.sending = none) : finishReply r = r := by
  unfold finishReply
  rw [h]

theorem finishReply_sent {r : PortState} {sent : Reply} (h : r.sending = some sent) :
    finishReply r
      = { r with
          sending := r.waiting.head?, waiting := r.waiting.tail
          inFlight := if sent.status = .busy then r.inFlight else none } := by
  unfold finishReply
  rw [h]

end Sys2Proof.Machine

open Sys2Proof Sys2Proof.Machine

/-- Settles O15: every request row is a frame taken by `takeFrame`, whose first cases the lemmas above give. -/
theorem requestsAreTakenOneAtATime : Obligations.RequestsAreTakenOneAtATime := by
  unfold Obligations.RequestsAreTakenOneAtATime
  refine ⟨fun i w s hw hf => ?_, fun i w s hw hm hf hk => ?_, fun p kind tag payload s hs hf h => ?_, fun p s => ⟨fun h => ?_, fun sent h => ?_⟩⟩
  · obtain ⟨serve, e⟩ := exec_of_spelling hw
    rw [e, takeFrame_meets hf]
    rfl
  · obtain ⟨serve, e⟩ := exec_of_spelling hw
    rw [e, takeFrame_notReady hf hm hk]
  · have unread : requestOf kind payload = none := by
      rcases h with h | h | ⟨k, -, rfl, hl⟩
      · exact requestOf_unknown (.inl h) payload
      · exact requestOf_unknown (.inr h) payload
      · refine requestOf_length fun e => hl (e.trans ?_)
        cases k <;> rfl
    exact ⟨congrArg Host.Outcome.next (takeRawFrame_unknown hs hf unread), congrArg Host.Outcome.next (takeRawFrame_unknown hs hf unread)⟩
  · have e : exec (.replySent p) s = .next (setPort p (finishReply (s.ports.get p)) s) := rfl
    rw [e, finishReply_idle h]
    simp [setPort]
  · have e : exec (.replySent p) s = .next (setPort p (finishReply (s.ports.get p)) s) := rfl
    rw [e, finishReply_sent h]
end

section
/-! PROOFS. What the rules of the odometer and of the extensions read of the state (`roadView`), and the walk over the commands: a predicate that reads
no more than the view, and that the few operations of `KeptOnRoad` keep, is kept by every step. From it the travel and geometry rules (R22, R23, R32,
R34, R36): O8. -/

namespace Sys2Proof.Machine

open Sys2Proof

/-! ### The view -/

/-- What the rules of the odometer and of the extensions read: the count, the station and the high-water station, the job's start and the pulses per
metre, the extensions with their channels, and the e-stop latch. Every other field stands at its reset value. -/
def roadView (s : State) : State :=
  { State.reset with
    estop := s.estop
    travel := { resetTravel with
      pulseCount := s.travel.pulseCount, station := s.travel.station, highWater := s.travel.highWater }
    geometry := s.geometry
    job := { resetJob with start := s.job.start }
    analog := { State.reset.analog with ext := s.analog.ext }
    settings := { defaultSettings with pulsesPerMetre := s.settings.pulsesPerMetre } }

theorem roadView_of_ports {s t : State} (h : hidePorts t = hidePorts s) : roadView t = roadView s := by
  have e := congrArg roadView h; exact e

theorem roadView_of_events {s t : State} (h : hideEvents t = hideEvents s) : roadView t = roadView s := by
  have e := congrArg roadView h; exact e

theorem roadView_of_heat {s t : State} (h : hideHeat t = hideHeat s) : roadView t = roadView s := by
  have e := congrArg roadView h; exact e

theorem roadView_of_sides {s t : State} (h : hideSides t = hideSides s) : roadView t = roadView s := by
  have e := congrArg roadView h; exact e

theorem roadView_of_feeds {s t : State} (h : hideFeeds t = hideFeeds s) : roadView t = roadView s := by
  have e := congrArg roadView h; exact e

theorem roadView_of_round {s t : State} (h : hideRound t = hideRound s) : roadView t = roadView s := by
  have e := congrArg roadView h; exact e

@[simp] theorem roadView_appendEvent (o : Origin) (e : Event) (s : State) : roadView (appendEvent o e s) = roadView s :=
  roadView_of_events (hideEvents_appendEvent o e s)

/-! ### Mode changes and readiness evaluations leave the road (R2, R7) -/

@[simp] theorem roadView_changeMode (m : Mode) (c : ModeCause) (o : Origin) (s : State) :
    roadView (changeMode m c o s) = roadView s := by
  unfold changeMode
  rw [roadView_appendEvent]
  rfl

@[simp] theorem roadView_travelSeesMode (old : Mode) (s : State) : roadView (travelSeesMode old s) = roadView s := by
  unfold travelSeesMode
  repeat' split
  all_goals rfl

@[simp] theorem roadView_blocksSee (old : Mode) (run e : Bool) (s : State) : roadView (blocksSee old run e s) = roadView s := by
  have seen (t : State) : roadView (profilerSeesMode old t) = roadView t := by
    rw [profilerSeesMode_eq]
    rfl
  unfold blocksSee
  dsimp only
  rw [seen, roadView_of_feeds (hideFeeds_feedsSeeMode _ _ _), roadView_of_sides (hideSides_sidesSeeMode _ _ _ _)]
  split
  · rfl
  · rw [roadView_of_heat (hideHeat_zonesSeeMode _ _), roadView_travelSeesMode]

@[simp] theorem roadView_readinessChain (s : State) : roadView (readinessChain s) = roadView s := by
  rw [readinessChain_eq]
  rfl

@[simp] theorem roadView_settleReadiness (s : State) : roadView (settleReadiness s) = roadView s := by
  unfold settleReadiness
  split
  · rfl
  · rw [roadView_blocksSee, roadView_readinessChain, noteReadinessLoss_eq]
    rfl

@[simp] theorem roadView_takeModeChange (m : Mode) (c : ModeCause) (o : Origin) (e : Bool) (s : State) :
    roadView (takeModeChange m c o e s) = roadView s := by
  simp [takeModeChange]

@[simp] theorem roadView_modeFreed (s : State) : roadView (modeFreed s) = roadView s := by
  unfold modeFreed
  dsimp only
  split
  · exact (roadView_takeModeChange _ _ _ _ _).trans rfl
  · rfl

theorem roadView_goEffect {p : Port} {g : GoTarget} {s t : State} (h : goEffect p g s = some t) : roadView t = roadView s := by
  have started : roadView (goStart g s) = roadView s := by
    unfold goStart
    repeat' split
    all_goals rfl
  match hk : goEntry g s.mode with
  | none => rw [goEffect_none p hk] at h; cases h
  | some (some m) =>
    rw [goEffect_entry p hk] at h
    rw [← Option.some.inj h, goTo, roadView_takeModeChange, started]
  | some none =>
    rcases goEffect_stay p hk with ⟨-, -, e⟩ | ⟨-, -, e⟩ | ⟨-, -, e⟩ | ⟨-, -, e⟩
    all_goals
      rw [e] at h
      rw [← Option.some.inj h]
    · rfl
    · exact (roadView_settleReadiness _).trans rfl

@[simp] theorem roadView_endWindow (s : State) : roadView (endWindow s) = roadView s := by
  unfold endWindow
  dsimp only
  rw [roadView_settleReadiness, roadView_blocksSee]
  split
  · exact (roadView_changeMode _ _ _ _).trans rfl
  · rfl

@[simp] theorem roadView_matchStop (s : State) : roadView (matchStop s) = roadView s := by
  unfold matchStop
  dsimp only
  split
  · rfl
  · rw [roadView_settleReadiness, roadView_blocksSee, roadView_appendEvent, roadView_changeMode]
    rfl

/-! ### What an invariant of the road owes -/

/-- The operations that write what `roadView` shows, each keeping `P`. A predicate with these fields is kept by every step
(`step_keeps_road`). -/
structure KeptOnRoad (P : State → Prop) : Prop where
  view : ∀ {s}, P s → ∀ {t}, roadView t = roadView s → P t
  reset : ∀ s, P (resetFrom s)
  load : ∀ image s, P s → P (settleTravel (applyImage image s))
  edge : ∀ s, P s → P (countEdge s)
  scale : ∀ v s, P s → P (writePulsesPerMetre v s)
  job : ∀ header (w : Word) s, header.start = w.toInt → P s → P (restartTravel header.start { s with job := header })
  jogStarts : ∀ d dir n s, s.estop = false → (s.analog.ext.get d).fault = false → dir ≠ .none → 0 < n → P s →
    P (startWidthJog d dir n s)
  jogEnds : ∀ cause d s, P s → P (endWidthJog cause d s)
  latch : ∀ s, P s → P (endWidthJogs .eStop { s with estop := true })
  release : ∀ s, P s → P (releaseEstop s)
  conversion : ∀ d r s, P s → P (extConversion d (setAnalog (.ext d) r s))
  elapse : ∀ s, P s → P (elapse s)

variable {P : State → Prop}

/-! ### Writes (R171) -/

/-- A write other than of the pulses per metre leaves the road. -/
theorem roadView_applySetting {x : Setting} (h : x ≠ .pulsesPerMetre) (v : Int) (s : State) :
    roadView (applySetting x v s) = roadView s := by
  have stored : roadView (storeOnly x v s) = roadView s := by
    cases x with
    | pulsesPerMetre => exact absurd rfl h
    | zoneSetpoint z k => cases k <;> rfl
    | sideSetpoint d k => cases k <;> rfl
    | gain k p => cases k <;> rfl
    | slotParam k p => cases k <;> cases p <;> rfl
    | screed k => cases k <;> rfl
    | input i p => cases p <;> rfl
    | _ => rfl
  cases x with
  | pulsesPerMetre => exact absurd rfl h
  | readinessBand | extThreshold | screed _ => exact (roadView_settleReadiness _).trans stored
  | zoneSetpoint z k =>
    simp only [applySetting, writeZoneSetpoint]
    split
    · rfl
    · rw [roadView_settleReadiness, roadView_of_heat (hideHeat_reselect _ _), stored]
  | exclude z =>
    simp only [applySetting, writeExcludeFlag]
    split
    · rfl
    · rw [roadView_settleReadiness]
      unfold writeExclude excludeZone
      dsimp only
      repeat' split
      · rfl
      · rfl
      · exact (roadView_of_heat ((hideHeat_setZone _ _ _).trans (hideHeat_leaveTo _ _ _))).trans rfl
      · exact (roadView_of_heat (hideHeat_enterHeating z _)).trans rfl
      · rfl
  | slotParam k p =>
    simp only [applySetting, writeSlotParam]
    split
    · rfl
    · cases k <;> exact stored
  | levelSetpoint c =>
    simp only [applySetting, writeLevelSetpoint]
    split <;> exact stored
  | standbyCode =>
    simp only [applySetting, writeStandbyCode]
    split <;> rfl
  | matCapacity =>
    simp only [applySetting, changeBoundary]
    split
    · rfl
    · exact (roadView_appendEvent _ _ _).trans rfl
  | input i p =>
    cases p with
    | debounce => exact stored
    | mode =>
      cases i with
      | feedback z =>
        exact (roadView_settleReadiness _).trans ((roadView_of_heat (hideHeat_feedbackChange z _)).trans stored)
      | travelPulse | travelDir | estop => exact stored
  | _ => exact stored

theorem applySetting_keeps_road (K : KeptOnRoad P) (x : Setting) (v : Int) {s : State} (h : P s) : P (applySetting x v s) := by
  by_cases hx : x = .pulsesPerMetre
  · subst hx
    exact K.scale v s h
  · exact K.view h (roadView_applySetting hx v s)

theorem serveWrite_keeps_road (K : KeptOnRoad P) (p : Port) (x : Setting) (v : Word) {s : State} (h : P s) :
    P (serveWrite p x v s).1 := by
  unfold serveWrite serveSetpoint serveConfiguration
  repeat' split
  all_goals first | exact h | exact applySetting_keeps_road K x _ h

theorem serveSlotWrite_keeps_road (K : KeptOnRoad P) (p : Port) (slot : Slot) (param : SlotParam) (v : Word) {s : State}
    (h : P s) : P (serveSlotWrite p slot param v s).1 := by
  unfold serveSlotWrite
  split
  · exact h
  · exact serveWrite_keeps_road K p _ v h

theorem serveSetItem_keeps_road (K : KeptOnRoad P) (p : Port) (group : Byte) (index : Half) (v : Word) {s : State} (h : P s) :
    P (serveSetItem p group index v s).1 := by
  unfold serveSetItem
  repeat' split
  all_goals first | exact h | exact serveWrite_keeps_road K p _ v h

/-! ### Authority (R166 to R169) -/

theorem endJogsUnder_keeps_road (K : KeptOnRoad P) (f : Function) {s : State} (h : P s) : P (endJogsUnder f s) := by
  cases f with
  | grade d => exact K.view h (roadView_of_sides (hideSides_endGradeJog d .authority s))
  | feed d =>
    cases d <;>
      exact K.view h ((roadView_of_feeds (hideFeeds_endFeedJog _ _ _)).trans (roadView_of_feeds (hideFeeds_endFeedJog _ _ _)))
  | width d => exact K.jogEnds .authority d s h
  | mode | heat | records => exact h

theorem serveTake_keeps_road (K : KeptOnRoad P) (p : Port) (function override : Byte) {s : State} (h : P s) :
    P (serveTake p function override s).1 := by
  have taken (f : Function) : P (endJogsUnder f (setHolder f (some .oc) s)) := endJogsUnder_keeps_road K f (K.view h rfl)
  unfold serveTake takeOver
  repeat' split
  all_goals first | exact h | exact K.view h rfl | exact K.view (taken _) (roadView_appendEvent _ _ _)

theorem serveRelease_keeps_road (K : KeptOnRoad P) (p : Port) (function : Byte) {s : State} (h : P s) :
    P (serveRelease p function s).1 := by
  unfold serveRelease
  split
  · exact h
  · rename_i f _
    have freed : P (endJogsUnder f (setHolder f none s)) := endJogsUnder_keeps_road K f (K.view h rfl)
    split
    · exact h
    · dsimp only [done]
      split
      · exact K.view freed (roadView_modeFreed _)
      · exact freed

theorem loseFunction_keeps_road (K : KeptOnRoad P) (p : Port) (f : Function) {s : State} (h : P s) : P (loseFunction p s f) := by
  have freed : P (endJogsUnder f (setHolder f none s)) := endJogsUnder_keeps_road K f (K.view h rfl)
  unfold loseFunction
  split
  · exact K.view freed (roadView_appendEvent _ _ _)
  · exact h

theorem loseEach_keeps_road (K : KeptOnRoad P) (p : Port) (fs : List Function) {s : State} (h : P s) :
    P (fs.foldl (loseFunction p) s) := by
  induction fs generalizing s with
  | nil => exact h
  | cons f fs ih => exact ih (loseFunction_keeps_road K p f h)

theorem linkSilent_keeps_road (K : KeptOnRoad P) (p : Port) {s : State} (h : P s) : P (linkSilent p s) := by
  have lost := loseEach_keeps_road K p allFunctions (s := setPort p { s.ports.get p with up := false } s) (K.view h rfl)
  unfold linkSilent loseAll
  dsimp only
  split
  · exact K.view lost (roadView_modeFreed _)
  · exact lost

/-! ### Requests -/

theorem jogDuration_pos (top : Nat) (duration : Byte) : 0 < jogDuration top duration := by
  unfold jogDuration
  omega

theorem serveJogWidth_keeps_road (K : KeptOnRoad P) (p : Port) (d : Side) (direction duration : Byte) {s : State} (h : P s) :
    P (serveJogWidth p d direction duration s).1 := by
  unfold serveJogWidth
  split
  · exact h
  · split
    · exact h
    · rename_i dir hdir
      split
      · exact h
      · rename_i hfree
        obtain ⟨hestop, hfault, -⟩ : s.estop = false ∧ (s.analog.ext.get d).fault = false ∧ _ := by
          simpa only [not_or, Bool.not_eq_true] using hfree
        have named : dir ≠ .none := by
          rintro rfl
          unfold widthDirOfByte at hdir
          split at hdir
          · cases hdir
          · split at hdir <;> cases hdir
        exact K.jogStarts d dir _ s hestop hfault named (jogDuration_pos 50 duration) h

theorem roadView_serveJogGrade (p : Port) (d : Side) (direction duration : Byte) (s : State) :
    roadView (serveJogGrade p d direction duration s).1 = roadView s := by
  unfold serveJogGrade
  repeat' split
  all_goals first | rfl | exact roadView_of_sides (hideSides_startGradeJog _ _ _ s)

theorem roadView_serveJogFeed (p : Port) (c : FeedChannel) (duration : Byte) (s : State) :
    roadView (serveJogFeed p c duration s).1 = roadView s := by
  unfold serveJogFeed
  repeat' split
  all_goals first | rfl | exact roadView_of_feeds (hideFeeds_startFeedJog _ _ s)

theorem serveJog_keeps_road (K : KeptOnRoad P) (p : Port) (target direction duration : Byte) {s : State} (h : P s) :
    P (serveJog p target direction duration s).1 := by
  unfold serveJog
  split
  · exact K.view h (roadView_serveJogGrade p .left direction duration s)
  · exact K.view h (roadView_serveJogGrade p .right direction duration s)
  · exact K.view h (roadView_serveJogFeed p .convL duration s)
  · exact K.view h (roadView_serveJogFeed p .convR duration s)
  · exact K.view h (roadView_serveJogFeed p .augL duration s)
  · exact K.view h (roadView_serveJogFeed p .augR duration s)
  · exact serveJogWidth_keeps_road K p .left direction duration h
  · exact serveJogWidth_keeps_road K p .right direction duration h
  · exact h

theorem roadView_serveGo (p : Port) (target : Byte) (s : State) : roadView (serveGo p target s).1 = roadView s := by
  unfold serveGo
  repeat' split
  all_goals first | rfl | exact roadView_goEffect (by assumption)

theorem roadView_serveSideMode (p : Port) (side target : Byte) (s : State) :
    roadView (serveSideMode p side target s).1 = roadView s := by
  unfold serveSideMode
  dsimp only
  repeat' split
  all_goals first | rfl | exact roadView_of_sides (hideSides_changeSide _ _ s)

theorem roadView_serveSetReference (p : Port) (side : Byte) (s : State) :
    roadView (serveSetReference p side s).1 = roadView s := by
  unfold serveSetReference
  dsimp only
  repeat' split
  all_goals rfl

theorem roadView_serveFeedMode (p : Port) (channel target : Byte) (s : State) :
    roadView (serveFeedMode p channel target s).1 = roadView s := by
  unfold serveFeedMode
  dsimp only
  repeat' split
  all_goals first | rfl | exact roadView_of_feeds (hideFeeds_changeFeed _ _ s)

theorem roadView_serveClearFault (p : Port) (zone : Byte) (s : State) : roadView (serveClearFault p zone s).1 = roadView s := by
  unfold serveClearFault
  repeat' split
  all_goals first | rfl | exact (roadView_settleReadiness _).trans (roadView_of_heat (hideHeat_clearLatch _ p s))

theorem roadView_serveClearHealth (p : Port) (zone : Byte) (s : State) : roadView (serveClearHealth p zone s).1 = roadView s := by
  unfold serveClearHealth
  repeat' split
  all_goals first | rfl | exact roadView_of_heat (hideHeat_clearHealthOf _ p s)

theorem roadView_serveMark (p : Port) (code : Byte) (s : State) : roadView (serveMark p code s).1 = roadView s := by
  unfold serveMark
  repeat' split
  all_goals rfl

/-- R157: a job begins with the odometer; the interval and the record leave the road. -/
theorem beginJob_keeps_road (K : KeptOnRoad P) (p : Port) (road : List Byte) (lane : Nat) (layer : Layer) (start : Word) {s : State}
    (h : P s) : P (beginJob p road lane layer start.toInt s) := by
  have begun := K.job { number := nextJobNumber s.job.number, road := road, lane := lane, layer := layer, start := start.toInt }
    start s rfl h
  exact K.view begun (roadView_appendEvent _ _ _)

theorem serveRoadJob_keeps_road (K : KeptOnRoad P) (p : Port) (road : List Byte) (lane layer : Byte) (start : Word) {s : State}
    (h : P s) : P (serveRoadJob p road lane layer start s).1 := by
  unfold serveRoadJob serveWriteJob
  repeat' split
  all_goals first | exact h | exact beginJob_keeps_road K p road _ _ _ h

theorem roadView_serveAckRecords (p : Port) (area : Byte) (sequence : Word) (s : State) :
    roadView (serveAckRecords p area sequence s).1 = roadView s := by
  unfold serveAckRecords
  repeat' split
  all_goals rfl

theorem roadView_serveSetClock (p : Port) (day : Half) (hour minute second : Byte) (s : State) :
    roadView (serveSetClock p day hour minute second s).1 = roadView s := by
  unfold serveSetClock
  split
  · rfl
  · exact (roadView_appendEvent _ _ _).trans rfl

theorem roadView_serveStoreSettings (p : Port) (s : State) : roadView (serveStoreSettings p s).1 = roadView s := by
  unfold serveStoreSettings
  repeat' split
  all_goals rfl

theorem serveRequest_keeps_road (K : KeptOnRoad P) (p : Port) (q : Request) {s : State} (h : P s) : P (serveRequest p q s).1 := by
  cases q with
  | status => exact h
  | readItem g f n => exact (serveReadItem_state g f n s).symm ▸ h
  | setItem g i v => exact serveSetItem_keeps_road K p g i v h
  | take f o => exact serveTake_keeps_road K p f o h
  | release f => exact serveRelease_keeps_road K p f h
  | go g => exact K.view h (roadView_serveGo p g s)
  | sideMode d g => exact K.view h (roadView_serveSideMode p d g s)
  | setReference d => exact K.view h (roadView_serveSetReference p d s)
  | jog g d n => exact serveJog_keeps_road K p g d n h
  | feedMode c g => exact K.view h (roadView_serveFeedMode p c g s)
  | clearFault z => exact K.view h (roadView_serveClearFault p z s)
  | clearHealth z => exact K.view h (roadView_serveClearHealth p z s)
  | mark c => exact K.view h (roadView_serveMark p c s)
  | writeJob r l y n => exact serveRoadJob_keeps_road K p r l y n h
  | readRecords a n c => exact (serveReadRecords_state a n c s).symm ▸ h
  | ackRecords a n => exact K.view h (roadView_serveAckRecords p a n s)
  | setClock a b c d => exact K.view h (roadView_serveSetClock p a b c d s)
  | storeSettings => exact K.view h (roadView_serveStoreSettings p s)

/-! ### Lines -/

/-- A frame taken by a port keeps what its service keeps. -/
theorem takeFrame_keeps_road (K : KeptOnRoad P) {p : Port} {kind tag : Byte} {serve : State → Served}
    (hs : ∀ s, P s → P (serve s).1) {s : State} (h : P s) : P (takeFrame p kind tag serve s) := by
  rcases hidePorts_takeFrame p kind tag serve s with e | e
  · exact K.view h (roadView_of_ports e)
  · exact K.view (hs (openRequest p kind tag (hearFrame p s)) (K.view h rfl)) (roadView_of_ports e)

theorem takeRawFrame_keeps_road (K : KeptOnRoad P) (p : Port) (kind tag : Byte) (payload : List Byte) {s : State} (h : P s) :
    P (takeRawFrame p kind tag payload s) := by
  refine takeFrame_keeps_road K (fun s h => ?_) h
  unfold serveFrame
  split
  · exact h
  · exact serveRequest_keeps_road K p _ h

theorem takeFrameBytes_keeps_road (K : KeptOnRoad P) (p : Port) (body : List Byte) {s : State} (h : P s) :
    P (takeFrameBytes p body s) := by
  unfold takeFrameBytes
  split
  · exact takeRawFrame_keeps_road K p _ _ _ h
  · exact h

/-- R161: the receiver of a port, whatever frames its bytes make. -/
theorem receive_keeps_road (K : KeptOnRoad P) (p : Port) (n : Nat) (bytes : List Byte) {s : State} (h : P s) :
    P (receive p n bytes s) := by
  induction n generalizing bytes s with
  | zero => exact h
  | succ n ih =>
    cases bytes with
    | nil => exact h
    | cons b rest =>
      unfold receive
      dsimp only
      repeat' split
      all_goals
        first
        | exact K.view h rfl
        | exact ih _ (takeFrameBytes_keeps_road K p _ h)
        | exact ih _ (K.view h rfl)

theorem receiveBytes_keeps_road (K : KeptOnRoad P) (p : Port) (bytes : List Byte) {s : State} (h : P s) :
    P (receiveBytes p bytes s) := by
  unfold receiveBytes
  dsimp only
  repeat' split
  all_goals first | exact h | exact receive_keeps_road K p _ _ (K.view h rfl)

theorem roadView_takeScanLine (n : Half) (px : List Half) (s : State) : roadView (takeScanLine n px s) = roadView s := by
  unfold takeScanLine accumulate
  repeat' split
  all_goals rfl

theorem roadView_takePollReply (a b : Byte) (n : Half) (s : State) : roadView (takePollReply a b n s) = roadView s := by
  unfold takePollReply
  repeat' split
  all_goals first | rfl | exact roadView_of_round (hideRound_completePoll _ s)

theorem roadView_takeSensorFrame (kind : Byte) (body : List Byte) (s : State) : roadView (takeSensorFrame kind body s) = roadView s := by
  unfold takeSensorFrame
  repeat' split
  all_goals first | rfl | exact roadView_takeScanLine _ _ s | exact roadView_takePollReply _ _ _ s

/-- R185: nothing on the sensor line reaches the odometer or the extensions. -/
theorem roadView_receiveSensor (n : Nat) (bytes : List Byte) (s : State) : roadView (receiveSensor n bytes s) = roadView s := by
  induction n generalizing bytes s with
  | zero => rfl
  | succ n ih =>
    cases bytes with
    | nil => rfl
    | cons b rest =>
      unfold receiveSensor
      repeat' split
      all_goals first | rfl | exact ih _ s | exact (ih _ _).trans (roadView_takeSensorFrame _ _ s)

theorem roadView_receiveSensorBytes (bytes : List Byte) (s : State) : roadView (receiveSensorBytes bytes s) = roadView s := by
  unfold receiveSensorBytes
  repeat' split
  all_goals first | rfl | exact (roadView_receiveSensor _ _ _).trans rfl

/-! ### Events -/

theorem roadView_endStoreWrite (a b : Bool) (s : State) : roadView (endStoreWrite a b s) = roadView s := by
  unfold endStoreWrite
  split
  · rfl
  · split
    · exact (roadView_of_ports (hidePorts_answerPort _ _ _)).trans rfl
    · exact (roadView_appendEvent _ _ _).trans ((roadView_of_ports (hidePorts_answerPort _ _ _)).trans rfl)

theorem convert_keeps_road (K : KeptOnRoad P) (a : AnalogChannel) (raw : BitVec 12) {s : State} (h : P s) :
    P (convert a raw s) := by
  cases a with
  | temp z =>
    exact K.view h ((roadView_settleReadiness _).trans ((roadView_of_heat (hideHeat_zoneConversion z _)).trans rfl))
  | ext d => exact K.view (K.conversion d _ s h) (roadView_settleReadiness _)
  | level c => exact K.view h ((roadView_of_feeds (hideFeeds_feedConversion c _)).trans rfl)

/-- R16: what the latch does beyond the width jogs leaves the road. -/
theorem roadView_assertEstop (s : State) :
    roadView (assertEstop s) = roadView (endWidthJogs .eStop { s with estop := true }) := by
  unfold assertEstop
  dsimp only
  split
  · rfl
  · rw [roadView_of_feeds (hideFeeds_eachFeed _ (hideFeeds_forceFeedOff .eStop) _)]
    exact (roadView_of_sides (hideSides_forceSideOff _ _ _)).trans (roadView_of_sides (hideSides_forceSideOff _ _ _))
  · exact (roadView_takeModeChange _ _ _ _ _).trans rfl

theorem consumeLevel_keeps_road (K : KeptOnRoad P) (i : DigitalInput) (level : Bool) {s : State} (h : P s) :
    P (consumeLevel i level s) := by
  cases i with
  | travelPulse =>
    simp only [consumeLevel]
    split
    · exact K.edge s h
    · exact h
  | travelDir => exact h
  | estop =>
    simp only [consumeLevel]
    split
    · exact K.view (K.latch s h) (roadView_assertEstop s)
    · exact K.release s h
  | feedback z => exact K.view h ((roadView_settleReadiness _).trans (roadView_of_heat (hideHeat_feedbackChange z s)))

theorem takeLevel_keeps_road (K : KeptOnRoad P) (i : DigitalInput) {s : State} (h : P s) : P (takeLevel i s) := by
  have taken : P (setInput i { s.inputs.get i with debounced := (s.inputs.get i).pin, timer := none } s) := K.view h rfl
  unfold takeLevel
  dsimp only
  split
  · exact taken
  · exact consumeLevel_keeps_road K i _ taken

theorem changePin_keeps_road (K : KeptOnRoad P) (i : DigitalInput) (level : Bool) {s : State} (h : P s) :
    P (changePin i level s) := by
  unfold changePin
  dsimp only
  repeat' split
  · exact h
  · exact takeLevel_keeps_road K i (K.view h rfl)
  · exact K.view h rfl

/-- R5, R6: start-up computes the station of a loaded image, and leaves the road otherwise. -/
theorem completeLoad_keeps_road (K : KeptOnRoad P) (b : Bool) {s : State} (h : P s) : P (completeLoad b s) := by
  unfold completeLoad
  split
  · have noted (image : Option SettingsImage) : P (noteOutcome image s) := by
      unfold noteOutcome
      cases image with
      | none => exact K.view h ((roadView_appendEvent _ _ _).trans rfl)
      | some i => exact K.view (K.load i s h) rfl
    dsimp only
    refine K.view (noted (loadedImage b s.store.array)) ?_
    rw [roadView_of_round (hideRound_startRound _), roadView_blocksSee, roadView_changeMode]
    exact (roadView_appendEvent _ _ _).trans rfl
  · exact h

/-! ### Every command, every step -/

theorem exec_keeps_road (K : KeptOnRoad P) {c : Instr} {s t : State} (h : P s) (e : exec c s = .next t) : P t := by
  have request {p k tag} {serve : State → Served} (hs : ∀ s, P s → P (serve s).1) (e : takeRequest p k tag serve s = t) : P t :=
    e ▸ takeFrame_keeps_road K hs h
  have quiet {p k tag} {serve : State → Served} (hs : ∀ s, roadView (serve s).1 = roadView s)
      (e : takeRequest p k tag serve s = t) : P t :=
    request (fun s h => K.view h (hs s)) e
  have write {p tag x v} (e : takeRequest p .setItem tag (serveWrite p x v) s = t) : P t :=
    request (fun _ => serveWrite_keeps_road K p x v) e
  have timed {b : Bool} {act : State → State} (e : atMoment b act s = t) (hs : roadView (act s) = roadView s) : P t :=
    e ▸ atMoment_keeps (fun _ => K.view h hs) h
  cases c <;> (injection e with e)
  case reset => exact e ▸ K.reset s
  case settingsLoadComplete b => exact e ▸ completeLoad_keeps_road K b h
  case frameError p bytes => exact e ▸ receiveBytes_keeps_road K p bytes h
  case frameGapExpiry p => exact timed e rfl
  case linkDown p => exact e ▸ atMoment_keeps (fun _ => linkSilent_keeps_road K p h) h
  case busy p kind tag payload => exact e ▸ takeRawFrame_keeps_road K p kind tag payload h
  case unknownRequest p kind tag payload => exact e ▸ takeRawFrame_keeps_road K p kind tag payload h
  case replySent p => exact e ▸ K.view h rfl
  case status p tag => exact request (fun _ h => h) e
  case readItem p tag g f n => exact request (fun s h => (serveReadItem_state g f n s).symm ▸ h) e
  case setItem p tag g i v => exact request (fun _ => serveSetItem_keeps_road K p g i v) e
  case setSlotAddressWeight p tag x a v => exact request (fun _ => serveSlotWrite_keeps_road K p x a v) e
  case take p tag f o => exact request (fun _ => serveTake_keeps_road K p f o) e
  case release p tag f => exact request (fun _ => serveRelease_keeps_road K p f) e
  case go p tag g => exact quiet (roadView_serveGo p g) e
  case sideMode p tag d g => exact quiet (roadView_serveSideMode p d g) e
  case setReference p tag d => exact quiet (roadView_serveSetReference p d) e
  case jogGrade p tag d a n => exact quiet (roadView_serveJogGrade p d a n) e
  case jogFeed p tag c a n => exact quiet (roadView_serveJogFeed p c n) e
  case jogWidth p tag d a n => exact request (fun _ => serveJogWidth_keeps_road K p d a n) e
  case feedMode p tag c g => exact quiet (roadView_serveFeedMode p c g) e
  case clearFault p tag z => exact quiet (roadView_serveClearFault p z) e
  case clearHealth p tag z => exact quiet (roadView_serveClearHealth p z) e
  case mark p tag n => exact quiet (roadView_serveMark p n) e
  case writeJob p tag r l y n => exact request (fun _ => serveRoadJob_keeps_road K p r l y n) e
  case readRecords p tag a n k => exact request (fun s h => (serveReadRecords_state a n k s).symm ▸ h) e
  case ackRecords p tag a n => exact quiet (roadView_serveAckRecords p a n) e
  case setClock p tag a b c d => exact quiet (roadView_serveSetClock p a b c d) e
  case storeSettings p tag => exact quiet (roadView_serveStoreSettings p) e
  case storeWriteEnd a b => exact e ▸ K.view h (roadView_endStoreWrite a b s)
  case analogConversion a raw => exact e ▸ convert_keeps_road K a raw h
  case feedHoldExpiry c => exact timed e (roadView_of_feeds (hideFeeds_expireHold c s))
  case pinChange i l => exact e ▸ changePin_keeps_road K i l h
  case debounceExpiry i => exact e ▸ atMoment_keeps (fun _ => takeLevel_keeps_road K i h) h
  case elementCheckDelayEnd z =>
    exact timed e ((roadView_settleReadiness _).trans (roadView_of_heat (hideHeat_checkDelayEnd z s)))
  case sliceExpiry z => exact timed e ((roadView_settleReadiness _).trans (roadView_of_heat (hideHeat_expireSlice z s)))
  case speedWindowEnd => exact timed e (roadView_endWindow s)
  case pauseDetectorFire => exact timed e (roadView_takeModeChange _ _ _ _ s)
  case stopTimerMatch => exact timed e (roadView_matchStop s)
  case clockStep => exact timed e rfl
  case widthJogExpiry d => exact e ▸ atMoment_keeps (fun _ => K.jogEnds .expiry d s h) h
  case gradeJogExpiry d => exact timed e (roadView_of_sides (hideSides_endGradeJog d _ s))
  case feedJogExpiry c => exact timed e (roadView_of_feeds (hideFeeds_endFeedJog _ c s))
  case sensorRoundStart => exact timed e (roadView_of_round (hideRound_startRound s))
  case pollReply a b n => exact e ▸ K.view h ((roadView_takePollReply a b n _).trans rfl)
  case pollTimeout => exact timed e (roadView_of_round (hideRound_completePoll _ s))
  case sensorFrameDiscard bytes => exact e ▸ K.view h (roadView_receiveSensorBytes bytes s)
  case sensorFrameGapExpiry => exact timed e rfl
  case scanLine n px => exact e ▸ K.view h ((roadView_takeScanLine n px _).trans rfl)
  case scanner => exact timed e ((roadView_appendEvent _ _ _).trans rfl)
  case heatingMinute z => exact timed e rfl
  all_goals exact write e

/-- What these operations keep, every step keeps. -/
theorem step_keeps_road (K : KeptOnRoad P) {s t : State} (h : P s) (e : step s = .next t) : P t := by
  unfold step at e
  split at e
  · injection e with e
    exact e ▸ K.view (K.elapse s h) rfl
  · rename_i c rest _
    exact exec_keeps_road K (s := { s with pending := rest }) (K.view h rfl) e

/-! ### The odometer (R22, R23) -/

theorem travelSound_iff (s : State) :
    travelSound s = true ↔ s.travel.station = presentStation s ∧ s.travel.station ≤ s.travel.highWater := by
  simp [travelSound]

theorem travelSound_of_view {s t : State} (h : travelSound s = true) (e : roadView t = roadView s) : travelSound t = true :=
  (congrArg travelSound e).trans h

/-- The travel rules read nothing of the geometry unit or the zones. -/
theorem travelSound_of_geometry {s t : State} (h : travelSound s = true) (e : hideGeometry t = hideGeometry s) :
    travelSound t = true :=
  (congrArg travelSound e).trans h

/-- R22, R23: where the station value has just been computed the travel rules hold. -/
theorem computeStation_travelSound (s : State) : travelSound (computeStation s) = true := by
  rw [travelSound_iff]
  exact ⟨rfl, le_max_right _ _⟩

/-- R133: what the profiler makes of a rise leaves the road. -/
theorem roadView_highWaterRose (s : State) : roadView (highWaterRose s) = roadView s := by
  unfold highWaterRose closeInterval appendProfile noteMatLoss
  repeat' split
  all_goals first | rfl | exact (roadView_appendEvent _ _ _).trans rfl

theorem moveStation_travelSound (s : State) : travelSound (moveStation s) = true := by
  unfold moveStation
  dsimp only
  split
  · exact travelSound_of_view (computeStation_travelSound s) (roadView_highWaterRose _)
  · exact computeStation_travelSound s

/-- R22, R157: a start station, which is a signed 32-bit number, is the station value of the count 0. -/
theorem stationOf_zero (w : Word) (pulsesPerMetre : Int) : stationOf w.toInt 0 pulsesPerMetre = w.toInt := by
  have low := BitVec.le_toInt w
  have high := BitVec.toInt_lt (x := w)
  simp only [stationOf, zero_mul, Int.zero_tdiv, add_zero]
  exact clamp_eq_self (by simpa [minS32] using low) (by simp only [maxS32]; omega)

theorem restartTravel_travelSound {header : JobHeader} {w : Word} (s : State) (h : header.start = w.toInt) :
    travelSound (restartTravel header.start { s with job := header }) = true := by
  rw [travelSound_iff]
  refine ⟨?_, le_refl _⟩
  have e := stationOf_zero w s.settings.pulsesPerMetre
  rw [← h] at e
  exact e.symm

theorem travelSound_kept : KeptOnRoad (fun s => travelSound s = true) where
  view h _ e := travelSound_of_view h e
  reset s := rfl
  load image s _ := travelSound_of_view (computeStation_travelSound (applyImage image s)) rfl
  edge s _ := moveStation_travelSound _
  scale v s _ := travelSound_of_view (moveStation_travelSound (storeOnly .pulsesPerMetre v s)) rfl
  job _ _ s e _ := restartTravel_travelSound s e
  jogStarts d dir n s _ _ _ _ h := travelSound_of_geometry h (hideGeometry_startWidthJog d dir n s)
  jogEnds cause d s h := travelSound_of_geometry h (hideGeometry_endWidthJog cause d s)
  latch s h := by
    rw [endWidthJogs_eq]
    exact h
  release s h := h
  conversion d r s h :=
    travelSound_of_geometry (s := setAnalog (.ext d) r s) h (hideGeometry_extConversion d (setAnalog (.ext d) r s))
  elapse s h := h

/-! ### The extensions (R32, R34, R36) -/

/-- R32, R34, R36: what holds of an extension record under an e-stop latch and a channel's condition. -/
def extensionFits (estop fault : Bool) (r : Extension) : Prop :=
  0 ≤ r.position ∧ r.position ≤ 2500 ∧ r.stale = fault ∧ (r.jogDir = .none ↔ r.jogLeft = 0)
    ∧ (r.jogDir ≠ .none → estop = false ∧ fault = false)

theorem extensionSound_iff (s : State) (d : Side) :
    extensionSound s d = true ↔ extensionFits s.estop (s.analog.ext.get d).fault (s.geometry.get d) := by
  simp only [extensionSound, extensionFits, Bool.and_eq_true, Bool.or_eq_true, decide_eq_true_eq, Bool.not_eq_true',
    decide_eq_decide]
  grind

theorem geometrySound_iff (s : State) :
    geometrySound s = true ↔ ∀ d, extensionFits s.estop (s.analog.ext.get d).fault (s.geometry.get d) := by
  simp only [geometrySound, Bool.and_eq_true, extensionSound_iff]
  exact ⟨fun h d => by cases d; exacts [h.1, h.2], fun h => ⟨h .left, h .right⟩⟩

theorem geometrySound_of_view {s t : State} (h : geometrySound s = true) (e : roadView t = roadView s) : geometrySound t = true :=
  (congrArg geometrySound e).trans h

/-- The extension rules read nothing of the odometer or the profiler. -/
theorem geometrySound_of_travel {s t : State} (h : geometrySound s = true) (e : hideTravel t = hideTravel s) :
    geometrySound t = true :=
  (congrArg geometrySound e).trans h

/-- One side's record written with one that fits, the latch and the channels as they were. -/
theorem geometrySound_set {s : State} {d : Side} {r : Extension} (h : geometrySound s = true)
    (hr : extensionFits s.estop (s.analog.ext.get d).fault r) :
    geometrySound { s with geometry := s.geometry.set d r } = true := by
  rw [geometrySound_iff] at h ⊢
  intro y
  dsimp only
  rw [PerSide.get_set]
  split
  · rename_i hy
    exact hy ▸ hr
  · exact h y

/-- R34: a width jog starts from a record whose jog has been replaced. -/
theorem startWidthJog_eq (d : Side) (dir : WidthDir) (n : Nat) (s : State) :
    startWidthJog d dir n s
      = { s with
          geometry := s.geometry.set d
            { jogEnded .replaced (s.geometry.get d) with jogDir := dir, jogLeft := n, jogMs := 0 } } := by
  unfold startWidthJog
  dsimp only
  rw [endWidthJog_eq]
  simp [setExtension]

/-- A record without a jog fits under the latch as well. -/
theorem jogEnded_fits {estop fault : Bool} {r : Extension} (cause : WidthEnd) (h : extensionFits estop fault r) (latched : Bool) :
    extensionFits latched fault (jogEnded cause r) := by
  obtain ⟨low, high, stale, left, -⟩ := h
  unfold jogEnded
  split
  · rename_i hj
    exact ⟨low, high, stale, left, fun hn => absurd hj hn⟩
  · exact ⟨low, high, stale, by simp, fun hn => absurd rfl hn⟩

/-- R35: one millisecond of a jog. -/
theorem elapseExtension_fits {estop fault : Bool} {r : Extension} (h : extensionFits estop fault r) :
    extensionFits estop fault (elapseExtension r) := by
  obtain ⟨low, high, stale, left, free⟩ := h
  refine ⟨low, high, stale, left.trans ?_, free⟩
  simp only [elapseExtension, countDown]
  repeat' split
  all_goals (dsimp only; omega)

/-- R32, R35, R36: an extension record after a conversion of its channel. -/
def converted (a : Analog) (r : Extension) : Extension :=
  if a.fault then { jogEnded .fault r with stale := true }
  else
    let moved := { r with position := clamp 0 2500 a.value, stale := false }
    if atSoftLimit r.jogDir (clamp 0 2500 a.value) then jogEnded .limit moved else moved

theorem converted_fits {estop fault : Bool} {r : Extension} (a : Analog) (h : extensionFits estop fault r) :
    extensionFits estop a.fault (converted a r) := by
  unfold converted
  cases ha : a.fault
  · obtain ⟨-, -, -, left, free⟩ := h
    have moved : extensionFits estop false { r with position := clamp 0 2500 a.value, stale := false } :=
      ⟨le_clamp, clamp_le (by decide), rfl, left, fun hn => ⟨(free hn).1, rfl⟩⟩
    simp only [Bool.false_eq_true, if_false]
    split
    · exact jogEnded_fits .limit moved estop
    · exact moved
  · have ended : (jogEnded .fault r).jogDir = .none := ((jogsEnded_get .fault ⟨r, r⟩ .left).1)
    obtain ⟨low, high, -, left, -⟩ := jogEnded_fits .fault h estop
    exact ⟨low, high, rfl, left, fun hn => absurd ended hn⟩

theorem geometry_of_heat {s t : State} (h : hideHeat t = hideHeat s) : t.geometry = s.geometry := by
  have e := congrArg State.geometry h; exact e

/-- R32: what a conversion leaves in the geometry unit. -/
theorem roadView_extConversion (d : Side) (s : State) :
    roadView (extConversion d s)
      = roadView { s with geometry := s.geometry.set d (converted (s.analog.ext.get d) (s.geometry.get d)) } := by
  unfold extConversion converted
  cases hf : (s.analog.ext.get d).fault
  · simp only [Bool.false_eq_true, if_false]
    rw [roadView_of_heat (hideHeat_reselect _ _)]
    split
    · rw [endWidthJog_eq]
      simp [setExtension]
    · rfl
  · simp only [if_true, becomeStale]
    rw [endWidthJog_eq]
    dsimp only
    rw [PerSide.get_set_same]
    split
    · rename_i hs
      rw [← hs]
    · refine (roadView_appendEvent _ _ _).trans ?_
      simp [setExtension]

theorem geometrySound_kept : KeptOnRoad (fun s => geometrySound s = true) where
  view h _ e := geometrySound_of_view h e
  reset s := rfl
  load image s h := h
  edge s h := geometrySound_of_travel h (hideTravel_countEdge s)
  scale v s h := geometrySound_of_travel (s := storeOnly .pulsesPerMetre v s) h (hideTravel_moveStation _)
  job _ _ s _ h := h
  jogStarts d dir n s he hf hd hn h := by
    obtain ⟨low, high, stale, -⟩ := jogEnded_fits .replaced ((geometrySound_iff s).mp h d) s.estop
    rw [startWidthJog_eq]
    exact geometrySound_set h ⟨low, high, stale, iff_of_false hd hn.ne', fun _ => ⟨he, hf⟩⟩
  jogEnds cause d s h := by
    rw [endWidthJog_eq]
    exact geometrySound_set h (jogEnded_fits cause ((geometrySound_iff s).mp h d) s.estop)
  latch s h := by
    rw [endWidthJogs_eq, geometrySound_iff]
    rw [geometrySound_iff] at h
    intro d
    cases d
    · exact jogEnded_fits .eStop (h .left) true
    · exact jogEnded_fits .eStop (h .right) true
  release s h := by
    rw [geometrySound_iff] at h ⊢
    intro d
    obtain ⟨low, high, stale, left, free⟩ := h d
    exact ⟨low, high, stale, left, fun hn => ⟨rfl, (free hn).2⟩⟩
  conversion d r s h := by
    refine geometrySound_of_view ?_ (roadView_extConversion d _)
    rw [geometrySound_iff] at h ⊢
    intro y
    have other (hy : y ≠ d) : ((s.analog.set (.ext d) r).ext.get y) = s.analog.ext.get y :=
      PerAnalog.get_set_other s.analog (.ext d) (.ext y) r (by simpa using hy)
    by_cases hy : y = d
    · subst hy
      simpa [setAnalog] using converted_fits _ (h y)
    · simpa [setAnalog, PerSide.get_set_other _ _ _ _ hy, other hy] using h y
  elapse s h := by
    rw [geometrySound_iff] at h ⊢
    intro d
    cases d
    · exact elapseExtension_fits (h .left)
    · exact elapseExtension_fits (h .right)

end Sys2Proof.Machine

open Sys2Proof Sys2Proof.Machine

/-- Settles O8: both rules are among what the operations of the road keep. -/
theorem travelAndGeometryRulesKept : Obligations.TravelAndGeometryRulesKept := by
  unfold Obligations.TravelAndGeometryRulesKept
  exact ⟨fun _ _ h e => step_keeps_road travelSound_kept h e, fun _ _ h e => step_keeps_road geometrySound_kept h e⟩
end

section
/-! PROOFS. The end of a speed window (R24, R26, R103, R104): O25. -/

namespace Sys2Proof.Machine

open Sys2Proof

/-! ### The sides and the run condition (R103) -/

/-- R103: of the engaged sides exactly those without the run condition are SUSPENDED. -/
def sidesFit (run : Bool) (v : PerSide SideRec) : Prop :=
  ∀ d : Side, sideEngaged (v.get d).state = true → ((v.get d).state = .suspended ↔ run = false)

theorem settledState_suspended (s : State) (d : Side) : settledState s d = .suspended ↔ runCondition s = false := by
  unfold settledState
  split
  · rename_i h
    simp [h]
  · rename_i h
    split <;> simp [h]

theorem sidesFit_of_sound {s : State} (h : sidesSound s = true) : sidesFit (runCondition s) s.sides := by
  simp only [sidesSound, Bool.and_eq_true] at h
  intro d he
  have hd : sideSound s d = true := by cases d; exacts [h.1, h.2]
  simp only [sideSound, Bool.and_eq_true, Bool.or_eq_true, Bool.not_eq_true', decide_eq_true_eq] at hd
  obtain ⟨⟨⟨hs | hs, -⟩, -⟩, -⟩ := hd
  · rw [he] at hs
    cases hs
  · rw [hs, settledState_suspended]

/-- R103: a side that has just been settled is SUSPENDED exactly without the run condition, or is not engaged. -/
theorem settleSide_fits (d : Side) (s : State) (he : sideEngaged ((settleSide d s).sides.get d).state = true) :
    ((settleSide d s).sides.get d).state = .suspended ↔ runCondition s = false := by
  rw [← settledState_suspended s d]
  unfold settleSide at he ⊢
  dsimp only at he ⊢
  split at he
  · rename_i h
    rw [if_pos h]
    rcases h with h | h
    · rw [h] at he
      cases he
    · rw [h]
  · rename_i h
    rw [if_neg h, enterSideState_sides, PerSide.get_set_same]

/-- R104: sides that fit the run condition that stood fit the one that stands. -/
theorem sidesSeeRun_fits {run : Bool} {s : State} (h : sidesFit run s.sides) :
    sidesFit (runCondition s) (sidesSeeRun run s).sides := by
  have left : runCondition (settleSide .left s) = runCondition s := runCondition_of_sides (hideSides_settleSide .left s)
  unfold sidesSeeRun
  split
  · rename_i hr
    rwa [hr]
  · intro d he
    cases d with
    | left =>
      rw [settleSide_other (by decide)] at he ⊢
      exact settleSide_fits .left s he
    | right =>
      rw [← left]
      exact settleSide_fits .right _ he

theorem travelSeesMode_speed (old : Mode) (s : State) : (travelSeesMode old s).travel.speed = s.travel.speed := by
  unfold travelSeesMode
  repeat' split
  all_goals rfl

theorem runCondition_blocksSee (old : Mode) (run e : Bool) (s : State) : runCondition (blocksSee old run e s) = runCondition s := by
  unfold runCondition
  rw [blocksSee_mode, blocksSee_travel, travelSeesMode_speed]

theorem runCondition_heated (old : Mode) (s : State) : runCondition (heated old s) = runCondition s := by
  have speed : (heated old s).travel.speed = s.travel.speed := by
    unfold heated
    split
    · rfl
    · rw [travel_of_heat (hideHeat_zonesSeeMode _ _), travelSeesMode_speed]
  unfold runCondition
  rw [heated_mode, speed]

theorem blocksSee_fits {s : State} (h : s.mode ≠ .parked) {run : Bool} (old : Mode) (e : Bool) (k : sidesFit run s.sides) :
    sidesFit (runCondition (blocksSee old run e s)) (blocksSee old run e s).sides := by
  rw [runCondition_blocksSee, blocksSee_sides, ← runCondition_heated old s]
  unfold sidesSeeMode
  rw [if_neg (fun hp => h ((heated_mode old s).symm.trans hp.1))]
  exact sidesSeeRun_fits (by rwa [heated_sides])

theorem settleReadiness_fits {s : State} (h : s.mode ≠ .parked) (k : sidesFit (runCondition s) s.sides) :
    sidesFit (runCondition (settleReadiness s)) (settleReadiness s).sides := by
  by_cases hs : s.mode = .starting
  · rwa [settleReadiness_starting hs]
  · rw [settleReadiness_running hs]
    refine blocksSee_fits (s := readinessTaken s) ?_ _ _ (by rwa [readinessTaken_sides])
    rw [readinessTaken_mode]
    exact chained_ne_parked h _ _

/-! ### The window's end (R24, R26) -/

/-- R26: the window's end resumes paving. -/
def resumes (s : State) : Prop := s.mode = .paused ∧ 0 < s.travel.station - s.travel.windowStart

/-- The state in which the blocks see the end of a speed window. -/
def windowTaken (s : State) : State :=
  if (closeWindow s).mode = .paused ∧ 0 < (closeWindow s).travel.windowChange then
    changeMode .paving .resume .modeController (closeWindow s)
  else closeWindow s

theorem endWindow_eq (s : State) :
    endWindow s = settleReadiness (blocksSee s.mode (runCondition s) false (windowTaken s)) := rfl

theorem windowTaken_resumes {s : State} (h : resumes s) :
    windowTaken s = changeMode .paving .resume .modeController (closeWindow s) := if_pos h

theorem windowTaken_stays {s : State} (h : ¬ resumes s) : windowTaken s = closeWindow s := if_neg h

theorem windowTaken_sides (s : State) : (windowTaken s).sides = s.sides := by
  by_cases h : resumes s
  · rw [windowTaken_resumes h, changeMode_eq]
    rfl
  · rw [windowTaken_stays h]
    rfl

theorem windowTaken_travel (s : State) : (windowTaken s).travel = (closeWindow s).travel := by
  by_cases h : resumes s
  · rw [windowTaken_resumes h, changeMode_eq]
  · rw [windowTaken_stays h]

/-- An evaluation restarts the pause time at most, whatever the mode. -/
theorem settleReadiness_odometer (s : State) :
    (settleReadiness s).travel = { s.travel with pauseMs := (settleReadiness s).travel.pauseMs } := by
  by_cases h : s.mode = .paused
  · obtain ⟨-, -, travel, -⟩ := settleReadiness_leaves (s := s) (by simp [h]) (by simp [h]) (by simp [h])
    rw [travel]
  · exact settleReadiness_pause h

/-- R24, R25: a window's end restarts the pause time at most, beside what it measures. -/
theorem endWindow_travel (s : State) :
    (endWindow s).travel = { (closeWindow s).travel with pauseMs := (endWindow s).travel.pauseMs } := by
  have seen : (travelSeesMode s.mode (windowTaken s)).travel
      = { (windowTaken s).travel with pauseMs := (travelSeesMode s.mode (windowTaken s)).travel.pauseMs } := by
    by_cases h : resumes s
    · exact travelSeesMode_pause (by rw [windowTaken_resumes h, changeMode_mode]; decide) s.mode
    · have mode : (windowTaken s).mode = s.mode := by rw [windowTaken_stays h]; rfl
      rw [← mode, travelSeesMode_same]
  have settled := settleReadiness_odometer (blocksSee s.mode (runCondition s) false (windowTaken s))
  rw [← endWindow_eq, blocksSee_travel, seen, windowTaken_travel] at settled
  exact settled

/-- R26: what a forward window leaves of a pause. -/
theorem endWindow_resumes {s : State} (h : resumes s) :
    (endWindow s).mode = .paving ∧ (endWindow s).travel.pauseMs = 0
      ∧ ∃ later, (endWindow s).events
          = eventsAfter (closeWindow s) ((.modeController, .modeChanged .paused .paving .resume) :: later) := by
  have hm : s.mode = .paused := h.1
  have taken : (windowTaken s).mode = .paving := by rw [windowTaken_resumes h, changeMode_mode]
  have mode : (blocksSee s.mode (runCondition s) false (windowTaken s)).mode = .paving := by rw [blocksSee_mode, taken]
  obtain ⟨-, -, travel, stays, -⟩ := settleReadiness_leaves (s := blocksSee s.mode (runCondition s) false (windowTaken s))
    (by rw [mode]; decide) (by rw [mode]; decide) (by rw [mode]; decide)
  have restarted : (travelSeesMode s.mode (windowTaken s)).travel.pauseMs = 0 := by
    unfold travelSeesMode
    rw [if_neg (by simp [taken, hm]), if_neg (by simp [taken]), if_pos taken]
    rfl
  have events : (windowTaken s).events
      = eventsAfter (closeWindow s) [(.modeController, .modeChanged .paused .paving .resume)] := by
    rw [windowTaken_resumes h, changeMode_eq, ← hm]
    rfl
  have stamp : sameStamp (closeWindow s) (windowTaken s) := by
    rw [windowTaken_resumes h]
    exact (appends_changeMode _ _ _ _).stamp
  rw [endWindow_eq]
  exact ⟨stays.trans mode, by rw [travel, blocksSee_travel, restarted],
    Appends.behind stamp events ((appends_blocksSee _ _ _ _).trans (appends_settleReadiness _))⟩

theorem quiet_of_view {s t : State} (h : quiet s = true) (e : heatView t = heatView s) : quiet t = true := by
  have mode : t.mode = s.mode := by have k := congrArg State.mode e; exact k
  have hot : t.readiness = s.readiness := by have k := congrArg State.readiness e; exact k
  have failing : t.failing = s.failing := by have k := congrArg State.failing e; exact k
  simp only [quiet, Bool.and_eq_true] at h ⊢
  obtain ⟨rules, current⟩ := h
  refine ⟨modeSound_of_view rules e, ?_⟩
  unfold readinessCurrent at current ⊢
  rwa [failingZones_view e, mode, hot, failing]

/-- R104: without a resume a quiet machine has its sides settled to the new speed, and nothing else follows. -/
theorem endWindow_quiet {s : State} (hq : quiet s = true) (h : ¬ resumes s) :
    endWindow s = sidesSeeRun (runCondition s) (closeWindow s) := by
  have sides := hideSides_sidesSeeRun (runCondition s) (closeWindow s)
  have mode : (sidesSeeRun (runCondition s) (closeWindow s)).mode = s.mode := (mode_of_sides sides).trans rfl
  have seen : blocksSee s.mode (runCondition s) false (closeWindow s) = sidesSeeRun (runCondition s) (closeWindow s) := by
    have same : heated s.mode (closeWindow s) = closeWindow s := if_pos rfl
    have run : sidesSeeMode s.mode (runCondition s) false (closeWindow s) = sidesSeeRun (runCondition s) (closeWindow s) :=
      if_neg (fun k => k.2 k.1)
    rw [blocksSee_eq, same, run, feedsSeeMode, if_pos mode, profilerSeesMode, if_pos mode]
  have still : quiet (sidesSeeRun (runCondition s) (closeWindow s)) = true :=
    quiet_of_view hq ((heatView_of_sides sides).trans rfl)
  rw [endWindow_eq, windowTaken_stays h, seen, settleReadiness_quiet still]

/-- R24: outside PAVING and PAUSED the sides see no run condition before or after. -/
theorem endWindow_standing {s : State} (hq : quiet s = true) (hm : s.mode ≠ .paving) (hp : s.mode ≠ .paused) :
    endWindow s = closeWindow s := by
  have before : runCondition s = false := by simp [runCondition, hm]
  have after : runCondition (closeWindow s) = false := by
    have : (closeWindow s).mode ≠ .paving := hm
    simp [runCondition, this]
  rw [endWindow_quiet hq (fun h => hp h.1), sidesSeeRun, after, before, if_pos rfl]

/-- R103, R104: a window that ends in PAVING leaves the sides settled to its speed. -/
theorem endWindow_fits {s : State} (h : sidesSound s = true) (hm : (endWindow s).mode = .paving) :
    sidesFit (runCondition (endWindow s)) (endWindow s).sides := by
  by_cases hp : s.mode = .parked
  · have hr : ¬ resumes s := fun k => by simp [resumes, hp] at k
    have mode : (blocksSee s.mode (runCondition s) false (windowTaken s)).mode = .parked := by
      rw [blocksSee_mode, windowTaken_stays hr]
      exact hp
    obtain ⟨-, -, -, stays, -⟩ := settleReadiness_leaves (s := blocksSee s.mode (runCondition s) false (windowTaken s))
      (by rw [mode]; decide) (by rw [mode]; decide) (by rw [mode]; decide)
    rw [endWindow_eq, stays, mode] at hm
    cases hm
  · have taken : (windowTaken s).mode ≠ .parked := by
      by_cases hr : resumes s
      · rw [windowTaken_resumes hr, changeMode_mode]
        decide
      · rw [windowTaken_stays hr]
        exact hp
    have fits : sidesFit (runCondition s) (windowTaken s).sides := by
      rw [windowTaken_sides]
      exact sidesFit_of_sound h
    rw [endWindow_eq]
    exact settleReadiness_fits (by rwa [blocksSee_mode]) (blocksSee_fits taken _ _ fits)

end Sys2Proof.Machine

open Sys2Proof Sys2Proof.Machine

/-- Settles O25: the odometer by `endWindow_travel`, the resume by `endWindow_resumes`, the sides by `endWindow_fits`. -/
theorem windowEndMeasuresSpeed : Obligations.WindowEndMeasuresSpeed := by
  unfold Obligations.WindowEndMeasuresSpeed
  intro s hw
  have act : exec .speedWindowEnd s = .next (endWindow s) := congrArg Host.Outcome.next (if_pos (decide_eq_true hw))
  have travel := endWindow_travel s
  have standing (hq : quiet s = true) (hm : s.mode ≠ .paving) (hp : s.mode ≠ .paused) :
      endWindow s = { s with travel := (endWindow s).travel } := by
    rw [endWindow_standing hq hm hp]
    rfl
  have unmoved (hq : quiet s = true) (hr : ¬ resumes s) :
      (endWindow s).mode = s.mode ∧ (endWindow s).travel.pauseMs = s.travel.pauseMs := by
    have sides := hideSides_sidesSeeRun (runCondition s) (closeWindow s)
    rw [endWindow_quiet hq hr, mode_of_sides sides, travel_of_sides sides]
    exact ⟨rfl, rfl⟩
  have settled (hs : sidesSound s = true) (hm : (endWindow s).mode = .paving) (d : Side)
      (he : sideEngaged ((endWindow s).sides.get d).state = true) :
      ((endWindow s).sides.get d).state = .suspended ↔ (endWindow s).travel.speed ≤ 0 := by
    rw [endWindow_fits hs hm d he]
    simp [runCondition, hm]
  dsimp only
  by_cases hr : resumes s
  · obtain ⟨mode, pause, later, events⟩ := endWindow_resumes hr
    refine ⟨endWindow s, later, act, travel, fun _ _ => ⟨mode, pause, events.trans ?_⟩, unmoved, standing, settled⟩
    exact eventsAfter_congr _ rfl (by rw [travel]) rfl rfl rfl
  · exact ⟨endWindow s, [], act, travel, fun hp hc => absurd ⟨hp, hc⟩ hr, unmoved, standing, settled⟩
end

section
/-! PROOFS. The paving clock and SET_CLOCK (R29, R30): O26. -/

namespace Sys2Proof.Machine

open Sys2Proof

/-! ### A step of the clock (R29) -/

/-- R29: a step stops at the first field that does not carry. -/
theorem stepClock_cases (c : ClockValue) :
    (c.sixteenth ≠ 15 ∧ stepClock c = { c with sixteenth := c.sixteenth + 1 })
    ∨ (c.sixteenth = 15 ∧ c.second.toNat < 59 ∧ stepClock c = { c with sixteenth := 0, second := c.second + 1 })
    ∨ (c.sixteenth = 15 ∧ 59 ≤ c.second.toNat ∧ c.minute.toNat < 59
        ∧ stepClock c = { c with sixteenth := 0, second := 0, minute := c.minute + 1 })
    ∨ (c.sixteenth = 15 ∧ 59 ≤ c.second.toNat ∧ 59 ≤ c.minute.toNat ∧ c.hour.toNat < 23
        ∧ stepClock c = { c with sixteenth := 0, second := 0, minute := 0, hour := c.hour + 1 })
    ∨ (c.sixteenth = 15 ∧ 59 ≤ c.second.toNat ∧ 59 ≤ c.minute.toNat ∧ 23 ≤ c.hour.toNat
        ∧ stepClock c = { day := c.day + 1, hour := 0, minute := 0, second := 0, sixteenth := 0 }) := by
  by_cases hx : c.sixteenth = 15
  · by_cases hs : 59 ≤ c.second.toNat
    · by_cases hm : 59 ≤ c.minute.toNat
      · by_cases hh : 23 ≤ c.hour.toNat
        · simp [stepClock, carrySecond, carryMinute, carryHour, carryDay, hx, hs, hm, hh]
        · simp [stepClock, carrySecond, carryMinute, carryHour, hx, hs, hm, hh]
          omega
      · simp [stepClock, carrySecond, carryMinute, hx, hs, hm]
        omega
    · simp [stepClock, carrySecond, hx, hs]
      omega
  · exact .inl ⟨hx, if_neg hx⟩

/-! ### SET_CLOCK (R30) -/

/-- R30: the clock as written, with its record. -/
def clockWritten (p : Port) (c : ClockValue) (s : State) : State :=
  { s with clock := c, events := eventsAfter { s with clock := c } [(.port p, .clockSet s.clock)] }

theorem serveSetClock_refused {p : Port} {s : State} (h : holds s p .mode = false) (k : holds s p .records = false)
    (day : Half) (hour minute second : Byte) : serveSetClock p day hour minute second s = refuse .notHolder s := if_pos ⟨h, k⟩

theorem serveSetClock_done {p : Port} {s : State} (h : holds s p .mode = true ∨ holds s p .records = true)
    (day : Half) (hour minute second : Byte) :
    serveSetClock p day hour minute second s
      = done [] (clockWritten p { day := day, hour := hour, minute := minute, second := second, sixteenth := 0 } s) := by
  unfold serveSetClock
  rw [if_neg (by rcases h with h | h <;> simp [h]), appendEvent_eq]
  rfl

end Sys2Proof.Machine

open Sys2Proof Sys2Proof.Machine

/-- Settles O26: a step of the clock by `stepClock_cases`, SET_CLOCK by the request rules. -/
theorem clockCarriesAndIsSet : Obligations.ClockCarriesAndIsSet := by
  unfold Obligations.ClockCarriesAndIsSet
  refine ⟨fun s h => ⟨stepClock s.clock, congrArg Host.Outcome.next (if_pos (decide_eq_true h)), ?_⟩, ?_,
    fun p tag day hour minute second s hp => ⟨fun hm => ?_, fun hm hn hr => ?_, fun hm hh => ?_⟩⟩
  · dsimp only
    rcases stepClock_cases s.clock with ⟨hx, e⟩ | ⟨hx, hs, e⟩ | ⟨hx, hs, hm, e⟩ | ⟨hx, hs, hm, hh, e⟩ | ⟨hx, hs, hm, hh, e⟩
    · have : s.clock.sixteenth.toNat ≠ 15 := by bv_omega
      rw [e]
      simp [this]
      bv_omega
    all_goals
      have : s.clock.sixteenth.toNat = 15 := by bv_omega
      rw [e]
    · simp [this, not_le.mpr hs]
      bv_omega
    · simp [this, hs, not_le.mpr hm]
      bv_omega
    · simp [this, hs, hm, not_le.mpr hh]
      bv_omega
    · simp [this, hs, hm, hh]
      split <;> bv_omega
  · rintro s _ ⟨rfl⟩
    rfl
  all_goals
    have free : (s.ports.get p).inFlight = none ∧ (s.ports.get p).sending = none := by simpa [portIdle] using hp
  · exact congrArg Host.Outcome.next (takeFrame_notReady free.1 hm (by decide))
  · exact congrArg Host.Outcome.next (takeRequest_refused free.1 hm
      (serveSetClock_refused (s := withOpened p (kindByte .setClock) tag s) hn hr day hour minute second))
  · refine congrArg Host.Outcome.next (takeRequest_served free.1 hm ?_)
    exact serveSetClock_done (s := withOpened p (kindByte .setClock) tag s) hh day hour minute second
end

section
/-! PROOFS. The writes of the standby delay code and of the pulses per metre, and the width jog (R22 to R24, R27, R34): O27, O28 and O29. -/

namespace Sys2Proof.Machine

open Sys2Proof

/-! ### Writes that are served (R171) -/

/-- An open port has a request refused, whatever refuses it on the state with the port opened. -/
theorem takeRequest_refuses {p : Port} {k : RequestKind} {tag : Byte} {serve : State → Served} {s : State} {status : Status}
    (hp : portOpen s p = true)
    (h : serve (withOpened p (kindByte k) tag s) = refuse status (withOpened p (kindByte k) tag s)) :
    takeRequest p k tag serve s = withReply p (kindByte k) tag (bareAnswer status) s := by
  obtain ⟨hm, hf, -⟩ := (portOpen_iff s p).mp hp
  exact takeRequest_refused hf hm h

/-- A setpoint written without the function that owns it. -/
theorem serveWrite_notHolder {p : Port} {x : Setting} {f : Function} {s : State} (hr : readOnlySetting x = false)
    (hx : setpointOwner x = some f) (h : holds s p f = false) (v : Word) : serveWrite p x v s = refuse .notHolder s := by
  simp [serveWrite, hr, hx, serveSetpoint, h]

/-- R42, R171: a setpoint is stored at the nearest bound, and the reply carries it as stored. -/
theorem serveWrite_setpoint {p : Port} {x : Setting} {f : Function} {s : State} (hr : readOnlySetting x = false)
    (hx : setpointOwner x = some f) (h : holds s p f = true) (v : Word) :
    serveWrite p x v s
      = written x (if clampSetting x v.toInt = v.toInt then .ok else .okClamped)
          (applySetting x (clampSetting x v.toInt) s) := by
  simp [serveWrite, hr, hx, serveSetpoint, h]

/-- R171: a configuration parameter that passes every check. -/
theorem serveWrite_configuration {p : Port} {x : Setting} {s : State} {v : Word} (hr : readOnlySetting x = false)
    (hx : setpointOwner x = none) (h : holds s p .mode = true) (hm : s.mode = .parked) (hv : inRange x v.toInt = true)
    (hc : furtherCheck s x v.toInt = none) : serveWrite p x v s = written x .ok (applySetting x v.toInt s) := by
  simp [serveWrite, hr, hx, serveConfiguration, h, hm, hv, hc]

/-! ### The standby delay code (R27) -/

/-- R27: the stop timer after a write of the standby delay code. -/
def codeWritten (code : Nat) (t : StopTimer) : StopTimer :=
  if t.state = .running then { t with pending := true } else { t with codeInForce := code, pending := false }

theorem writeStandbyCode_eq (code : Nat) (s : State) :
    writeStandbyCode code s
      = { s with
          settings := { s.settings with standbyCode := code }
          travel := { s.travel with stop := codeWritten code s.travel.stop } } := by
  unfold writeStandbyCode codeWritten
  dsimp only
  split <;> rfl

/-- Section 12.1: four bytes carry a number modulo their range. -/
theorem u32_ofNat (n : Nat) : u32 (BitVec.ofNat 32 n).toNat = u32 n := by
  unfold u32
  simp only [BitVec.toNat_ofNat, List.cons.injEq, and_true]
  refine ⟨?_, ?_, ?_, ?_⟩
  all_goals exact BitVec.eq_of_toNat_eq (by simp only [BitVec.toNat_ofNat]; omega)

/-- R184: the field of a count is the field of the signed number it is. -/
theorem numField_natCast (n : Nat) : numField (n : Int) = natField n := by
  unfold numField natField i32
  rw [BitVec.ofInt_natCast, u32_ofNat]

/-! ### The pulses per metre (R22 to R24) -/

/-- R23, R133: the station value to come exceeds the high-water station and reaches the next mark. -/
def markReached (s : State) : Prop :=
  s.travel.highWater < presentStation s ∧ ∃ m, s.profiler.nextMark = some m ∧ m ≤ presentStation s

theorem moveStation_closes {s : State} (h : markReached s) : moveStation s = closeInterval (computeStation s) := by
  obtain ⟨rise, m, mark, reached⟩ := h
  have e : (computeStation s).travel.highWater = presentStation s := max_eq_right rise.le
  have mark' : (computeStation s).profiler.nextMark = some m := mark
  simp only [moveStation, highWaterRose, mark', e, rise, reached, if_true]

theorem moveStation_passes {s : State} (h : ¬ markReached s) : moveStation s = computeStation s := by
  unfold moveStation highWaterRose
  dsimp only
  split
  · rename_i rise
    have rises : s.travel.highWater < presentStation s := by
      rcases lt_max_iff.mp rise with k | k
      · exact absurd k (lt_irrefl _)
      · exact k
    have e : (computeStation s).travel.highWater = presentStation s := max_eq_right rises.le
    split
    · rfl
    · rename_i m mark
      exact if_neg (fun k => h ⟨rises, m, mark, e ▸ k⟩)
  · rfl

theorem closeInterval_resting {s : State} (h : s.mode ≠ .paving) (k : s.mode ≠ .paused) : closeInterval s = beginInterval s :=
  if_neg (not_or.mpr ⟨h, k⟩)

/-- R22 to R24: a write of the pulses per metre in PARKED closes an interval without a record, or none. -/
theorem writePulsesPerMetre_cases {s : State} (hm : s.mode = .parked) (v : Int) :
    (markReached (storeOnly .pulsesPerMetre v s)
      ∧ writePulsesPerMetre v s
        = moveWindow s.travel.station (beginInterval (computeStation (storeOnly .pulsesPerMetre v s))))
    ∨ (¬ markReached (storeOnly .pulsesPerMetre v s)
      ∧ writePulsesPerMetre v s = moveWindow s.travel.station (computeStation (storeOnly .pulsesPerMetre v s))) := by
  unfold writePulsesPerMetre
  by_cases h : markReached (storeOnly .pulsesPerMetre v s)
  · refine .inl ⟨h, ?_⟩
    rw [moveStation_closes h, closeInterval_resting]
    · exact fun k => by cases hm.symm.trans k
    · exact fun k => by cases hm.symm.trans k
  · exact .inr ⟨h, by rw [moveStation_passes h]⟩

theorem writePulsesPerMetre_parked {s : State} (hm : s.mode = .parked) (v : Int) :
    writePulsesPerMetre v s
      = { s with
          settings := { s.settings with pulsesPerMetre := v }
          travel := { s.travel with
            station := stationOf s.job.start s.travel.pulseCount v
            highWater := max s.travel.highWater (stationOf s.job.start s.travel.pulseCount v)
            windowStart := s.travel.windowStart + (stationOf s.job.start s.travel.pulseCount v - s.travel.station) }
          profiler := (writePulsesPerMetre v s).profiler } := by
  rcases writePulsesPerMetre_cases hm v with ⟨-, e⟩ | ⟨-, e⟩
  all_goals
    rw [e]
    rfl

theorem writePulsesPerMetre_below {s : State} (hm : s.mode = .parked) {v : Int}
    (h : stationOf s.job.start s.travel.pulseCount v ≤ s.travel.highWater) :
    (writePulsesPerMetre v s).profiler = s.profiler := by
  rcases writePulsesPerMetre_cases hm v with ⟨⟨rise, -⟩, -⟩ | ⟨-, e⟩
  · exact absurd h (not_le.mpr rise)
  · rw [e]
    rfl

/-- The write reads nothing of the ports. -/
theorem writePulsesPerMetre_withOpened {s : State} (hm : s.mode = .parked) (v : Int) (p : Port) (kind tag : Byte) :
    writePulsesPerMetre v (withOpened p kind tag s) = withOpened p kind tag (writePulsesPerMetre v s) := by
  rcases writePulsesPerMetre_cases hm v with ⟨h, e⟩ | ⟨h, e⟩ <;>
    rcases writePulsesPerMetre_cases (s := withOpened p kind tag s) hm v with ⟨h', e'⟩ | ⟨h', e'⟩
  · rw [e, e']
    rfl
  · exact absurd h h'
  · exact absurd h' h
  · rw [e, e']
    rfl

/-! ### Width jogs (R34) -/

theorem widthDirOfByte_unknown {b : Byte} (h : 1 < b.toNat) : widthDirOfByte b = none := by
  unfold widthDirOfByte
  rw [if_neg (by bv_omega), if_neg (by bv_omega)]

theorem widthDirOfByte_some {b : Byte} {dir : WidthDir} (h : (b = 0 ∧ dir = .inward) ∨ (b = 1 ∧ dir = .outward)) :
    widthDirOfByte b = some dir := by
  rcases h with ⟨rfl, rfl⟩ | ⟨rfl, rfl⟩ <;> rfl

theorem jogStatus_eq (top : Nat) (b : Byte) (h : 1 ≤ top) :
    jogStatus top b = if 1 ≤ b.toNat ∧ b.toNat ≤ top then .ok else .okClamped := by
  have e : jogDuration top b = b.toNat ↔ 1 ≤ b.toNat ∧ b.toNat ≤ top := by
    unfold jogDuration
    omega
  unfold jogStatus
  simp only [e]

/-- R34, R35: the conditions under which a width jog in a direction is refused with STATE. -/
def widthBlocked (d : Side) (dir : WidthDir) (s : State) : Bool :=
  s.estop || (s.analog.ext.get d).fault
    || decide (dir = .inward ∧ (s.geometry.get d).position ≤ 20)
    || decide (dir = .outward ∧ 2480 ≤ (s.geometry.get d).position)

theorem widthBlocked_iff (d : Side) (dir : WidthDir) (s : State) :
    widthBlocked d dir s = true
      ↔ s.estop = true ∨ (s.analog.ext.get d).fault = true ∨ atSoftLimit dir (s.geometry.get d).position = true := by
  unfold widthBlocked atSoftLimit
  cases dir <;> simp [or_assoc]

/-- R34: the checks of a width jog in their order. -/
theorem serveJogWidth_notHolder {p : Port} {d : Side} {s : State} (h : holds s p (.width d) = false) (direction duration : Byte) :
    serveJogWidth p d direction duration s = refuse .notHolder s := if_pos h

theorem serveJogWidth_unknown {p : Port} {d : Side} {s : State} {direction : Byte} (h : holds s p (.width d) = true)
    (hd : 1 < direction.toNat) (duration : Byte) : serveJogWidth p d direction duration s = refuse .unknown s := by
  simp [serveJogWidth, h, widthDirOfByte_unknown hd]

theorem serveJogWidth_blocked {p : Port} {d : Side} {s : State} {direction : Byte} {dir : WidthDir}
    (h : holds s p (.width d) = true) (hd : widthDirOfByte direction = some dir) (hb : widthBlocked d dir s = true) (duration : Byte) :
    serveJogWidth p d direction duration s = refuse .state s := by
  rw [widthBlocked_iff] at hb
  simp [serveJogWidth, h, hd, hb]

theorem serveJogWidth_runs {p : Port} {d : Side} {s : State} {direction : Byte} {dir : WidthDir}
    (h : holds s p (.width d) = true) (hd : widthDirOfByte direction = some dir) (hb : widthBlocked d dir s = false) (duration : Byte) :
    serveJogWidth p d direction duration s
      = (startWidthJog d dir (jogDuration 50 duration) s, some (bareAnswer (jogStatus 50 duration))) := by
  have free : ¬ (s.estop = true ∨ (s.analog.ext.get d).fault = true ∨ atSoftLimit dir (s.geometry.get d).position = true) := by
    rw [← widthBlocked_iff, hb]
    decide
  unfold serveJogWidth
  rw [if_neg (by simp [h]), hd]
  exact if_neg free

/-- R34, R36: the record from which a width jog runs. -/
theorem jogStarted_eq (r : Extension) (dir : WidthDir) (n : Nat) :
    { jogEnded .replaced r with jogDir := dir, jogLeft := n, jogMs := 0 }
      = { r with
          jogDir := dir, jogLeft := n, jogMs := 0, lastEnd := if r.jogDir = .none then r.lastEnd else .replaced } := by
  unfold jogEnded
  split <;> simp [*]

end Sys2Proof.Machine

open Sys2Proof Sys2Proof.Machine

/-- Settles O27: the write is a setpoint's, and its effect is `writeStandbyCode_eq`. -/
theorem standbyCodeWaitsWhileRunning : Obligations.StandbyCodeWaitsWhileRunning := by
  unfold Obligations.StandbyCodeWaitsWhileRunning
  intro p tag value s hp
  refine ⟨fun h => congrArg Host.Outcome.next (takeRequest_refuses hp ?_), fun h => ?_⟩
  · exact serveWrite_notHolder (s := withOpened p (kindByte .setItem) tag s) rfl rfl h value
  · obtain ⟨code, hc⟩ := Int.eq_ofNat_of_zero_le (show 0 ≤ clamp 0 200 value.toInt from le_clamp)
    have clamped : clampSetting .standbyCode value.toInt = (code : Int) := hc
    refine ⟨code, hc.symm, congrArg Host.Outcome.next ?_⟩
    refine (takeRequest_answered hp (serveWrite_setpoint (s := withOpened p (kindByte .setItem) tag s) rfl rfl h value) ?_).trans ?_
    · rw [clamped]
      simp only [applySetting, writeStandbyCode_eq]
    · rw [clamped]
      simp only [applySetting, writeStandbyCode_eq, settingField, settingValue, Int.toNat_natCast, numField_natCast]
      rfl

/-- Settles O28: the write is a configuration parameter's, and its effect is `writePulsesPerMetre_parked`. -/
theorem pulsesPerMetreMovesStation : Obligations.PulsesPerMetreMovesStation := by
  unfold Obligations.PulsesPerMetreMovesStation
  intro p tag value s hp hh hm hlow hhigh
  have served := serveWrite_configuration (p := p) (x := .pulsesPerMetre) (s := withOpened p (kindByte .setItem) tag s) (v := value)
    rfl rfl hh hm (by simp [inRange, boundsOf, finerRange, hlow, hhigh]) rfl
  have effect := writePulsesPerMetre_parked hm value.toInt
  obtain ⟨hs, hf, -⟩ := (portOpen_iff s p).mp hp
  have answer : settingField (writePulsesPerMetre value.toInt s) .pulsesPerMetre = numField value.toInt := by
    rw [effect]
    rfl
  refine ⟨writePulsesPerMetre value.toInt s, congrArg Host.Outcome.next (takeRequest_served hf hs ?_), ?_, ?_, fun hb => ?_, ?_⟩
  · rw [served, ← answer]
    exact congrArg (written .pulsesPerMetre .ok) (writePulsesPerMetre_withOpened hm value.toInt p (kindByte .setItem) tag)
  · rw [effect]
    rfl
  · rw [effect]
  · rw [effect] at hb
    exact writePulsesPerMetre_below hm hb
  · generalize writePulsesPerMetre value.toInt s = t at effect
    rw [effect]

/-- Settles O29: the checks in their order, then `startWidthJog_eq`. -/
theorem widthJogRuns : Obligations.WidthJogRuns := by
  unfold Obligations.WidthJogRuns
  intro p tag d direction duration s hp
  refine ⟨fun h => ?_, fun h hd => ?_, fun dir h hd => ⟨fun hb => ?_, fun hb => ?_⟩⟩
  · exact congrArg Host.Outcome.next (takeRequest_refuses hp
      (serveJogWidth_notHolder (s := withOpened p (kindByte .jog) tag s) h direction duration))
  · exact congrArg Host.Outcome.next (takeRequest_refuses hp
      (serveJogWidth_unknown (s := withOpened p (kindByte .jog) tag s) h hd duration))
  · exact congrArg Host.Outcome.next (takeRequest_refuses hp
      (serveJogWidth_blocked (s := withOpened p (kindByte .jog) tag s) h (widthDirOfByte_some hd) hb duration))
  · have served := serveJogWidth_runs (s := withOpened p (kindByte .jog) tag s) h (widthDirOfByte_some hd) hb duration
    rw [startWidthJog_eq, jogStarted_eq, jogStatus_eq 50 duration (by decide)] at served
    exact congrArg Host.Outcome.next (takeRequest_answered hp served rfl)
end

section
/-! PROOFS. A counted travel edge and the interval it closes (R21 to R23, R132, R133, R135, R136, R149, R177): O51. -/

namespace Sys2Proof.Machine

open Sys2Proof

/-! ### A profile record (R147 to R149) -/

/-- R149: the append of a profile record begins a run of losses. -/
def beginsLossRun (s : State) : Prop :=
  appendLoses (capacityOf s .mat) s.mat = true ∧ areaExhausted s.mat = false ∧ s.mat.firstLost = none

theorem beginsLossRun_iff (s : State) :
    beginsLossRun s ↔ s.mat.newest < 4294967295 ∧ capacityOf s .mat ≤ s.mat.held.length
      ∧ s.mat.ackPoint < oldestOf s.mat ∧ s.mat.firstLost = none := by
  have room : areaExhausted s.mat = false ↔ s.mat.newest < 4294967295 := by
    unfold areaExhausted top32
    rw [decide_eq_false_iff_not, not_le]
  simp only [beginsLossRun, appendLoses, room, Bool.and_eq_true, decide_eq_true_eq]
  tauto

/-- R147: a profile record is discarded while the memory is not open. -/
theorem appendProfile_unopened {s : State} (h : s.recordsOpen = false) (build : Nat → ProfileRecord) :
    appendProfile build s = s := if_neg (by simp [h])

/-- R149: the first loss of a run is noted, with its record. -/
theorem appendProfile_loses {s : State} (ho : s.recordsOpen = true) (h : beginsLossRun s) (build : Nat → ProfileRecord) :
    appendProfile build s
      = { s with
          mat := { appendTo (capacityOf s .mat) build s.mat with firstLost := some (oldestOf s.mat) }
          events := eventsAfter s [(.recordMemory, .recordsLost (oldestOf s.mat) (capacityOf s .mat))] } := by
  obtain ⟨loses, room, first⟩ := h
  unfold appendProfile noteMatLoss
  have noted : (appendLoses (capacityOf s .mat) s.mat && !areaExhausted s.mat
      && (appendTo (capacityOf s .mat) build s.mat).firstLost.isNone) = true := by
    rw [appendTo_firstLost, loses, room, first]
    rfl
  rw [if_pos ho]
  refine (if_pos noted).trans ?_
  rw [appendEvent_eq]
  congr 1

/-- R148: within a run, or without a loss, the MAT area takes the record and no event follows. -/
theorem appendProfile_keeps {s : State} (ho : s.recordsOpen = true) (h : ¬ beginsLossRun s) (build : Nat → ProfileRecord) :
    appendProfile build s = { s with mat := appendTo (capacityOf s .mat) build s.mat } := by
  unfold appendProfile noteMatLoss
  rw [if_pos ho]
  refine if_neg (fun k => h ?_)
  rw [appendTo_firstLost] at k
  simp only [Bool.and_eq_true, Bool.not_eq_true', Option.isNone_iff_eq_none] at k
  exact ⟨k.1.1, k.1.2, k.2⟩

/-- A record moves the record areas only. -/
theorem appendProfile_frame (build : Nat → ProfileRecord) (s : State) :
    appendProfile build s = { s with mat := (appendProfile build s).mat, events := (appendProfile build s).events } := by
  by_cases ho : s.recordsOpen = true
  · by_cases h : beginsLossRun s
    · rw [appendProfile_loses ho h]
    · rw [appendProfile_keeps ho h]
  · rw [appendProfile_unopened (by simpa using ho)]

/-! ### The close (R133, R136) -/

/-- The state whose record areas an interval's close leaves. -/
def recorded (s : State) : State := if s.mode = .paving ∨ s.mode = .paused then appendProfile (buildProfile s) s else s

theorem closeInterval_eq (s : State) : closeInterval s = beginInterval (recorded s) := by
  unfold closeInterval recorded
  split <;> rfl

theorem recorded_frame (s : State) :
    recorded s = { s with mat := (recorded s).mat, events := (recorded s).events } := by
  unfold recorded
  split
  · exact appendProfile_frame _ s
  · rfl

/-- R136: the profiler after a close has the mark and the standing flags of the state that closed. -/
theorem closeInterval_frame (s : State) :
    closeInterval s = { s with
      mat := (recorded s).mat, events := (recorded s).events
      profiler := { s.profiler with
        pixels := List.replicate 120 { sum := 0, count := 0 }, lines := 0, marks := [], flags := standingFlags s
        nextMark := presentMark s } } := by
  rw [closeInterval_eq, recorded_frame]
  rfl

/-- R132: no next mark is left only where the next grid point lies beyond the range. -/
theorem nextMarkOf_none {start highWater interval : Int} (hi : 0 < interval) (hs : start ≤ highWater)
    (h : nextMarkOf start highWater interval = none) : maxS32 < highWater + interval := by
  have quotient : (highWater - start).tdiv interval * interval ≤ highWater - start := by
    rw [Int.tdiv_eq_ediv_of_nonneg (by omega)]
    exact Int.ediv_mul_le _ hi.ne'
  unfold nextMarkOf at h
  dsimp only at h
  split at h
  · rename_i beyond
    have : ((highWater - start).tdiv interval + 1) * interval = (highWater - start).tdiv interval * interval + interval := by ring
    omega
  · cases h

/-- The record areas after a close that loses the oldest record first (R149). -/
theorem recorded_loses {s : State} (hm : s.mode = .paving ∨ s.mode = .paused) (ho : s.recordsOpen = true) (h : beginsLossRun s) :
    recorded s
      = { s with
          mat := { appendTo (capacityOf s .mat) (buildProfile s) s.mat with firstLost := some (oldestOf s.mat) }
          events := eventsAfter s [(.recordMemory, .recordsLost (oldestOf s.mat) (capacityOf s .mat))] } :=
  (if_pos hm).trans (appendProfile_loses ho h _)

theorem recorded_keeps {s : State} (hm : s.mode = .paving ∨ s.mode = .paused) (ho : s.recordsOpen = true) (h : ¬ beginsLossRun s) :
    recorded s = { s with mat := appendTo (capacityOf s .mat) (buildProfile s) s.mat } :=
  (if_pos hm).trans (appendProfile_keeps ho h _)

theorem recorded_none {s : State} (h : ¬ (s.recordsOpen = true ∧ (s.mode = .paving ∨ s.mode = .paused))) : recorded s = s := by
  unfold recorded
  split
  · rename_i hm
    exact appendProfile_unopened (by simpa using fun ho => h ⟨ho, hm⟩) _
  · rfl

/-! ### A counted edge (R21, R177) -/

/-- The travel pulse input at a new level, its debounce timer ended. -/
def pulseTaken (level : Bool) (s : State) : State :=
  { s with inputs := { s.inputs with travelPulse := { pin := level, debounced := level, timer := none } } }

theorem takeLevel_pulse {level : Bool} {s : State} (hp : s.inputs.travelPulse.pin = level)
    (hd : s.inputs.travelPulse.debounced ≠ level) :
    takeLevel .travelPulse s
      = if edgeSeen s.settings.inputs.travelPulse.mode level then countEdge (pulseTaken level s) else pulseTaken level s := by
  subst hp
  exact if_neg (Ne.symm hd)

theorem changePin_pulse {level : Bool} {s : State} (h0 : (s.settings.inputs.get .travelPulse).debounce = 0)
    (hp : s.inputs.travelPulse.pin ≠ level) (hd : s.inputs.travelPulse.debounced ≠ level) :
    changePin .travelPulse level s
      = if edgeSeen s.settings.inputs.travelPulse.mode level then countEdge (pulseTaken level s) else pulseTaken level s := by
  unfold changePin
  dsimp only
  rw [if_neg (show ¬ (s.inputs.get .travelPulse).pin = level from hp), if_pos h0]
  exact takeLevel_pulse rfl hd

/-- R21: the count after an edge, before the station value is computed. -/
def edgeCounted (s : State) : State :=
  setTravel
    { s.travel with
      pulseCount := clamp minS32 maxS32 (s.travel.pulseCount + if inputActive s .travelDir then -1 else 1)
      pulseSilence := 0, pauseMs := 0 } s

theorem countEdge_eq (s : State) : countEdge s = moveStation (edgeCounted s) := rfl

end Sys2Proof.Machine

open Sys2Proof Sys2Proof.Machine

/-- Settles O51: the edge moves the station (`countEdge_eq`), and where it reaches the mark the interval closes (`closeInterval_frame`). -/
theorem edgesCloseIntervals : Obligations.EdgesCloseIntervals := by
  unfold Obligations.EdgesCloseIntervals
  intro i level s hi hd s0 counts
  have hcounts : counts = edgeSeen s.settings.inputs.travelPulse.mode level := by
    simp only [counts]
    cases s.settings.inputs.travelPulse.mode <;> rfl
  have act : exec i s = .next (if counts then countEdge s0 else s0) := by
    rw [hcounts]
    rcases hi with ⟨rfl, h0, hp⟩ | ⟨rfl, ht, hp⟩
    · exact congrArg Host.Outcome.next (changePin_pulse h0 hp hd)
    · exact congrArg Host.Outcome.next ((if_pos (decide_eq_true ht)).trans (takeLevel_pulse hp hd))
  refine ⟨fun hc => by rw [act, hc]; rfl, fun hc => ?_⟩
  rw [act, hc, if_pos rfl, countEdge_eq]
  intro count station s1 closes records loses
  have reached : closes ↔ markReached (edgeCounted s0) := Iff.rfl
  have computed : computeStation (edgeCounted s0) = s1 := rfl
  refine ⟨fun hn => by rw [moveStation_passes (reached.not.mp hn), computed], fun hcl => ?_⟩
  have high : s1.travel.highWater = station := max_eq_right hcl.1.le
  have mark : presentMark s1 = nextMarkOf s.job.start station s.settings.recordInterval :=
    congrArg (fun h => nextMarkOf s.job.start h s.settings.recordInterval) high
  rw [moveStation_closes (reached.mp hcl), computed, closeInterval_frame]
  have loss : loses ↔ records ∧ beginsLossRun s1 := by
    rw [beginsLossRun_iff]
    exact Iff.rfl
  have unrecorded (h : ¬ records) : recorded s1 = s1 := recorded_none (s := s1) h
  have losing (h : records) (hl : beginsLossRun s1) := recorded_loses (s := s1) h.2 h.1 hl
  have keeping (h : records) (hl : ¬ beginsLossRun s1) := recorded_keeps (s := s1) h.2 h.1 hl
  refine ⟨_, rfl, rfl, fun h => by rw [unrecorded h], fun h => ?_, fun h => ?_, fun h => ?_, rfl, fun hi hs m hm => ?_,
    fun hi hs hm => ?_⟩
  · have first : (appendTo (capacityOf s .mat) (buildProfile s1) s.mat).firstLost = s.mat.firstLost := appendTo_firstLost
    rw [← first]
    by_cases hl : beginsLossRun s1
    · rw [losing h hl]
      rfl
    · rw [keeping h hl]
      rfl
  · obtain ⟨hr, hl⟩ := loss.mp h
    rw [losing hr hl]
    exact ⟨rfl, rfl⟩
  · by_cases hr : records
    · rw [keeping hr (fun hl => h (loss.mpr ⟨hr, hl⟩))]
      exact ⟨appendTo_firstLost, rfl⟩
    · rw [unrecorded hr]
      exact ⟨rfl, rfl⟩
  · obtain ⟨above, within, grid, -⟩ := nextMarkOf_spec hi hs (mark.symm.trans hm)
    exact ⟨above, within, grid⟩
  · exact nextMarkOf_none hi hs (mark.symm.trans hm)
end

section
/-! PROOFS. Elapsed time: what one millisecond moves, which commands it brings, and the timed commands before their moment and at it (R24, R25, R28,
R29, R36, R55, R68, R75, R80, R81, R111, R119, R127, R131, R161, R162, R177, R185): O30. -/

namespace Sys2Proof.Machine

open Sys2Proof

/-! ### The moments of the rules are those of the counters -/

theorem gapReached_eq (r : Receiver) :
    gapReached r = (match r with | .hunting => false | .inFrame _ gap => decide (2 < gap)) := by
  cases r <;> rfl

theorem pollReached_eq (s : State) :
    pollReached s = (match s.sensors.round with | none => false | some r => decide (3 ≤ r.waited)) := by
  unfold pollReached
  cases s.sensors.round <;> rfl

theorem holdReached_eq (s : State) (c : FeedChannel) :
    holdReached s c
      = (decide ((s.feed.get c).state = .holdLast) && decide ((s.feed.get c).hold = 1) && decide (100 ≤ (s.feed.get c).holdMs)) := by
  unfold holdReached tenthsEnd
  rw [Bool.and_assoc]

/-- The counter that brings a timed command has reached its time; none for a command that time does not bring. -/
def counterReached (s : State) : Instr → Option Bool
  | .frameGapExpiry p => some (gapReached (s.ports.get p).receiver)
  | .linkDown p => some (silenceReached s p)
  | .feedHoldExpiry c => some (holdReached s c)
  | .debounceExpiry i => some (debounceReached s i)
  | .elementCheckDelayEnd z => some (checkReached s z)
  | .sliceExpiry z => some (sliceReached s z)
  | .speedWindowEnd => some (windowReached s)
  | .pauseDetectorFire => some (pauseReached s)
  | .stopTimerMatch => some (matchReached s)
  | .clockStep => some (sixteenthReached s)
  | .widthJogExpiry d => some (widthJogReached s d)
  | .gradeJogExpiry d => some (gradeJogReached s d)
  | .feedJogExpiry c => some (feedJogReached s c)
  | .sensorRoundStart => some (roundReached s)
  | .pollTimeout => some (pollReached s)
  | .sensorFrameGapExpiry => some (gapReached s.sensorReceiver)
  | .scanner => some (scannerReached s)
  | .heatingMinute z => some (minuteReached s z)
  | _ => none

theorem moment_eq (s : State) (c : Instr) : moment s c = counterReached s c := by
  cases c
  case frameGapExpiry p => exact congrArg some (gapReached_eq _).symm
  case sensorFrameGapExpiry => exact congrArg some (gapReached_eq _).symm
  case pollTimeout => exact congrArg some (pollReached_eq s).symm
  case feedHoldExpiry c => exact congrArg some (holdReached_eq s c).symm
  all_goals rfl

/-- Assumption 8: a timed command acts at its moment only. -/
theorem exec_of_moment {s : State} {c : Instr} {b : Bool} (h : moment s c = some b) :
    ∃ act : State → State, exec c s = .next (atMoment b act s) := by
  rw [moment_eq] at h
  cases c <;> cases h
  all_goals exact ⟨_, rfl⟩

/-! ### The commands whose moment has come -/

theorem mem_dueIf {b : Bool} {c i : Instr} : c ∈ dueIf b i ↔ b = true ∧ c = i := by
  unfold dueIf
  cases b <;> simp

/-- Of one kind of timed command, those come whose counter has reached its time. -/
theorem mem_dueOf {α : Type} {all : List α} {reached : α → Bool} {command : α → Instr} {c : Instr} (h : ∀ a, a ∈ all) :
    c ∈ (all.filter reached).map command ↔ ∃ a, reached a = true ∧ c = command a := by
  simp only [List.mem_map, List.mem_filter, h, true_and, eq_comm (a := c)]

theorem mem_allInputs (i : DigitalInput) : i ∈ allInputs := by
  cases i with
  | feedback z => cases z <;> decide
  | travelPulse | travelDir | estop => decide

theorem mem_allPorts (p : Port) : p ∈ allPorts := by cases p <;> decide

theorem mem_allFeed (c : FeedChannel) : c ∈ allFeed := by cases c <;> decide

theorem mem_allSides (d : Side) : d ∈ allSides := by cases d <;> decide

/-- Assumption 7: the queue after a millisecond holds exactly the commands whose moment has come. -/
theorem mem_due (s : State) (c : Instr) : c ∈ due s ↔ moment s c = some true := by
  unfold due
  simp only [List.mem_append, mem_dueIf, mem_dueOf mem_allZones, mem_dueOf mem_allInputs, mem_dueOf mem_allPorts,
    mem_dueOf mem_allFeed, mem_dueOf mem_allSides]
  rw [moment_eq]
  cases c <;> simp [counterReached]

/-! ### The counters, one millisecond later -/

theorem countUp_eq (top n ms : Nat) :
    countUp 1000 top n ms = if ms < 999 then (n, ms + 1) else (min top (n + 1), 0) := by
  unfold countUp satInc
  simp only [show ms + 1 < 1000 ↔ ms < 999 by omega]

theorem countDown_eq (n ms : Nat) :
    countDown n ms
      = if n = 0 then (0, 0) else if n = 1 then (1, min 100 (ms + 1)) else if ms < 99 then (n, ms + 1) else (n - 1, 0) := by
  unfold countDown
  simp only [show ms + 1 < 100 ↔ ms < 99 by omega]

theorem elapseStop_idle {t : StopTimer} (h : t.state ≠ .running) : elapseStop t = t := if_neg h

theorem elapseStop_running {t : StopTimer} (h : t.state = .running) :
    elapseStop t
      = if t.subMs < 999 then { t with subMs := t.subMs + 1 }
        else { t with elapsed := min 65535 (t.elapsed + 1), subMs := 0 } := by
  unfold elapseStop
  rw [if_pos h, countUp_eq]
  split <;> rfl

theorem elapseGrant_eq (g : Grant) :
    elapseGrant g
      = if g.subMs < 999 then { g with subMs := g.subMs + 1 } else { g with elapsed := min 300 (g.elapsed + 1), subMs := 0 } := by
  unfold elapseGrant
  rw [countUp_eq]
  split <;> rfl

theorem elapseHealth_free (h : Health) : elapseHealth false h = h := rfl

theorem elapseHealth_last {h : Health} (k : h.seconds = 59) : elapseHealth true h = { h with subMs := min 1000 (h.subMs + 1) } := by
  simp [elapseHealth, k]

theorem elapseHealth_counts {h : Health} (k : h.seconds < 59) :
    elapseHealth true h
      = if h.subMs < 999 then { h with subMs := h.subMs + 1 } else { h with seconds := h.seconds + 1, subMs := 0 } := by
  unfold elapseHealth
  rw [if_neg (by decide), if_neg k.ne, countUp_eq]
  split
  · rfl
  · rw [min_eq_right k]

theorem elapse_port (s : State) (p : Port) : (elapse s).ports.get p = elapsePort (s.ports.get p) := by cases p <;> rfl

theorem elapse_health (s : State) (z : Zone) : (elapse s).health.get z = elapseHealth (granted s z) (s.health.get z) := by
  cases z <;> rfl

theorem elapse_input (s : State) (i : DigitalInput) : (elapse s).inputs.get i = elapseInput (s.inputs.get i) := by
  cases i with
  | feedback z => cases z <;> rfl
  | travelPulse | travelDir | estop => rfl

theorem elapse_extension (s : State) (d : Side) : (elapse s).geometry.get d = elapseExtension (s.geometry.get d) := by
  cases d <;> rfl

theorem elapse_side (s : State) (d : Side) : (elapse s).sides.get d = elapseSide (s.sides.get d) := by cases d <;> rfl

theorem elapse_feed (s : State) (c : FeedChannel) : (elapse s).feed.get c = elapseFeed (s.feed.get c) := by cases c <;> rfl

/-- Assumption 7: a step on an empty queue is one millisecond. -/
theorem step_empty {s : State} (h : s.pending = []) : step s = .next (tick s) := by
  unfold step
  rw [h]

/-- What the millisecond moves is moved by `elapse`; the queue apart. -/
theorem tick_eq {s : State} (h : s.pending = []) : tick s = { elapse s with pending := due (elapse s) } := by
  unfold tick
  rw [h, List.nil_append]

/-- The waiting commands have no part in a moment. -/
theorem moment_pending (s : State) (waiting : List Instr) (c : Instr) : moment { s with pending := waiting } c = moment s c := by
  rw [moment_eq, moment_eq]
  cases c <;> rfl

/-! ### Jogs at their moment (R36, R111, R127) -/

theorem exec_widthJogExpiry {d : Side} {s : State} (h : (s.geometry.get d).jogLeft = 1) (k : 100 ≤ (s.geometry.get d).jogMs) :
    exec (.widthJogExpiry d) s
      = .next (if (s.geometry.get d).jogDir = .none then s
          else { s with
            geometry := s.geometry.set d
              { s.geometry.get d with jogDir := .none, jogLeft := 0, jogMs := 0, lastEnd := .expiry } }) :=
  congrArg Host.Outcome.next (if_pos (by simp [widthJogReached, tenthsEnd, h, k]))

theorem exec_gradeJogExpiry {d : Side} {s : State} (h : (s.sides.get d).jogLeft = 1) (k : 100 ≤ (s.sides.get d).jogMs) :
    exec (.gradeJogExpiry d) s
      = .next { s with
          sides := s.sides.set d { s.sides.get d with duty := 0, dir := .none, jogLeft := 0, jogMs := 0, lastEnd := .expiry } } := by
  refine congrArg Host.Outcome.next ((if_pos (by simp [gradeJogReached, tenthsEnd, h, k])).trans ?_)
  rw [endGradeJog_eq, gradeJogDone, if_neg (by rw [h]; decide)]

theorem exec_feedJogExpiry {c : FeedChannel} {s : State} (h : (s.feed.get c).jogLeft = 1) (k : 100 ≤ (s.feed.get c).jogMs) :
    exec (.feedJogExpiry c) s
      = .next { s with
          feed := s.feed.set c { s.feed.get c with duty := 0, jogDuty := 0, jogLeft := 0, jogMs := 0, lastEnd := .expiry } } := by
  refine congrArg Host.Outcome.next ((if_pos (by simp [feedJogReached, tenthsEnd, h, k])).trans ?_)
  rw [endFeedJog_eq, jogDone, if_neg (by rw [h]; decide)]

end Sys2Proof.Machine

open Sys2Proof Sys2Proof.Machine

/-- Settles O30: a timed command by `exec_of_moment`, the queue by `mem_due`, each counter by what `elapse` makes of it. -/
theorem timedCommandsKeepTheirMoments : Obligations.TimedCommandsKeepTheirMoments := by
  unfold Obligations.TimedCommandsKeepTheirMoments
  refine ⟨fun c s h => ?_, fun s hs => ⟨tick s, step_empty hs, ?_⟩,
    fun d c s => ⟨exec_widthJogExpiry, exec_gradeJogExpiry, exec_feedJogExpiry⟩⟩
  · obtain ⟨act, e⟩ := exec_of_moment h
    rw [e, atMoment_before]
  · rw [tick_eq hs]
    have brought := mem_due (elapse s)
    generalize due (elapse s) = waiting at brought ⊢
    refine ⟨fun c => (brought c).trans (Eq.congr_left (moment_pending (elapse s) waiting c).symm), rfl, ⟨?_, fun p => ?_⟩, rfl,
      elapseStop_idle, elapseStop_running, elapse_zone s, fun z => ⟨fun h => ?_, fun h k => ?_, fun h k => ?_⟩, ?_, rfl,
      elapse_input s, fun d => ⟨?_, ?_⟩, fun c => ?_⟩
    · change elapseReceiver s.sensorReceiver = _
      cases s.sensorReceiver <;> rfl
    · refine (elapse_port s p).trans ?_
      obtain ⟨receiver⟩ := s.ports.get p
      cases receiver <;> rfl
    · exact (elapse_health s z).trans (by rw [h, elapseHealth_free])
    · exact (elapse_health s z).trans (by rw [h, elapseHealth_last k])
    · exact (elapse_health s z).trans (by rw [h, elapseHealth_counts k])
    · exact List.map_congr_left (fun g _ => elapseGrant_eq g)
    · refine (elapse_extension s d).trans ?_
      simp only [← countDown_eq]
      rfl
    · refine (elapse_side s d).trans ?_
      simp only [← countDown_eq]
      rfl
    · refine (elapse_feed s c).trans ?_
      simp only [← countDown_eq]
      rfl
end

section
/-! PROOFS. The budget rules (R41, R47, R51, R63, R65): the wait queue holds the WAITING zones and the grant list the HEATING ones, each once, the
granted ratings stay within the limit, and no zone heats outside the heating modes. O6. -/

namespace Sys2Proof.Machine

open Sys2Proof

/-! ### The bookkeeping of the allocator -/

/-- R47, R63, R65: every WAITING zone stands once in the queue and every HEATING zone once in the grant list, no other zone stands in either, and
the granted ratings are within the limit. -/
structure Booked (s : State) : Prop where
  queueOnce : s.queue.Nodup
  grantsOnce : (s.grants.map (·.zone)).Nodup
  queued : ∀ z, z ∈ s.queue ↔ (s.zones.get z).state = .waiting
  heated : ∀ z, z ∈ s.grants.map (·.zone) ↔ (s.zones.get z).state = .heating
  within : grantedSum s ≤ s.settings.generatorLimit

/-- R41, R51: outside the heating modes every zone is OFF. -/
def Resting (s : State) : Prop := heatingMode s.mode = true ∨ ∀ z, (s.zones.get z).state = .off

theorem granted_iff (s : State) (z : Zone) : granted s z = true ↔ z ∈ s.grants.map (·.zone) := by
  simp [granted]

theorem zonePlaced_iff (s : State) (z : Zone) :
    zonePlaced s z = true
      ↔ (z ∈ s.grants.map (·.zone) ↔ (s.zones.get z).state = .heating) ∧ (z ∈ s.queue ↔ (s.zones.get z).state = .waiting) := by
  rw [← granted_iff]
  simp only [zonePlaced, Bool.and_eq_true, decide_eq_true_eq, decide_eq_decide]
  rw [Bool.eq_iff_iff, decide_eq_true_eq]

theorem budgetSound_iff (s : State) : budgetSound s = true ↔ Booked s ∧ Resting s := by
  simp only [budgetSound, Bool.and_eq_true, Bool.or_eq_true, List.all_eq_true, decide_eq_true_eq, zonePlaced_iff, Resting]
  constructor
  · rintro ⟨⟨⟨⟨placed, queueOnce⟩, grantsOnce⟩, within⟩, rest⟩
    exact ⟨⟨queueOnce, grantsOnce, fun z => (placed z (mem_allZones z)).2, fun z => (placed z (mem_allZones z)).1, within⟩,
      rest.imp_right fun off z => off z (mem_allZones z)⟩
  · rintro ⟨⟨queueOnce, grantsOnce, queued, heated, within⟩, rest⟩
    exact ⟨⟨⟨⟨fun z _ => ⟨heated z, queued z⟩, queueOnce⟩, grantsOnce⟩, within⟩, rest.imp_right fun off z _ => off z⟩

/-- R65: the granted sum is that of the zones the grant list names. -/
theorem grantedSum_eq (s : State) :
    grantedSum s = ((s.grants.map (·.zone)).map fun z => (s.settings.zones.get z).rating).sum := by
  simp [grantedSum, Function.comp_def]

/-- The settings that the granted sum and the limit are read from are the same in both. -/
def SameBudget (f g : Settings) : Prop :=
  g.generatorLimit = f.generatorLimit ∧ ∀ z, (g.zones.get z).rating = (f.zones.get z).rating

/-- The bookkeeping reads the zones' states, the queue, the zones of the grant list and the budget's settings. -/
theorem Booked.congr {s t : State} (h : Booked s) (hz : ∀ z, (t.zones.get z).state = (s.zones.get z).state)
    (hq : t.queue = s.queue) (hg : t.grants.map (·.zone) = s.grants.map (·.zone)) (hs : SameBudget s.settings t.settings) :
    Booked t where
  queueOnce := hq ▸ h.queueOnce
  grantsOnce := hg ▸ h.grantsOnce
  queued z := by rw [hz, hq]; exact h.queued z
  heated z := by rw [hz, hg]; exact h.heated z
  within := by
    have := h.within
    rw [grantedSum_eq] at this ⊢
    simpa only [hg, hs.1, hs.2] using this

/-- Zones that are all OFF are booked by empty lists, whatever the ratings and the limit. -/
theorem Booked.of_off {s : State} (hz : ∀ z, (s.zones.get z).state = .off) (hq : s.queue = []) (hg : s.grants = []) : Booked s where
  queueOnce := by simp [hq]
  grantsOnce := by simp [hg]
  queued z := by simp [hq, hz]
  heated z := by simp [hg, hz]
  within := by simp [grantedSum, hg]

theorem Booked.queue_of_off {s : State} (h : Booked s) (hz : ∀ z, (s.zones.get z).state = .off) : s.queue = [] :=
  List.eq_nil_iff_forall_not_mem.mpr fun z hm => by simpa [hz] using (h.queued z).mp hm

theorem Booked.grants_of_off {s : State} (h : Booked s) (hz : ∀ z, (s.zones.get z).state = .off) : s.grants = [] :=
  List.map_eq_nil_iff.mp (List.eq_nil_iff_forall_not_mem.mpr fun z hm => by simpa [hz] using (h.heated z).mp hm)

/-- The queue and the grant list of a sound bookkeeping name the zones they may. -/
theorem Booked.lists {s : State} (h : Booked s) : listsSound s :=
  ⟨h.queueOnce, fun z hz => (h.queued z).mp hz, fun g hg => (h.heated g.zone).mp (List.mem_map.mpr ⟨g, hg, rfl⟩)⟩

/-- A record may be written without a change of its state. -/
theorem Booked.setZone_state {s : State} {z : Zone} {r : ZoneRec} (h : Booked s) (hr : r.state = (s.zones.get z).state) :
    Booked (setZone z r s) := by
  refine h.congr (fun y => ?_) rfl rfl ⟨rfl, fun _ => rfl⟩
  simp only [setZone_zones, PerZone.get_set]
  split
  · rename_i e
    rw [hr, e]
  · rfl

/-- A zone is taken out of both lists, into a state outside them. -/
theorem Booked.withdraw {s t : State} {z : Zone} {r : ZoneRec} (h : Booked s) (ez : t.zones = s.zones.set z r)
    (eq : t.queue = s.queue.filter fun y => decide (y ≠ z)) (eg : t.grants = s.grants.filter fun g => decide (g.zone ≠ z))
    (es : t.settings = s.settings) (hw : r.state ≠ .waiting) (hh : r.state ≠ .heating) : Booked t where
  queueOnce := eq ▸ h.queueOnce.filter _
  grantsOnce := eg ▸ h.grantsOnce.sublist (List.filter_sublist.map _)
  queued y := by
    rw [eq, ez, PerZone.get_set, List.mem_filter, h.queued y]
    split <;> simp_all
  heated y := by
    have hy := h.heated y
    rw [eg, ez, PerZone.get_set]
    simp only [List.mem_map, List.mem_filter, decide_eq_true_eq] at hy ⊢
    split
    · rename_i e
      subst e
      exact ⟨fun ⟨g, ⟨_, hne⟩, e⟩ => absurd e hne, fun k => absurd k hh⟩
    · rename_i hne
      exact Iff.trans ⟨fun ⟨g, ⟨hm, _⟩, e⟩ => ⟨g, hm, e⟩, fun ⟨g, hm, e⟩ => ⟨g, ⟨hm, e ▸ hne⟩, e⟩⟩ hy
  within := by
    have := h.within
    rw [es]
    refine le_trans ?_ this
    rw [grantedSum, grantedSum, eg, es]
    exact (List.filter_sublist.map _).sum_le_sum fun _ _ => Nat.zero_le _

/-- A zone that is not WAITING has no place to lose in the queue. -/
theorem Booked.filter_queue {s : State} {z : Zone} (h : Booked s) (hz : (s.zones.get z).state ≠ .waiting) :
    (s.queue.filter fun y => decide (y ≠ z)) = s.queue :=
  List.filter_eq_self.mpr fun _ hy => decide_eq_true fun e => hz ((h.queued z).mp (e ▸ hy))

/-- A zone that is not HEATING has no grant to lose. -/
theorem Booked.filter_grants {s : State} {z : Zone} (h : Booked s) (hz : (s.zones.get z).state ≠ .heating) :
    (s.grants.filter fun g => decide (g.zone ≠ z)) = s.grants :=
  List.filter_eq_self.mpr fun g hg => decide_eq_true fun e => hz ((h.heated z).mp (List.mem_map.mpr ⟨g, hg, e⟩))

/-- A zone in neither list joins the queue at its tail. -/
theorem Booked.enqueue {s t : State} {z : Zone} {r : ZoneRec} (h : Booked s) (ez : t.zones = s.zones.set z r)
    (eq : t.queue = s.queue ++ [z]) (eg : t.grants = s.grants) (es : t.settings = s.settings) (hr : r.state = .waiting)
    (hw : (s.zones.get z).state ≠ .waiting) (hh : (s.zones.get z).state ≠ .heating) : Booked t where
  queueOnce := by
    rw [eq]
    refine List.nodup_append.mpr ⟨h.queueOnce, List.nodup_singleton z, fun y hy x hx e => hw ((h.queued z).mp ?_)⟩
    rwa [e, List.mem_singleton.mp hx] at hy
  grantsOnce := eg ▸ h.grantsOnce
  queued y := by
    rw [eq, ez, PerZone.get_set, List.mem_append, h.queued y, List.mem_singleton]
    split <;> simp_all
  heated y := by
    rw [eg, ez, PerZone.get_set, h.heated y]
    split <;> simp_all
  within := by
    have := h.within
    rwa [es, grantedSum, eg, es]

/-- R66: the head that fits is granted. -/
theorem grantHead_booked {s : State} (h : Booked s) (hf : headFits s = true) : Booked (grantHead s) := by
  match hq : s.queue with
  | [] => simp [headFits, hq] at hf
  | z :: rest =>
    have within := grantHead_within hq hf
    have hz : (s.zones.get z).state = .waiting := (h.queued z).mp (by simp [hq])
    obtain ⟨notRest, restOnce⟩ := List.nodup_cons.mp (hq ▸ h.queueOnce)
    have notGranted : z ∉ s.grants.map (·.zone) := fun hm => by simpa [hz] using (h.heated z).mp hm
    rw [grantHead_cons hq] at within ⊢
    refine ⟨restOnce, ?_, fun y => ?_, fun y => ?_, within⟩
    · rw [List.map_append]
      refine List.nodup_append.mpr ⟨h.grantsOnce, List.nodup_singleton z, fun y hy x hx e => notGranted ?_⟩
      rwa [e, List.mem_singleton.mp hx] at hy
    · have := h.queued y
      rw [hq, List.mem_cons] at this
      simp only [PerZone.get_set]
      split
      · rename_i e
        subst e
        simp [notRest]
      · simp_all
    · have := h.heated y
      simp only [List.map_append, List.mem_append, List.map_cons, List.map_nil, List.mem_singleton, this, PerZone.get_set]
      split <;> simp_all

theorem allocateUpTo_booked (n : Nat) {s : State} (h : Booked s) : Booked (allocateUpTo n s) := by
  induction n generalizing s with
  | zero => exact h
  | succ n ih =>
    unfold allocateUpTo
    split
    · rename_i hf
      exact ih (grantHead_booked h hf)
    · exact h

theorem allocate_booked {s : State} (h : Booked s) : Booked (allocate s) := allocateUpTo_booked _ h

/-! ### One zone's move -/

/-- R47, R64: a zone that leaves for a state outside the lists. -/
theorem leaveTo_booked {z : Zone} {target : ZoneState} {s : State} (h : Booked s) (hw : target ≠ .waiting) (hh : target ≠ .heating) :
    Booked (leaveTo z target s) := by
  cases hs : (s.zones.get z).state
  case heating =>
    rw [leaveTo_heating hs]
    exact allocate_booked (h.withdraw (z := z) rfl (h.filter_queue (by simp [hs])).symm rfl rfl hw hh)
  case waiting =>
    have left : Booked (setZone z { s.zones.get z with state := target } { s with queue := s.queue.filter fun y => decide (y ≠ z) }) :=
      h.withdraw (z := z) rfl rfl (h.filter_grants (by simp [hs])).symm rfl hw hh
    simp only [leaveTo, hs]
    split
    · exact allocate_booked left
    · exact left
  all_goals
    rw [leaveTo_idle (by simp [hs]) (by simp [hs])]
    exact h.withdraw (z := z) rfl (h.filter_queue (by simp [hs])).symm (h.filter_grants (by simp [hs])).symm rfl hw hh

theorem joinQueue_booked {z : Zone} {s : State} (h : Booked s) (hs : (s.zones.get z).state = .satisfied) : Booked (joinQueue z s) := by
  have joined : Booked (setZone z { s.zones.get z with state := .waiting } { s with queue := s.queue ++ [z] }) :=
    h.enqueue (z := z) rfl rfl rfl rfl rfl (by simp [hs]) (by simp [hs])
  unfold joinQueue
  dsimp only
  split
  · exact allocate_booked joined
  · exact joined

theorem judgeDemand_booked {z : Zone} {s : State} (h : Booked s) (hs : (s.zones.get z).state = .satisfied) :
    Booked (judgeDemand z s) := by
  unfold judgeDemand
  split
  · exact joinQueue_booked h hs
  · exact h

/-- Records and counts beside a zone's move are no matter of the bookkeeping. -/
theorem Booked.of_lists {s t : State} (h : Booked s) (e : t.zones = s.zones ∧ t.queue = s.queue ∧ t.grants = s.grants)
    (hs : t.settings = s.settings) : Booked t :=
  h.congr (fun _ => by rw [e.1]) e.2.1 (by rw [e.2.2]) (hs ▸ ⟨rfl, fun _ => rfl⟩)

theorem settings_of_heat {s t : State} (h : hideHeat t = hideHeat s) : t.settings = s.settings := by
  have e := congrArg State.settings h; exact e

theorem mode_of_heat {s t : State} (h : hideHeat t = hideHeat s) : t.mode = s.mode := by
  have e := congrArg State.mode h; exact e

theorem enterOvertemp_booked {z : Zone} {s : State} (h : Booked s) : Booked (enterOvertemp z s) :=
  (leaveTo_booked (z := z) (target := .overtemp) h (by decide) (by decide)).of_lists (enterOvertemp_zones z s)
    (settings_of_heat (by simp))

theorem enterSensorFault_booked {z : Zone} {s : State} (h : Booked s) : Booked (enterSensorFault z s) :=
  (leaveTo_booked (z := z) (target := .fault) h (by decide) (by decide)).of_lists (enterSensorFault_zones z s)
    (settings_of_heat (by simp))

theorem elementFail_booked {z : Zone} {s : State} (h : Booked s) : Booked (elementFail z s) := by
  have latched : Booked (setLatch z true (leaveTo z .fault s)) :=
    (leaveTo_booked (z := z) (target := .fault) h (by decide) (by decide)).setZone_state rfl
  exact latched.of_lists (elementFail_zones z s) (settings_of_heat (by simp [setLatch]))

/-- R45: an evaluation of a zone keeps the bookkeeping. -/
theorem evaluateByState_booked {z : Zone} {s : State} (h : Booked s) : Booked (evaluateByState z s) := by
  have left : Booked (leaveTo z .satisfied s) := leaveTo_booked h (by decide) (by decide)
  have satisfied : Booked (judgeDemand z (leaveTo z .satisfied s)) :=
    judgeDemand_booked left (leaveTo_moves h.lists (by decide)).2.1
  cases hs : (s.zones.get z).state <;> simp only [evaluateByState, hs]
  case off => exact h
  case fault => exact satisfied
  case overtemp => split; exacts [satisfied, h]
  case heating => split; exacts [left, h]
  case waiting => split; exacts [h, left]
  case satisfied => exact judgeDemand_booked h hs

theorem evaluateZone_booked {z : Zone} {s : State} (h : Booked s) : Booked (evaluateZone z s) := by
  unfold evaluateZone
  dsimp only
  split
  · exact h
  · split
    · exact h
    · split
      · split
        · exact h
        · exact enterSensorFault_booked h
      · split
        · split
          · exact h
          · exact enterOvertemp_booked h
        · exact evaluateByState_booked h

theorem reselect_booked {z : Zone} {s : State} (h : Booked s) : Booked (reselect z s) := by
  unfold reselect
  dsimp only
  split
  · exact h
  · refine evaluateZone_booked (h.setZone_state ?_)
    rfl

/-- A zone that is OFF is written into a state outside the lists. -/
theorem Booked.setZone_out {s : State} {z : Zone} {r : ZoneRec} (h : Booked s) (ho : (s.zones.get z).state = .off)
    (hw : r.state ≠ .waiting) (hh : r.state ≠ .heating) : Booked (setZone z r s) :=
  h.withdraw (z := z) rfl (h.filter_queue (by simp [ho])).symm (h.filter_grants (by simp [ho])).symm rfl hw hh

theorem enterHeating_booked {z : Zone} {s : State} (h : Booked s) : Booked (enterHeating z s) := by
  unfold enterHeating
  dsimp only
  split
  · exact h
  · rename_i ho
    have off : (s.zones.get z).state = .off := by
      by_contra k
      exact ho (.inr k)
    split
    · exact h.setZone_out off (by simp) (by simp)
    · exact evaluateZone_booked (h.setZone_out off (by simp) (by simp))

theorem eachZone_keeps {P : State → Prop} {f : Zone → State → State} (hf : ∀ z s, P s → P (f z s)) {s : State} (h : P s) :
    P (eachZone f s) := by
  unfold eachZone
  induction allZones generalizing s with
  | nil => exact h
  | cons z zs ih => exact ih (hf z s h)

theorem rotateGrant_booked {z : Zone} {s : State} (h : Booked s) (hs : (s.zones.get z).state = .heating) : Booked (rotateGrant z s) := by
  have freed : Booked (setZone z { s.zones.get z with state := .satisfied, check := .idle, checkMs := 0 }
      { s with grants := s.grants.filter fun g => decide (g.zone ≠ z) }) :=
    h.withdraw (z := z) rfl (h.filter_queue (by simp [hs])).symm rfl rfl (by simp) (by simp)
  unfold rotateGrant
  dsimp only
  split
  · refine allocate_booked (freed.enqueue (z := z) (r := { s.zones.get z with state := .waiting, check := .idle, checkMs := 0 })
      ?_ rfl rfl rfl rfl (by simp) (by simp))
    simp
  · exact allocate_booked freed

end Sys2Proof.Machine
end

section
/-! PROOFS. The budget rules through a mode change, a readiness evaluation, a write and every other event; and the rules kept by every step. O6. -/

namespace Sys2Proof.Machine

open Sys2Proof

/-! ### Mode changes and readiness evaluations (R2, R7, R49 to R51) -/

theorem budgetSound_of_view {s t : State} (h : budgetSound s = true) (e : heatView t = heatView s) : budgetSound t = true :=
  (congrArg budgetSound e).trans h

/-- Zones that are all OFF keep the budget rules in every mode, under any settings. -/
theorem budgetSound_of_off {s : State} (hz : ∀ z, (s.zones.get z).state = .off) (hq : s.queue = []) (hg : s.grants = []) :
    budgetSound s = true := (budgetSound_iff s).mpr ⟨Booked.of_off hz hq hg, .inr hz⟩

/-- R41, R51: outside the heating modes nothing waits and nothing is granted. -/
theorem off_of_budgetSound {s : State} (h : budgetSound s = true) (hm : heatingMode s.mode = false) :
    (∀ z, (s.zones.get z).state = .off) ∧ s.queue = [] ∧ s.grants = [] := by
  obtain ⟨booked, rest⟩ := (budgetSound_iff s).mp h
  have off := rest.resolve_left (by simp [hm])
  exact ⟨off, booked.queue_of_off off, booked.grants_of_off off⟩

/-- In a heating mode the bookkeeping is all that the budget rules ask. -/
theorem budgetSound_of_booked {s : State} (h : Booked s) (hm : heatingMode s.mode = true) : budgetSound s = true :=
  (budgetSound_iff s).mpr ⟨h, .inl hm⟩

/-- R49 to R51: the zones see the mode. -/
theorem zonesSeeMode_budget {old : Mode} {s : State} (h : budgetSound { s with mode := old } = true) :
    budgetSound (zonesSeeMode old s) = true := by
  obtain ⟨booked, rest⟩ := (budgetSound_iff _).mp h
  have booked : Booked s := booked.congr (fun _ => rfl) rfl rfl ⟨rfl, fun _ => rfl⟩
  have mode := mode_of_heat (hideHeat_zonesSeeMode old s)
  unfold zonesSeeMode at mode ⊢
  split
  · rename_i hm
    rw [if_pos hm] at mode
    refine budgetSound_of_booked ?_ (by rw [mode]; exact hm)
    split
    · exact eachZone_keeps (P := Booked) (fun _ _ => reselect_booked) booked
    · exact eachZone_keeps (P := Booked) (fun _ _ => enterHeating_booked) booked
  · split
    · exact budgetSound_of_off (fun z => by rw [parkZones_get]; rfl) rfl rfl
    · rename_i ho
      exact (budgetSound_iff s).mpr ⟨booked, .inr (rest.resolve_left ho)⟩

theorem blocksSee_budget {old : Mode} {run e : Bool} {s : State} (h : budgetSound { s with mode := old } = true) :
    budgetSound (blocksSee old run e s) = true := by
  refine budgetSound_of_view ?_ (heatView_blocksSee old run e s)
  split
  · rename_i hm
    subst hm
    exact h
  · refine zonesSeeMode_budget ?_
    rw [travelSeesMode_eq]
    exact h

/-- R7, R10, R11: a readiness evaluation, with the mode changes it sets off. -/
theorem settleReadiness_budget {s : State} (h : budgetSound s = true) : budgetSound (settleReadiness s) = true := by
  by_cases hm : s.mode = .starting
  · rwa [settleReadiness_starting hm]
  · rw [settleReadiness_running hm]
    refine blocksSee_budget (s := readinessTaken s) ?_
    rw [readinessTaken_eq]
    exact h

theorem takeModeChange_budget {m : Mode} {c : ModeCause} {o : Origin} {e : Bool} {s : State} (h : budgetSound s = true) :
    budgetSound (takeModeChange m c o e s) = true := by
  rw [takeModeChange_eq]
  refine settleReadiness_budget (blocksSee_budget ?_)
  rw [modeTaken_eq]
  exact h

/-! ### The mode controller's events -/

theorem goEffect_budget {p : Port} {g : GoTarget} {s t : State} (hg : goEffect p g s = some t) (h : budgetSound s = true) :
    budgetSound t = true := by
  match hk : goEntry g s.mode with
  | none => rw [goEffect_none p hk] at hg; cases hg
  | some (some m) =>
    rw [goEffect_entry p hk] at hg
    rw [← Option.some.inj hg]
    refine takeModeChange_budget ?_
    rw [goStart_eq]
    exact h
  | some none =>
    rcases goEffect_stay p hk with ⟨-, -, e⟩ | ⟨-, -, e⟩ | ⟨-, -, e⟩ | ⟨-, -, e⟩ <;> rw [e] at hg <;> rw [← Option.some.inj hg]
    · exact h
    · exact settleReadiness_budget h
    · exact h
    · exact h

theorem endWindow_budget {s : State} (h : budgetSound s = true) : budgetSound (endWindow s) = true := by
  unfold endWindow
  refine settleReadiness_budget (blocksSee_budget ?_)
  split
  · rw [changeMode_eq]
    exact h
  · exact h

theorem matchStop_budget {s : State} (h : budgetSound s = true) : budgetSound (matchStop s) = true := by
  unfold matchStop
  dsimp only
  split
  · exact h
  · refine settleReadiness_budget (blocksSee_budget ?_)
    rw [appendEvent_eq, changeMode_eq]
    exact h

theorem assertEstop_budget {s : State} (h : budgetSound s = true) : budgetSound (assertEstop s) = true := by
  have latched : budgetSound (endWidthJogs .eStop { s with estop := true }) = true := by
    rw [endWidthJogs_eq]
    exact h
  unfold assertEstop
  dsimp only
  split
  · exact latched
  · rw [eachFeed_forceFeedOff, forceSidesOff_eq]
    exact latched
  · exact takeModeChange_budget latched

theorem modeFreed_budget {s : State} (h : budgetSound s = true) : budgetSound (modeFreed s) = true := by
  unfold modeFreed
  dsimp only
  split
  · exact takeModeChange_budget h
  · exact h

/-- R5, R6: the settings that a load brings find every zone OFF. -/
theorem completeLoad_budget (b : Bool) {s : State} (h : budgetSound s = true) : budgetSound (completeLoad b s) = true := by
  unfold completeLoad
  split
  · rename_i hm
    obtain ⟨off, queue, grants⟩ := off_of_budgetSound h (by simp [heatingMode, hm])
    refine budgetSound_of_view ?_ (heatView_of_round (hideRound_startRound _))
    refine blocksSee_budget ?_
    simp only [changeMode_eq, evaluateReadiness, numberJob, recordJob, appendEvent_eq, noteOutcome]
    split <;> exact budgetSound_of_off off queue grants
  · exact h

/-! ### The heating controller's events -/

/-- An operation of the heating controller on one zone, which leaves every state alone where the zone is OFF. -/
theorem budgetSound_of_heat {s t : State} {z : Zone} (h : budgetSound s = true) (frame : hideHeat t = hideHeat s) (booked : Booked t)
    (rest : (s.zones.get z).state = .off → t.zones = s.zones) : budgetSound t = true := by
  obtain ⟨-, off⟩ := (budgetSound_iff s).mp h
  refine (budgetSound_iff t).mpr ⟨booked, ?_⟩
  rcases off with hm | off
  · exact .inl (mode_of_heat frame ▸ hm)
  · exact .inr fun y => rest (off z) ▸ off y

theorem Booked.of_budgetSound {s : State} (h : budgetSound s = true) : Booked s := ((budgetSound_iff s).mp h).1

theorem evaluateZone_budget (z : Zone) {s : State} (h : budgetSound s = true) : budgetSound (evaluateZone z s) = true :=
  budgetSound_of_heat h (hideHeat_evaluateZone z s) (evaluateZone_booked (.of_budgetSound h)) fun ho => by
    rw [evaluateZone_held (.inl ho)]

theorem reselect_off {z : Zone} {s : State} (h : (s.zones.get z).state = .off) : reselect z s = s := if_pos (.inl h)

theorem reselect_budget (z : Zone) {s : State} (h : budgetSound s = true) : budgetSound (reselect z s) = true :=
  budgetSound_of_heat h (hideHeat_reselect z s) (reselect_booked (.of_budgetSound h)) fun ho => by rw [reselect_off ho]

theorem zoneConversion_budget (z : Zone) {s : State} (h : budgetSound s = true) : budgetSound (zoneConversion z s) = true :=
  evaluateZone_budget z (budgetSound_of_view h (heatView_trackMaximum z s))

theorem extConversion_budget (d : Side) {s : State} (h : budgetSound s = true) : budgetSound (extConversion d s) = true := by
  unfold extConversion
  dsimp only
  split
  · exact budgetSound_of_view h ((heatView_becomeStale _ _).trans (heatView_endWidthJog _ _ _))
  · refine reselect_budget _ ?_
    split
    · rw [endWidthJog_eq]
      exact h
    · exact h

theorem elementFail_budget {z : Zone} {s : State} (h : budgetSound s = true) (hn : (s.zones.get z).state ≠ .off) :
    budgetSound (elementFail z s) = true :=
  budgetSound_of_heat h (hideHeat_elementFail z s) (elementFail_booked (.of_budgetSound h)) fun ho => absurd ho hn

theorem feedbackChange_budget (z : Zone) {s : State} (h : budgetSound s = true) : budgetSound (feedbackChange z s) = true := by
  unfold feedbackChange
  dsimp only
  split
  · rename_i hk
    exact elementFail_budget h (by simp [hk.1])
  · exact h

/-- A record written with its state kept. -/
theorem setZone_budget {z : Zone} {r : ZoneRec} {s : State} (h : budgetSound s = true) (hr : r.state = (s.zones.get z).state) :
    budgetSound (setZone z r s) = true := by
  obtain ⟨booked, rest⟩ := (budgetSound_iff s).mp h
  refine (budgetSound_iff _).mpr ⟨booked.setZone_state hr, rest.imp_right fun off y => ?_⟩
  rw [setZone_zones, PerZone.get_set]
  split
  · exact hr.trans (off z)
  · exact off y

theorem checkDelayEnd_budget {z : Zone} {s : State} (hc : checkReached s z = true) (h : budgetSound s = true) :
    budgetSound (checkDelayEnd z s) = true := by
  simp only [checkReached, Bool.and_eq_true, decide_eq_true_eq] at hc
  unfold checkDelayEnd
  split
  · exact setZone_budget h rfl
  · exact elementFail_budget h (by simp [hc.1.1])

/-- R68 to R70: a grant that is renewed or rotated. -/
theorem expireSlice_budget {z : Zone} {s : State} (hr : sliceReached s z = true) (h : budgetSound s = true) :
    budgetSound (expireSlice z s) = true := by
  have booked := Booked.of_budgetSound h
  obtain ⟨g, hg, hz⟩ := List.any_eq_true.mp hr
  have hz : g.zone = z := by simp only [Bool.and_eq_true, decide_eq_true_eq] at hz; exact hz.1
  have heating : (s.zones.get z).state = .heating := (booked.heated z).mp (List.mem_map.mpr ⟨g, hg, hz⟩)
  refine budgetSound_of_heat (z := z) h (hideHeat_expireSlice z s) ?_ fun ho => absurd ho (by simp [heating])
  unfold expireSlice
  split
  · refine booked.congr (fun _ => rfl) rfl ?_ ⟨rfl, fun _ => rfl⟩
    simp only [renewGrant, List.map_map]
    refine List.map_congr_left fun g _ => ?_
    simp only [Function.comp_apply]
    split <;> rfl
  · exact rotateGrant_booked booked heating

/-- R57: a latch is cleared, and a zone in FAULT evaluated again. -/
theorem clearLatch_budget {z : Zone} {p : Port} {s : State} (h : budgetSound s = true) : budgetSound (clearLatch z p s) = true := by
  have cleared : budgetSound (appendEvent (.port p) (.zoneCleared z (zoneTemp s z)) (setLatch z false s)) = true :=
    budgetSound_of_view (s := setLatch z false s) (setZone_budget h rfl) (heatView_appendEvent _ _ _)
  unfold clearLatch
  dsimp only
  split
  · rename_i hs
    refine evaluateZone_budget z (budgetSound_of_heat (z := z) cleared (hideHeat_leaveTo _ _ _)
      (leaveTo_booked (.of_budgetSound cleared) (by decide) (by decide)) fun ho => ?_)
    rw [appendEvent_eq] at ho
    simp [setLatch, hs] at ho
  · exact cleared

/-! ### Writes (R171) -/

/-- A zone's settings written without its rating. -/
theorem sameBudget_storeZone {z : Zone} {c : ZoneSettings} {f : Settings} (hc : c.rating = (f.zones.get z).rating) :
    SameBudget f (storeZone f z c) := by
  refine ⟨rfl, fun y => ?_⟩
  simp only [storeZone, PerZone.get_set]
  split
  · rename_i e
    rw [e, hc]
  · rfl

/-- A setpoint is no rating and no limit. -/
theorem sameBudget_setpoint {x : Setting} {f : Function} (hx : setpointOwner x = some f) (g : Settings) (v : Int) :
    SameBudget g (storeSetting g x v) := by
  cases x with
  | zoneSetpoint z set => cases set <;> exact sameBudget_storeZone rfl
  | exclude z => exact sameBudget_storeZone rfl
  | sideSetpoint d which => cases which <;> exact ⟨rfl, fun _ => rfl⟩
  | levelSetpoint _ | standbyCode => exact ⟨rfl, fun _ => rfl⟩
  | _ => cases hx

theorem budgetSound_setSettings {s : State} {g : Settings} (e : SameBudget s.settings g) (h : budgetSound s = true) :
    budgetSound (setSettings g s) = true := by
  obtain ⟨booked, rest⟩ := (budgetSound_iff s).mp h
  exact (budgetSound_iff _).mpr ⟨booked.congr (fun _ => rfl) rfl rfl e, rest⟩

theorem enterHeating_budget {z : Zone} {s : State} (h : budgetSound s = true) (hm : heatingMode s.mode = true) :
    budgetSound (enterHeating z s) = true :=
  budgetSound_of_booked (enterHeating_booked (.of_budgetSound h)) (mode_of_heat (hideHeat_enterHeating z s) ▸ hm)

/-- R58: an excluded zone leaves its grant or its place in the queue. -/
theorem excludeZone_budget {z : Zone} {s : State} (h : budgetSound s = true) : budgetSound (excludeZone z s) = true := by
  unfold excludeZone
  split
  · exact h
  · rename_i hn
    have booked := Booked.of_budgetSound h
    have out := (leaveTo_moves (z := z) (target := .off) booked.lists (by decide)).2.1
    exact budgetSound_of_heat (z := z) h (by simp)
      ((leaveTo_booked booked (by decide) (by decide)).setZone_state out.symm) fun ho => absurd ho hn

theorem writeExclude_budget {z : Zone} {flag : Bool} {s : State} (h : budgetSound s = true) : budgetSound (writeExclude z flag s) = true := by
  have stored : budgetSound (setSettings (storeZone s.settings z { s.settings.zones.get z with exclude := flag }) s) = true :=
    budgetSound_setSettings (sameBudget_storeZone rfl) h
  unfold writeExclude
  dsimp only
  split
  · exact h
  · split
    · exact excludeZone_budget stored
    · split
      · rename_i hm
        exact enterHeating_budget stored hm
      · exact stored

/-- An accepted write keeps the budget rules: a setpoint leaves the ratings and the limit, and any other item is written in PARKED only, where
nothing is granted. -/
theorem applySetting_budget {x : Setting} {s : State} (hx : s.mode = .parked ∨ setpointOwner x ≠ none) (v : Int)
    (h : budgetSound s = true) : budgetSound (applySetting x v s) = true := by
  have stored : budgetSound (storeOnly x v s) = true := by
    rcases hx with hm | ho
    · obtain ⟨off, queue, grants⟩ := off_of_budgetSound h (by simp [heatingMode, hm])
      exact budgetSound_of_off off queue grants
    · obtain ⟨f, ho⟩ := Option.ne_none_iff_exists'.mp ho
      exact budgetSound_setSettings (sameBudget_setpoint ho _ v) h
  cases hj : judgedSetting x
  · rcases heatView_applySetting hj v s with e | e
    · exact budgetSound_of_view h e
    · exact budgetSound_of_view stored e
  · cases x with
    | readinessBand | extThreshold | screed _ => exact settleReadiness_budget stored
    | zoneSetpoint z set =>
      simp only [applySetting, writeZoneSetpoint]
      split
      · exact h
      · exact settleReadiness_budget (reselect_budget z stored)
    | exclude z =>
      simp only [applySetting, writeExcludeFlag]
      split
      · exact h
      · exact settleReadiness_budget (writeExclude_budget h)
    | input i p =>
      cases p with
      | debounce => cases i <;> cases hj
      | mode =>
        cases i with
        | feedback z => exact settleReadiness_budget (feedbackChange_budget z stored)
        | travelPulse | travelDir | estop => cases hj
    | _ => cases hj

/-! ### A millisecond -/

theorem elapse_budget {s : State} (h : budgetSound s = true) : budgetSound (elapse s) = true := by
  have state (z : Zone) : ((elapse s).zones.get z).state = (s.zones.get z).state := by rw [elapse_zone, (elapseZone_rule _).1]
  obtain ⟨booked, rest⟩ := (budgetSound_iff s).mp h
  refine (budgetSound_iff _).mpr ⟨booked.congr state rfl ?_ ⟨rfl, fun _ => rfl⟩, rest.imp_right fun off z => (state z).trans (off z)⟩
  simp only [elapse, List.map_map]
  rfl

/-! ### The budget rules are kept (O6) -/

theorem budgetSound_kept : KeptByBlocks (fun s => budgetSound s = true) where
  view h _ e := budgetSound_of_view h e
  reset s _ := budgetSound_of_off (fun z => by cases z <;> rfl) rfl rfl
  load b _ h := completeLoad_budget b h
  go _ _ _ _ _ hg h := goEffect_budget hg h
  pause _ _ h := takeModeChange_budget h
  window _ h := endWindow_budget h
  stop _ h := matchStop_budget h
  assertEstop _ h := assertEstop_budget h
  releaseEstop _ h := h
  modeFreed _ h := modeFreed_budget h
  temperature z r s h := settleReadiness_budget (zoneConversion_budget z (s := setAnalog (.temp z) r s) h)
  extension d _ h := settleReadiness_budget (extConversion_budget d h)
  feedback z _ h := settleReadiness_budget (feedbackChange_budget z h)
  check _ _ hc h := settleReadiness_budget (checkDelayEnd_budget hc h)
  slice _ _ hr h := settleReadiness_budget (expireSlice_budget hr h)
  clear _ _ _ h := settleReadiness_budget (clearLatch_budget h)
  config _ v _ hm _ _ _ h := applySetting_budget (.inl hm) v h
  setpoint _ v _ _ ho h := applySetting_budget (.inr (by simp [ho])) v h
  elapse _ h := elapse_budget h

end Sys2Proof.Machine

open Sys2Proof Sys2Proof.Machine

/-- Settles O6: the bookkeeping of the allocator (`Booked`) and the rest outside the heating modes are kept by every block. -/
theorem budgetRulesKept : Obligations.BudgetRulesKept := by
  unfold Obligations.BudgetRulesKept
  intro s t h e
  exact step_keeps budgetSound_kept h e
end

section
/-! PROOFS. The evaluation of a zone test by test (R45, R46, R52 to R54), and what an entry to OVERTEMP or FAULT counts and records (R74). O31
and O32. -/

namespace Sys2Proof.Machine

open Sys2Proof

/-! ### The tests of R45 in order -/

theorem overCeiling_eq (s : State) (z : Zone) :
    overCeiling s z = decide ((s.zones.get z).activeSetpoint + s.settings.overtempMargin < zoneTemp s z ∨ 2200 < zoneTemp s z) :=
  (Bool.decide_or _ _).symm

/-- R45, test 3. -/
theorem evaluateZone_faulted {z : Zone} {s : State} (hn : (s.zones.get z).state ≠ .off) (hl : (s.zones.get z).latch = false)
    (hf : zoneChannelFault s z = true) :
    evaluateZone z s = if (s.zones.get z).state = .fault then s else enterSensorFault z s := by
  simp [evaluateZone, hn, hl, hf]

/-- R45 with R52: a temperature over the ceiling. -/
theorem evaluateZone_hot {z : Zone} {s : State} (hn : (s.zones.get z).state ≠ .off) (hl : (s.zones.get z).latch = false)
    (hf : zoneChannelFault s z = false) (hc : overCeiling s z = true) :
    evaluateZone z s = if (s.zones.get z).state = .overtemp then s else enterOvertemp z s := by
  simp [evaluateZone, hn, hl, hf, hc]

theorem evaluateZone_judged {z : Zone} {s : State} (hn : (s.zones.get z).state ≠ .off) (hl : (s.zones.get z).latch = false)
    (hf : zoneChannelFault s z = false) (hc : overCeiling s z = false) : evaluateZone z s = evaluateByState z s := by
  simp [evaluateZone, hn, hl, hf, hc]

/-! ### Where the evaluated zone stands after them -/

/-- R46, R66: where a zone with its demand judged stands: SATISFIED without demand; with it HEATING from an empty queue under enough free power,
WAITING otherwise. -/
def joinedState (s : State) (z : Zone) : ZoneState :=
  if demand s z = false then .satisfied
  else if s.queue = [] ∧ ((s.settings.zones.get z).rating : Int) ≤ freePower s then .heating else .waiting

/-- R66: a zone alone in the queue is granted if it fits. -/
theorem allocate_single {s : State} {z : Zone} (h : s.queue = [z]) :
    allocate s = if ((s.settings.zones.get z).rating : Int) ≤ freePower s then grantHead s else s := by
  simp [allocate, allocateUpTo, headFits, h]

theorem joinQueue_state (z : Zone) (s : State) :
    ((joinQueue z s).zones.get z).state
      = if s.queue = [] ∧ ((s.settings.zones.get z).rating : Int) ≤ freePower s then .heating else .waiting := by
  unfold joinQueue
  dsimp only
  by_cases hq : s.queue = []
  · generalize hj : setZone z { s.zones.get z with state := .waiting } { s with queue := s.queue ++ [z] } = t
    have queue : t.queue = [z] := by rw [← hj]; simp [hq]
    have power : freePower t = freePower s := by rw [← hj]; rfl
    have settings : t.settings = s.settings := by rw [← hj]; rfl
    have state : (t.zones.get z).state = .waiting := by rw [← hj]; simp
    rw [if_pos hq, allocate_single queue, power, settings]
    by_cases hp : ((s.settings.zones.get z).rating : Int) ≤ freePower s
    · rw [if_pos hp, grantHead_cons queue]
      simp [hq, hp]
    · rw [if_neg hp, state]
      simp [hp]
  · rw [if_neg hq]
    simp [hq]

theorem judgeDemand_state {z : Zone} {s : State} (hs : (s.zones.get z).state = .satisfied) :
    ((judgeDemand z s).zones.get z).state = joinedState s z := by
  unfold judgeDemand joinedState
  cases hd : demand s z
  · simpa using hs
  · simpa using joinQueue_state z s

/-- A zone that leaves FAULT or OVERTEMP has its demand judged as it stood. -/
theorem satisfied_state {z : Zone} {s : State} (hh : (s.zones.get z).state ≠ .heating) (hw : (s.zones.get z).state ≠ .waiting) :
    ((judgeDemand z (leaveTo z .satisfied s)).zones.get z).state = joinedState s z := by
  rw [judgeDemand_state (by rw [leaveTo_idle hh hw]; simp), leaveTo_idle hh hw]
  simp only [joinedState, demand, PerZone.get_set_same]
  rfl

/-- R45, tests 4 to 8: where they leave the zone, by the state it stood in. -/
theorem evaluateByState_state {z : Zone} {s : State} (h : listsSound s) :
    ((evaluateByState z s).zones.get z).state
      = match (s.zones.get z).state with
        | .off => .off
        | .satisfied | .fault => joinedState s z
        | .overtemp => if zoneTemp s z ≤ (s.zones.get z).activeSetpoint then joinedState s z else .overtemp
        | .heating => if (s.zones.get z).activeSetpoint ≤ zoneTemp s z then .satisfied else .heating
        | .waiting => if demand s z then .waiting else .satisfied := by
  have released := (leaveTo_moves (z := z) (target := .satisfied) h (by decide)).2.1
  cases hs : (s.zones.get z).state <;> simp only [evaluateByState, hs]
  case fault => exact satisfied_state (by simp [hs]) (by simp [hs])
  case satisfied => exact judgeDemand_state hs
  case overtemp =>
    split
    · exact satisfied_state (by simp [hs]) (by simp [hs])
    · exact hs
  case heating => split; exacts [released, hs]
  case waiting => split; exacts [hs, released]

theorem evaluateZone_others {z : Zone} {s : State} (h : listsSound s) {y : Zone} (hy : y ≠ z) :
    grantedFrom (s.zones.get y) ((evaluateZone z s).zones.get y) := by
  by_cases hk : (s.zones.get z).state = .off ∨ (s.zones.get z).latch = true
  · rw [evaluateZone_held hk]
    exact grantedFrom_refl _
  · obtain ⟨hn, hl⟩ := not_or.mp hk
    exact (evaluateZone_moves h hn (by simpa using hl)).1.others y hy

/-! ### What the heating controller leaves when a zone leaves its place -/

/-- From `s` to `t` the zones, the queue and the grant list are written at most. -/
def movesOnly (s t : State) : Prop := t = { s with zones := t.zones, queue := t.queue, grants := t.grants }

theorem movesOnly.trans {s t u : State} (h : movesOnly s t) (k : movesOnly t u) : movesOnly s u := by
  unfold movesOnly at h
  rw [h] at k
  exact k

theorem movesOnly_grantHead (s : State) : movesOnly s (grantHead s) := by
  unfold grantHead
  split <;> rfl

theorem movesOnly_allocate (s : State) : movesOnly s (allocate s) := by
  unfold allocate
  generalize s.queue.length = n
  induction n generalizing s with
  | zero => rfl
  | succ n ih =>
    unfold allocateUpTo
    split
    · exact (movesOnly_grantHead s).trans (ih _)
    · rfl

/-- R47, R64: a zone that leaves its place. -/
theorem movesOnly_leaveTo (z : Zone) (target : ZoneState) (s : State) : movesOnly s (leaveTo z target s) := by
  unfold leaveTo
  dsimp only
  split
  · refine movesOnly.trans ?_ (movesOnly_allocate _)
    rfl
  · split
    · refine movesOnly.trans ?_ (movesOnly_allocate _)
      rfl
    · rfl
  · rfl

theorem movesOnly_setLatch (z : Zone) (latch : Bool) (s : State) : movesOnly s (setLatch z latch s) := rfl

theorem sameRule_refl (r : ZoneRec) : sameRule r r := ⟨rfl, rfl, rfl⟩

/-- A record written with its latch, its set and its setpoint kept. -/
theorem sameRule_set {v : PerZone ZoneRec} {z : Zone} {r : ZoneRec} (h : sameRule (v.get z) r) (y : Zone) :
    sameRule (v.get y) ((v.set z r).get y) := by
  rw [PerZone.get_set]
  split
  · rename_i e
    exact e ▸ h
  · exact sameRule_refl _

/-- A grant writes no latch, no active set and no active setpoint. -/
theorem allocate_rule (s : State) (y : Zone) : sameRule (s.zones.get y) ((allocate s).zones.get y) := by
  unfold allocate
  generalize s.queue.length = n
  induction n generalizing s with
  | zero => exact sameRule_refl _
  | succ n ih =>
    unfold allocateUpTo
    split
    · refine sameRule_trans ?_ (ih (grantHead s))
      match hq : s.queue with
      | [] => simpa [grantHead, hq] using sameRule_refl _
      | z :: rest =>
        rw [grantHead_cons hq]
        exact sameRule_set (by exact sameRule_refl _) y
    · exact sameRule_refl _

/-- A zone that leaves its place keeps its latch, its set and its setpoint, and so does every other. -/
theorem leaveTo_rule (z : Zone) (target : ZoneState) (s : State) (y : Zone) :
    sameRule (s.zones.get y) ((leaveTo z target s).zones.get y) := by
  have written {t : State} {r : ZoneRec} (hr : sameRule (s.zones.get z) r) (e : t.zones = s.zones.set z r) :
      sameRule (s.zones.get y) (t.zones.get y) := e ▸ sameRule_set hr y
  unfold leaveTo
  dsimp only
  split
  · exact sameRule_trans (written (by exact ⟨rfl, rfl, rfl⟩) rfl) (allocate_rule _ y)
  · split
    · exact sameRule_trans (written (by exact ⟨rfl, rfl, rfl⟩) rfl) (allocate_rule _ y)
    · exact written (by exact ⟨rfl, rfl, rfl⟩) rfl
  · exact written (by exact ⟨rfl, rfl, rfl⟩) rfl

/-! ### Entries to OVERTEMP and FAULT (R52, R54, R55, R74) -/

/-- R74: the record of one fault counted, with the last fault, its clock value and its station replaced together. -/
def faultNoted (kind : HealthFault) (s : State) (h : Health) : Health :=
  { countFault kind h with lastFault := kind, lastStamp := s.clock, lastStation := s.travel.station }

/-- What an entry writes beside the zones, the queue and the grant list: one count and one record. -/
theorem faultEntry_eq {s t : State} {z : Zone} (kind : HealthFault) (e : Event) (h : movesOnly s t) :
    appendEvent .heating e (noteFault z kind t)
      = { t with
          health := s.health.set z (faultNoted kind s (s.health.get z))
          events := eventsAfter s [(.heating, e)] } := by
  rw [appendEvent_eq, h]
  rfl

theorem enterOvertemp_eq (z : Zone) (s : State) :
    enterOvertemp z s
      = { leaveTo z .overtemp s with
          health := s.health.set z (faultNoted .overtemp s (s.health.get z))
          events := eventsAfter s [(.heating, .zoneOvertemp z (zoneTemp s z) (s.zones.get z).activeSetpoint)] } :=
  faultEntry_eq _ _ (movesOnly_leaveTo z .overtemp s)

theorem enterSensorFault_eq (z : Zone) (s : State) :
    enterSensorFault z s
      = { leaveTo z .fault s with
          health := s.health.set z (faultNoted .sensor s (s.health.get z))
          events := eventsAfter s [(.heating, .zoneFault z .sensor (zoneTemp s z))] } :=
  faultEntry_eq _ _ (movesOnly_leaveTo z .fault s)

theorem elementFail_eq (z : Zone) (s : State) :
    elementFail z s
      = { setLatch z true (leaveTo z .fault s) with
          health := s.health.set z (faultNoted .element s (s.health.get z))
          events := eventsAfter s [(.heating, .zoneFault z .element (zoneTemp s z))] } :=
  faultEntry_eq _ _ ((movesOnly_leaveTo z .fault s).trans (movesOnly_setLatch z true _))

end Sys2Proof.Machine

open Sys2Proof Sys2Proof.Machine

/-- Settles O31: the tests in their order, and where each leaves the zone. -/
theorem zoneEvaluationFollowsItsTests : Obligations.ZoneEvaluationFollowsItsTests := by
  unfold Obligations.ZoneEvaluationFollowsItsTests
  intro z s h r after temp hot wants joined
  have lists := listsSound_of_budgetSound h
  have joined_eq : joined = joinedState s z := rfl
  have hot_eq : hot = overCeiling s z := (overCeiling_eq s z).symm
  refine ⟨fun hk => evaluateZone_held hk, fun hn hl => ⟨fun hf => ?_, fun hf hc => ?_, fun hf hc => ?_⟩, fun y hy hne => ?_⟩
  · exact ⟨((evaluateZone_moves lists hn hl).2.2.2).mpr hf, evaluateZone_faulted hn hl hf⟩
  · have act := evaluateZone_hot hn hl hf (hot_eq.symm.trans hc)
    refine ⟨?_, act⟩
    change ((evaluateZone z s).zones.get z).state = .overtemp
    rw [act]
    split
    · assumption
    · rw [(enterOvertemp_zones z s).1]
      exact (leaveTo_moves lists (by decide)).2.1
  · have act := evaluateZone_judged hn hl hf (hot_eq.symm.trans hc)
    have state : after.state = _ := (congrArg (fun u : State => (u.zones.get z).state) act).trans (evaluateByState_state lists)
    have standing {st : ZoneState} (hs : r.state = st) : (s.zones.get z).state = st := hs
    rw [joined_eq, state]
    refine ⟨?_, fun hs => by rw [standing hs], fun hs => by rw [standing hs], fun hs => by rw [standing hs]; rfl⟩
    rintro (hs | hs) <;> rw [standing hs]
  · rcases evaluateZone_others lists hy with e | ⟨hw, e⟩
    · exact absurd e hne
    · exact ⟨hw, by rw [e]⟩

/-- Settles O32: each entry is the zone's leaving with one count and one record beside it (`faultEntry_eq`). -/
theorem faultEntriesAreCounted : Obligations.FaultEntriesAreCounted := by
  unfold Obligations.FaultEntriesAreCounted
  intro z s h stamped
  obtain ⟨-, -, setpoint⟩ := leaveTo_rule z .overtemp s z
  rw [enterOvertemp_eq, enterSensorFault_eq, elementFail_eq]
  exact ⟨⟨rfl, by rw [setpoint]⟩, ⟨rfl, rfl⟩, rfl, rfl, by simp [setLatch]⟩
end

section
/-! PROOFS. What an evaluation or a selection of one zone leaves alone, and a readiness evaluation as the zones see it: every zone selected again at
most (R43, R45, R50). -/

namespace Sys2Proof.Machine

open Sys2Proof

/-! ### Latches, sets and setpoints -/

theorem joinQueue_rule (z : Zone) (s : State) (y : Zone) : sameRule (s.zones.get y) ((joinQueue z s).zones.get y) := by
  have joined : sameRule (s.zones.get y)
      ((setZone z { s.zones.get z with state := .waiting } { s with queue := s.queue ++ [z] }).zones.get y) :=
    sameRule_set (by exact ⟨rfl, rfl, rfl⟩) y
  unfold joinQueue
  dsimp only
  split
  · exact sameRule_trans joined (allocate_rule _ y)
  · exact joined

theorem judgeDemand_rule (z : Zone) (s : State) (y : Zone) : sameRule (s.zones.get y) ((judgeDemand z s).zones.get y) := by
  unfold judgeDemand
  split
  · exact joinQueue_rule z s y
  · exact sameRule_refl _

theorem evaluateByState_rule (z : Zone) (s : State) (y : Zone) : sameRule (s.zones.get y) ((evaluateByState z s).zones.get y) := by
  have left := leaveTo_rule z .satisfied s y
  have satisfied := sameRule_trans left (judgeDemand_rule z (leaveTo z .satisfied s) y)
  have stays := sameRule_refl (s.zones.get y)
  cases hs : (s.zones.get z).state <;> simp only [evaluateByState, hs]
  case off => exact stays
  case fault => exact satisfied
  case overtemp => split; exacts [satisfied, stays]
  case heating => split; exacts [left, stays]
  case waiting => split; exacts [stays, left]
  case satisfied => exact judgeDemand_rule z s y

/-- R45: an evaluation writes no latch, no active set and no active setpoint. -/
theorem evaluateZone_rule (z : Zone) (s : State) (y : Zone) : sameRule (s.zones.get y) ((evaluateZone z s).zones.get y) := by
  unfold evaluateZone
  dsimp only
  split
  · exact sameRule_refl _
  · split
    · exact sameRule_refl _
    · split
      · split
        · exact sameRule_refl _
        · rw [(enterSensorFault_zones z s).1]
          exact leaveTo_rule z .fault s y
      · split
        · split
          · exact sameRule_refl _
          · rw [(enterOvertemp_zones z s).1]
            exact leaveTo_rule z .overtemp s y
        · exact evaluateByState_rule z s y

/-- R43: a zone record with its set selected again. -/
def selectedRecord (z : Zone) (s : State) : ZoneRec :=
  { s.zones.get z with activeSet := selectedSet s z, activeSetpoint := setpointOf s z (selectedSet s z) }

/-- R43: a zone that is OFF, or stands selected, is left alone; any other takes its set and is evaluated. -/
theorem reselect_cases (z : Zone) (s : State) :
    (reselect z s = s ∧ ((s.zones.get z).state = .off ∨ selectedRecord z s = s.zones.get z))
      ∨ (reselect z s = evaluateZone z (setZone z (selectedRecord z s) s) ∧ (s.zones.get z).state ≠ .off) := by
  by_cases h : (s.zones.get z).state = .off
      ∨ ((s.zones.get z).activeSet = selectedSet s z ∧ (s.zones.get z).activeSetpoint = setpointOf s z (selectedSet s z))
  · refine .inl ⟨if_pos h, h.imp_right fun ⟨hs, hp⟩ => ?_⟩
    rw [selectedRecord, ← hp, ← hs]
  · exact .inr ⟨if_neg h, fun ho => h (.inl ho)⟩

/-- R43: a zone that is not OFF stands at the set its mode selects once it is selected again. -/
theorem reselect_selects {z : Zone} {s : State} (hn : (s.zones.get z).state ≠ .off) :
    ((reselect z s).zones.get z).activeSet = selectedSet s z
      ∧ ((reselect z s).zones.get z).activeSetpoint = setpointOf s z (selectedSet s z) := by
  rcases reselect_cases z s with ⟨e, k⟩ | ⟨e, -⟩ <;> rw [e]
  · rw [← k.resolve_left hn]
    exact ⟨rfl, rfl⟩
  · obtain ⟨-, set, point⟩ := evaluateZone_rule z (setZone z (selectedRecord z s) s) z
    rw [setZone_zones, PerZone.get_set_same] at set point
    exact ⟨set, point⟩

/-- A selection writes the set and the setpoint of its own zone. -/
theorem reselect_other {z y : Zone} (hy : y ≠ z) (s : State) : sameRule (s.zones.get y) ((reselect z s).zones.get y) := by
  rcases reselect_cases z s with ⟨e, -⟩ | ⟨e, -⟩ <;> rw [e]
  · exact sameRule_refl _
  · have rule := evaluateZone_rule z (setZone z (selectedRecord z s) s) y
    rwa [setZone_zones, PerZone.get_set_other _ _ _ _ hy] at rule

theorem reselect_latch (z : Zone) (s : State) (y : Zone) : ((reselect z s).zones.get y).latch = (s.zones.get y).latch := by
  by_cases hy : y = z
  · subst hy
    rcases reselect_cases y s with ⟨e, -⟩ | ⟨e, -⟩ <;> rw [e]
    refine (evaluateZone_rule y _ y).1.trans ?_
    rw [setZone_zones, PerZone.get_set_same]
    rfl
  · exact (reselect_other hy s).1

/-! ### The other zones, and their health records -/

theorem evaluateZone_stays {z : Zone} {s : State} (h : listsSound s) : Moves z s (evaluateZone z s) := by
  by_cases hk : (s.zones.get z).state = .off ∨ (s.zones.get z).latch = true
  · rw [evaluateZone_held hk]
    exact ⟨h, fun _ _ => grantedFrom_refl _⟩
  · obtain ⟨hn, hl⟩ := not_or.mp hk
    exact (evaluateZone_moves h hn (by simpa using hl)).1

theorem reselect_moves {z : Zone} {s : State} (h : listsSound s) : Moves z s (reselect z s) := by
  rcases reselect_cases z s with ⟨e, -⟩ | ⟨e, -⟩ <;> rw [e]
  · exact ⟨h, fun _ _ => grantedFrom_refl _⟩
  · have lists : listsSound (setZone z (selectedRecord z s) s) := listsSound_setZone_state h rfl
    exact (Moves.of_write lists rfl).trans (evaluateZone_stays lists)

theorem movesOnly_joinQueue (z : Zone) (s : State) : movesOnly s (joinQueue z s) := by
  unfold joinQueue
  dsimp only
  split
  · refine movesOnly.trans ?_ (movesOnly_allocate _)
    rfl
  · rfl

theorem movesOnly_judgeDemand (z : Zone) (s : State) : movesOnly s (judgeDemand z s) := by
  unfold judgeDemand
  split
  · exact movesOnly_joinQueue z s
  · rfl

theorem movesOnly_evaluateByState (z : Zone) (s : State) : movesOnly s (evaluateByState z s) := by
  have left := movesOnly_leaveTo z .satisfied s
  have satisfied := left.trans (movesOnly_judgeDemand z _)
  have stays : movesOnly s s := rfl
  cases hs : (s.zones.get z).state <;> simp only [evaluateByState, hs]
  case off => exact stays
  case fault => exact satisfied
  case overtemp => split; exacts [satisfied, stays]
  case heating => split; exacts [left, stays]
  case waiting => split; exacts [stays, left]
  case satisfied => exact movesOnly_judgeDemand z s

theorem movesOnly.health {s t : State} (h : movesOnly s t) : t.health = s.health := by rw [h]

/-- R74: an evaluation counts in the health record of its own zone at most. -/
theorem evaluateZone_health {z y : Zone} (hy : y ≠ z) (s : State) : (evaluateZone z s).health.get y = s.health.get y := by
  unfold evaluateZone
  dsimp only
  split
  · rfl
  · split
    · rfl
    · split
      · split
        · rfl
        · rw [enterSensorFault_eq]
          exact PerZone.get_set_other _ _ _ _ hy
      · split
        · split
          · rfl
          · rw [enterOvertemp_eq]
            exact PerZone.get_set_other _ _ _ _ hy
        · rw [(movesOnly_evaluateByState z s).health]

theorem reselect_health {z y : Zone} (hy : y ≠ z) (s : State) : (reselect z s).health.get y = s.health.get y := by
  rcases reselect_cases z s with ⟨e, -⟩ | ⟨e, -⟩ <;> rw [e]
  exact evaluateZone_health hy _

/-! ### A readiness evaluation as the zones see it -/

theorem health_of_sides {s t : State} (h : hideSides t = hideSides s) : t.health = s.health := by
  have e := congrArg State.health h; exact e

theorem health_of_feeds {s t : State} (h : hideFeeds t = hideFeeds s) : t.health = s.health := by
  have e := congrArg State.health h; exact e

/-- Of the blocks that see the mode only the heating controller writes the health records. -/
theorem blocksSee_health (old : Mode) (run e : Bool) (s : State) :
    (blocksSee old run e s).health = (if s.mode = old then s else zonesSeeMode old (travelSeesMode old s)).health := by
  unfold blocksSee
  dsimp only
  rw [profilerSeesMode_eq]
  exact (health_of_feeds (hideFeeds_feedsSeeMode _ _ _)).trans (health_of_sides (hideSides_sidesSeeMode _ _ _ _))

/-- R7, R50: whatever is read of the zones, and kept by every zone's selection, a readiness evaluation keeps, once the mode and the flags of its
chain are taken. -/
theorem settleReadiness_keeps {P : State → Prop} {s : State} (hm : s.mode ≠ .starting)
    (view : ∀ {u t}, P u → heatView t = heatView u → t.health = u.health → P t) (again : ∀ y u, P u → P (reselect y u))
    (taken : P (readinessTaken s)) : P (settleReadiness s) := by
  rw [settleReadiness_running hm]
  refine view ?_ (heatView_blocksSee s.mode (runCondition s) false (readinessTaken s)) (blocksSee_health _ _ _ _)
  split
  · exact taken
  · rename_i hne
    rw [readinessTaken_mode] at hne
    obtain ⟨heats, -, heats', -⟩ := (chained_moves s.mode s.pavePending (failingZones s).isEmpty).resolve_left hne
    have seen : P (travelSeesMode s.mode (readinessTaken s)) := view taken (by rw [travelSeesMode_eq]; rfl) (by rw [travelSeesMode_eq])
    have mode : heatingMode (travelSeesMode s.mode (readinessTaken s)).mode = true := by
      rw [travelSeesMode_eq, readinessTaken_mode]
      exact heats'
    unfold zonesSeeMode
    rw [if_pos mode, if_pos heats]
    exact eachZone_keeps again seen

/-- What a readiness evaluation writes, after an operation of the heating controller. -/
theorem settleReadiness_frame {s u : State} (h : hideHeat u = hideHeat s) :
    settleReadiness u
      = { s with
          mode := (settleReadiness u).mode, pavePending := (settleReadiness u).pavePending
          readiness := (settleReadiness u).readiness, failing := (settleReadiness u).failing
          travel := { s.travel with pauseMs := (settleReadiness u).travel.pauseMs }
          zones := (settleReadiness u).zones, health := (settleReadiness u).health, queue := (settleReadiness u).queue
          grants := (settleReadiness u).grants, sides := (settleReadiness u).sides, feed := (settleReadiness u).feed
          profiler := (settleReadiness u).profiler, events := (settleReadiness u).events } := by
  have frame := frame_of_reaction ((hideReaction_settleReadiness u).trans (hideReaction_of_heat h))
  have travel := settleReadiness_odometer u
  rw [travel_of_heat h] at travel
  generalize settleReadiness u = t at *
  rw [← travel]
  exact frame

/-! ### Where an evaluation moves nothing -/

theorem zoneActive_heat {s t : State} (heat : hideHeat t = hideHeat s) (z : Zone) : zoneActive t z = zoneActive s z := by
  have e := congrArg (zoneActive · z) heat; exact e

/-- R7: of what the heating controller writes, a threshold reads only whether the zone is in FAULT. -/
theorem meetsThreshold_heat {s t : State} (heat : hideHeat t = hideHeat s) {z : Zone}
    (hz : (t.zones.get z).state = .fault ↔ (s.zones.get z).state = .fault) : meetsThreshold t z = meetsThreshold s z := by
  have fault : zoneChannelFault t z = zoneChannelFault s z := by have e := congrArg (zoneChannelFault · z) heat; exact e
  have temp : zoneTemp t z = zoneTemp s z := by have e := congrArg (zoneTemp · z) heat; exact e
  have point : setpointOf t z (pavingSet t z) = setpointOf s z (pavingSet s z) := by
    have e := congrArg (fun u => setpointOf u z (pavingSet u z)) heat; exact e
  have state : decide ((t.zones.get z).state ≠ .fault) = decide ((s.zones.get z).state ≠ .fault) :=
    decide_eq_decide.mpr (not_congr hz)
  simp only [meetsThreshold, fault, temp, point, state, settings_of_heat heat]

theorem failingZones_heat {s t : State} (heat : hideHeat t = hideHeat s)
    (hz : ∀ z, (t.zones.get z).state = .fault ↔ (s.zones.get z).state = .fault) : failingZones t = failingZones s := by
  unfold failingZones
  refine List.filter_congr fun z _ => ?_
  rw [zoneActive_heat heat, meetsThreshold_heat heat (hz z)]

theorem quiet_of_states {s t : State} (h : quiet s = true) (heat : hideHeat t = hideHeat s)
    (hz : ∀ z, (t.zones.get z).state = (s.zones.get z).state) : quiet t = true := by
  have failing := failingZones_heat heat fun z => by rw [hz z]
  have rules : modeSound t = modeSound s := by have e := congrArg modeSound heat; exact e
  have mode := mode_of_heat heat
  have hot : t.readiness = s.readiness := by have e := congrArg State.readiness heat; exact e
  have count : t.failing = s.failing := by have e := congrArg State.failing heat; exact e
  simpa only [quiet, readinessCurrent, rules, failing, mode, hot, count] using h

/-- A record written with its state kept. -/
theorem quiet_setZone {z : Zone} {r : ZoneRec} {s : State} (h : quiet s = true) (hr : r.state = (s.zones.get z).state) :
    quiet (setZone z r s) = true := by
  refine quiet_of_states h rfl fun y => ?_
  rw [setZone_zones, PerZone.get_set]
  split
  · rename_i e
    rw [hr, e]
  · rfl

end Sys2Proof.Machine
end

section
/-! PROOFS. The element check and its failure (R55, R56), and the debounced inputs (R177): O33 and O60. -/

namespace Sys2Proof.Machine

open Sys2Proof

/-! ### A readiness evaluation that finds the screed no hotter -/

/-- R10, R11: where PREHEAT finds a failing zone, the chain goes from READY back to PREHEAT at most. -/
theorem settleReadiness_cools {s : State} (hm : s.mode ≠ .starting) (hp : s.mode = .preheat → failingZones s ≠ []) :
    (settleReadiness s).mode = (if s.mode = .ready ∧ (settleReadiness s).readiness = false then .preheat else s.mode)
      ∧ (settleReadiness s).pavePending = s.pavePending ∧ (settleReadiness s).travel = s.travel := by
  obtain ⟨mode, pave, hot, -⟩ := settleReadiness_modes hm
  have travel := settleReadiness_travel hm
  have chain : chained s.mode s.pavePending (settleReadiness s).readiness
      = (if s.mode = .ready ∧ (settleReadiness s).readiness = false then .preheat else s.mode, s.pavePending) := by
    have cold : s.mode = .preheat → (settleReadiness s).readiness = false := fun h => by simpa [hot] using hp h
    generalize (settleReadiness s).readiness = b at cold
    cases hs : s.mode <;> cases b <;> simp_all [chained]
  rw [chain] at mode pave
  refine ⟨mode, pave, ?_⟩
  have taken : (readinessTaken s).mode = (if s.mode = .ready ∧ (settleReadiness s).readiness = false then .preheat else s.mode) := by
    rw [readinessTaken_mode, ← hot, chain]
  rw [travel, ← readinessTaken_travel s]
  split at taken
  · rw [travelSeesMode_other (by simp [taken]) (by simp [taken])]
  · rw [← taken, travelSeesMode_same]

/-! ### The element fails (R55, R56) -/

theorem sameStamp_of_heat {s t : State} (h : hideHeat t = hideHeat s) : sameStamp s t := by
  have clock := congrArg State.clock h
  have opened := congrArg State.recordsOpen h
  exact ⟨clock, congrArg Travel.station (travel_of_heat h), congrArg Settings.matCapacity (settings_of_heat h), opened⟩

/-- R56: a HEATING zone that leaves its grant ends its element check. -/
theorem leaveTo_released {z : Zone} {target : ZoneState} {s : State} (h : Booked s) (hs : (s.zones.get z).state = .heating)
    (hw : target ≠ .waiting) (hh : target ≠ .heating) :
    (leaveTo z target s).zones.get z = { s.zones.get z with state := target, check := .idle, checkMs := 0 } := by
  rw [leaveTo_heating hs]
  have freed := h.withdraw (z := z) (r := { s.zones.get z with state := target, check := .idle, checkMs := 0 })
    (t := { s with
      grants := s.grants.filter fun g => decide (g.zone ≠ z)
      zones := s.zones.set z { s.zones.get z with state := target, check := .idle, checkMs := 0 } })
    rfl (h.filter_queue (by simp [hs])).symm rfl rfl hw hh
  have granted := (allocate_lists freed.lists).2 z
  rw [PerZone.get_set_same] at granted
  exact grantedFrom_eq granted hw

/-- R56: the zone stands failed, with its fault counted in `h`. -/
structure StandsFailed (z : Zone) (h : Health) (s : State) : Prop where
  booked : Booked s
  state : (s.zones.get z).state = .fault
  latch : (s.zones.get z).latch = true
  check : (s.zones.get z).check = .idle
  health : s.health.get z = h

theorem StandsFailed.congr {z : Zone} {h : Health} {s t : State} (k : StandsFailed z h s) (booked : Booked t)
    (ez : t.zones.get z = s.zones.get z) (eh : t.health.get z = s.health.get z) : StandsFailed z h t :=
  ⟨booked, ez ▸ k.state, ez ▸ k.latch, ez ▸ k.check, eh ▸ k.health⟩

theorem elementFail_stands {z : Zone} {s : State} (h : Booked s) (hs : (s.zones.get z).state = .heating) :
    StandsFailed z (faultNoted .element s (s.health.get z)) (elementFail z s) := by
  have zone : (elementFail z s).zones.get z
      = { s.zones.get z with state := .fault, latch := true, check := .idle, checkMs := 0 } := by
    rw [(elementFail_zones z s).1, setLatch, setZone_zones, PerZone.get_set_same, leaveTo_released h hs (by decide) (by decide)]
  refine ⟨elementFail_booked h, by rw [zone], by rw [zone], by rw [zone], ?_⟩
  rw [elementFail_eq]
  exact PerZone.get_set_same _ _ _

/-- A latched zone is selected again without an evaluation, and no other zone's selection reaches it. -/
theorem reselect_standsFailed {z : Zone} {h : Health} (y : Zone) {s : State} (k : StandsFailed z h s) : StandsFailed z h (reselect y s) := by
  have booked := reselect_booked (z := y) k.booked
  by_cases hy : z = y
  · subst hy
    rcases reselect_cases z s with ⟨e, -⟩ | ⟨e, -⟩
    · rwa [e]
    · have latched : ((setZone z (selectedRecord z s) s).zones.get z).latch = true := by
        rw [setZone_zones, PerZone.get_set_same]
        exact k.latch
      rw [evaluateZone_held (.inr latched)] at e
      rw [e] at booked ⊢
      obtain ⟨-, state, latch, check, health⟩ := k
      refine ⟨booked, ?_, latched, ?_, health⟩
      · rw [setZone_zones, PerZone.get_set_same]
        exact state
      · rw [setZone_zones, PerZone.get_set_same]
        exact check
  · exact k.congr booked (grantedFrom_eq ((reselect_moves k.booked.lists).others z hy) (by simp [k.state])) (reselect_health hy s)

theorem Booked.of_view {s t : State} (h : Booked s) (e : heatView t = heatView s) : Booked t := by
  have queue := congrArg State.queue e
  have grants := congrArg State.grants e
  have settings : t.settings = s.settings := by have k := congrArg State.settings e; exact k
  exact h.congr (fun z => by rw [zones_of_view e]) queue (congrArg (List.map (·.zone)) grants) (settings ▸ ⟨rfl, fun _ => rfl⟩)

theorem settleReadiness_standsFailed {z : Zone} {h : Health} {s : State} (hm : s.mode ≠ .starting) (k : StandsFailed z h s) :
    StandsFailed z h (settleReadiness s) := by
  refine settleReadiness_keeps hm (fun k e eh => ?_) (fun y u k => reselect_standsFailed y k) ?_
  · exact k.congr (k.booked.of_view e) (by rw [zones_of_view e]) (by rw [eh])
  · rw [readinessTaken_eq]
    exact k.congr (k.booked.congr (fun _ => rfl) rfl rfl ⟨rfl, fun _ => rfl⟩) rfl rfl

/-- A zone that fails its threshold before an element fails does so afterwards. -/
theorem elementFail_failing {z : Zone} {s : State} (h : listsSound s) (hf : failingZones s ≠ []) :
    failingZones (elementFail z s) ≠ [] := by
  obtain ⟨y, hy⟩ := List.exists_mem_of_ne_nil _ hf
  obtain ⟨-, hy⟩ := List.mem_filter.mp hy
  have heat := hideHeat_elementFail z s
  obtain ⟨moves, state, -⟩ := elementFail_moves (z := z) h
  refine List.ne_nil_of_mem (List.mem_filter.mpr ⟨mem_allZones y, ?_⟩)
  rw [zoneActive_heat heat]
  by_cases hyz : y = z
  · subst hyz
    simp only [Bool.and_eq_true] at hy ⊢
    exact ⟨hy.1, by simp [meetsThreshold, state]⟩
  · rw [meetsThreshold_heat heat]
    · exact hy
    · rcases moves.others y hyz with e | ⟨hw, e⟩ <;> rw [e]
      simp [hw]

/-- What is shown of a HEATING zone whose element fails, readiness evaluated, from `s` to `t` (R55, R56, R74). -/
structure ElementFailed (z : Zone) (s t : State) : Prop where
  stands : StandsFailed z (faultNoted .element s (s.health.get z)) t
  released : granted t z = false
  events : ∃ later, t.events = eventsAfter s ((.heating, .zoneFault z .element (zoneTemp s z)) :: later)
  mode : t.mode = if s.mode = .ready ∧ t.readiness = false then .preheat else s.mode
  frame : t = { s with
    mode := t.mode, readiness := t.readiness, failing := t.failing, zones := t.zones, health := t.health, queue := t.queue
    grants := t.grants, sides := t.sides, feed := t.feed, profiler := t.profiler, events := t.events }

theorem elementFail_settled {z : Zone} {s : State} (hq : quiet s = true) (hb : budgetSound s = true)
    (hs : (s.zones.get z).state = .heating) : ElementFailed z s (settleReadiness (elementFail z s)) := by
  obtain ⟨booked, rest⟩ := (budgetSound_iff s).mp hb
  have heat := hideHeat_elementFail z s
  have mode_eq := mode_of_heat heat
  have heats : heatingMode s.mode = true := rest.resolve_right fun off => by simp [off z] at hs
  have hm : s.mode ≠ .starting := fun e => by simp [e, heatingMode] at heats
  simp only [quiet, Bool.and_eq_true] at hq
  obtain ⟨rules, current⟩ := hq
  have cold : s.mode = .preheat → failingZones s ≠ [] := fun hp e => by
    have : s.readiness = false := ((modeSound_iff s).mp rules).2.2.1 hp
    simp [readinessCurrent, hp, this, e] at current
  have stands := settleReadiness_standsFailed (mode_eq ▸ hm) (elementFail_stands booked hs)
  obtain ⟨mode, pave, travel⟩ := settleReadiness_cools (s := elementFail z s) (mode_eq ▸ hm)
    fun hp => elementFail_failing booked.lists (cold (mode_eq ▸ hp))
  have frame := settleReadiness_frame heat
  have first : (elementFail z s).events = eventsAfter s [(.heating, .zoneFault z .element (zoneTemp s z))] := by rw [elementFail_eq]
  refine ⟨stands, ?_, Appends.behind (sameStamp_of_heat heat) first (appends_settleReadiness _), mode_eq ▸ mode, ?_⟩
  · rw [Bool.eq_false_iff, ne_eq, granted_iff, stands.booked.heated, stands.state]
    decide
  · have pave' : (elementFail z s).pavePending = s.pavePending := by have e := congrArg State.pavePending heat; exact e
    rw [pave'] at pave
    rw [travel_of_heat heat] at travel
    generalize settleReadiness (elementFail z s) = t at *
    rw [pave, travel] at frame
    exact frame

/-! ### The element check (R55) -/

theorem checkReached_iff (s : State) (z : Zone) :
    checkReached s z = true ↔ (s.zones.get z).state = .heating ∧ (s.zones.get z).check = .delay ∧ 2000 ≤ (s.zones.get z).checkMs := by
  simp [checkReached, and_assoc]

theorem exec_checkDelayEnd {z : Zone} {s : State} (h : checkReached s z = true) :
    exec (.elementCheckDelayEnd z) s = .next (settleReadiness (checkDelayEnd z s)) := congrArg Host.Outcome.next (if_pos h)

/-! ### The debounced inputs (R177) -/

theorem PerInput.set_set {α : Type} (v : PerInput α) (i : DigitalInput) (x y : α) : (v.set i x).set i y = v.set i y := by
  cases i <;> simp [PerInput.set]

/-- R177: the debounced level at the pin's, the timer ended. -/
def levelTaken (i : DigitalInput) (s : State) : State :=
  { s with inputs := s.inputs.set i { s.inputs.get i with debounced := (s.inputs.get i).pin, timer := none } }

/-- R177: the pin at a level, the debounce timer restarted. -/
def pinMoved (i : DigitalInput) (level : Bool) (s : State) : State :=
  { s with inputs := s.inputs.set i { s.inputs.get i with pin := level, timer := some (s.settings.inputs.get i).debounce } }

/-- R177: what the debounced level's change sets off is its consumer's. -/
theorem takeLevel_eq (i : DigitalInput) (s : State) :
    takeLevel i s
      = if (s.inputs.get i).pin = (s.inputs.get i).debounced then levelTaken i s
        else consumeLevel i (s.inputs.get i).pin (levelTaken i s) := rfl

theorem changePin_eq (i : DigitalInput) (level : Bool) (s : State) :
    changePin i level s
      = if (s.inputs.get i).pin = level then s
        else if (s.settings.inputs.get i).debounce = 0 then takeLevel i (pinMoved i level s) else pinMoved i level s := rfl

/-- A timer that has run out has the level taken. -/
theorem exec_debounceExpiry {i : DigitalInput} {s : State} (h : (s.inputs.get i).timer = some 0) :
    exec (.debounceExpiry i) s = .next (takeLevel i s) := congrArg Host.Outcome.next (if_pos (decide_eq_true h))

theorem exec_debounceExpiry_early {i : DigitalInput} {s : State} (h : (s.inputs.get i).timer ≠ some 0) :
    exec (.debounceExpiry i) s = .next s := congrArg Host.Outcome.next (if_neg (by simpa [debounceReached] using h))

/-- R55: a feedback input that changes elsewhere than inactive in WATCH moves nothing. -/
theorem consumeFeedback_passes {z : Zone} {s : State} (hq : quiet s = true)
    (h : ¬ ((s.zones.get z).state = .heating ∧ (s.zones.get z).check = .watch ∧ inputActive s (.feedback z) = false)) :
    consumeFeedback z s = s := by
  have unchanged : feedbackChange z s = s := if_neg h
  rw [consumeFeedback, unchanged, settleReadiness_quiet hq]

theorem consumeFeedback_fails {z : Zone} {s : State}
    (h : (s.zones.get z).state = .heating ∧ (s.zones.get z).check = .watch ∧ inputActive s (.feedback z) = false) :
    consumeFeedback z s = settleReadiness (elementFail z s) := by
  have failed : feedbackChange z s = elementFail z s := if_pos h
  rw [consumeFeedback, failed]

end Sys2Proof.Machine

open Sys2Proof Sys2Proof.Machine

/-- Settles O33: before its moment the check is not judged; at it the zone passes to WATCH, or its element fails (`elementFail_settled`). -/
theorem elementCheckJudgesFeedback : Obligations.ElementCheckJudgesFeedback := by
  unfold Obligations.ElementCheckJudgesFeedback
  intro z s hq hb r
  refine ⟨fun h => ?_, fun hs hc ht ha => ?_, fun hs hc ht ha => ?_⟩
  · exact congrArg Host.Outcome.next (if_neg fun hr => h ⟨((checkReached_iff s z).mp hr).1, ((checkReached_iff s z).mp hr).2.1⟩)
  · have passes : checkDelayEnd z s = setZone z { s.zones.get z with check := .watch, checkMs := 0 } s := if_pos ha
    have stays := settleReadiness_quiet (quiet_setZone (z := z) (r := { s.zones.get z with check := .watch, checkMs := 0 }) hq rfl)
    rw [exec_checkDelayEnd ((checkReached_iff s z).mpr ⟨hs, hc, ht⟩), passes]
    exact congrArg Host.Outcome.next stays
  · have fails : checkDelayEnd z s = elementFail z s := if_neg (by simp [ha])
    obtain ⟨stands, released, ⟨later, events⟩, mode, frame⟩ := elementFail_settled hq hb hs
    refine ⟨_, later, ?_, rfl, stands.state, stands.latch, stands.check, released, ?_, ?_, ?_, events, mode, frame⟩
    · rw [exec_checkDelayEnd ((checkReached_iff s z).mpr ⟨hs, hc, ht⟩), fails]
    · simp [commanded, stands.state]
    · rw [stands.health]
      rfl
    · rw [stands.health]
      rfl

/-- Settles O60: `changePin_eq` and `takeLevel_eq` case by case; a feedback input in WATCH by `elementFail_settled`. -/
theorem pinsAreDebounced : Obligations.PinsAreDebounced := by
  unfold Obligations.PinsAreDebounced
  intro k level s r time
  have moved : (pinMoved k level s).inputs.get k = { r with pin := level, timer := some time } := PerInput.get_set_same _ _ _
  have changes (hp : r.pin ≠ level) (h0 : time = 0) : exec (.pinChange k level) s = .next (takeLevel k (pinMoved k level s)) :=
    congrArg Host.Outcome.next (by rw [changePin_eq, if_neg hp, if_pos h0])
  refine ⟨fun hp => ?_, fun hp ht => ?_, fun hp h0 hd => ?_, fun hp h0 => ?_, exec_debounceExpiry_early, fun ht hp => ?_, fun ht hk => ?_,
    fun z hk ht hp hq hb => ?_⟩
  · exact congrArg Host.Outcome.next (by rw [changePin_eq, if_pos hp])
  · exact congrArg Host.Outcome.next (by rw [changePin_eq, if_neg hp, if_neg ht]; rfl)
  · rw [changes hp h0, takeLevel_eq, moved, if_pos hd.symm, levelTaken, moved, pinMoved, PerInput.set_set]
  · have expired : ((pinMoved k level s).inputs.get k).timer = some 0 := by rw [moved, h0]
    rw [changes hp h0, ← exec_debounceExpiry expired, pinMoved]
    simp only [show (s.settings.inputs.get k).debounce = 0 from h0]
    rfl
  · rw [exec_debounceExpiry ht, takeLevel_eq, if_pos hp]
    simp only [levelTaken, ← show r.pin = r.debounced from hp]
    rfl
  · subst hk
    rw [exec_debounceExpiry ht, takeLevel_eq]
    split <;> rfl
  · subst hk
    intro s1 watched
    have consumed : exec (.debounceExpiry (.feedback z)) s = .next (consumeFeedback z s1) := by
      rw [exec_debounceExpiry ht, takeLevel_eq, if_neg hp]
      rfl
    have quiet1 : quiet s1 = true := hq
    have budget1 : budgetSound s1 = true := hb
    refine ⟨fun h => ?_, fun hw ha => ?_⟩
    · rw [consumed, consumeFeedback_passes quiet1]
      rintro ⟨state, check, inactive⟩
      rcases h with h | h
      · exact h ⟨state, check⟩
      · rw [h] at inactive
        cases inactive
    · obtain ⟨stands, released, ⟨later, events⟩, -, frame⟩ := elementFail_settled quiet1 budget1 hw.1
      refine ⟨_, later, ?_, rfl, stands.state, stands.latch, released, ?_, events⟩
      · rw [consumed, consumeFeedback_fails (s := s1) ⟨hw.1, hw.2, ha⟩]
      · rw [frame]
end

section
/-! PROOFS. CLEAR_FAULT (R57): O34. -/

namespace Sys2Proof.Machine

open Sys2Proof

/-! ### The checks of the request -/

theorem zoneAt_code (z : Zone) : zoneAt (zoneCode z) = some z := by cases z <;> rfl

theorem zoneAt_unknown {n : Nat} (h : 7 < n) : zoneAt n = none := List.getElem?_eq_none (l := allZones) h

theorem serveClearFault_notHolder {p : Port} {zone : Byte} {s : State} (h : holds s p .heat = false) :
    serveClearFault p zone s = refuse .notHolder s := if_pos h

theorem serveClearFault_unknown {p : Port} {zone : Byte} {s : State} (h : holds s p .heat = true) (hz : 7 < zone.toNat) :
    serveClearFault p zone s = refuse .unknown s := by
  simp [serveClearFault, h, zoneAt_unknown hz]

theorem serveClearFault_clear {p : Port} {zone : Byte} {z : Zone} {s : State} (h : holds s p .heat = true)
    (hz : zone.toNat = zoneCode z) (hl : (s.zones.get z).latch = false) : serveClearFault p zone s = refuse .state s := by
  simp [serveClearFault, h, hz, zoneAt_code, hl]

theorem serveClearFault_set {p : Port} {zone : Byte} {z : Zone} {s : State} (h : holds s p .heat = true)
    (hz : zone.toNat = zoneCode z) (hl : (s.zones.get z).latch = true) :
    serveClearFault p zone s = done [] (settleReadiness (clearLatch z p s)) := by
  simp [serveClearFault, h, hz, zoneAt_code, hl]

/-! ### The latch cleared, and the zone judged again -/

/-- R57: the latch clear, with its record. -/
def latchCleared (z : Zone) (p : Port) (s : State) : State :=
  appendEvent (.port p) (.zoneCleared z (zoneTemp s z)) (setLatch z false s)

theorem latchCleared_eq (z : Zone) (p : Port) (s : State) :
    latchCleared z p s
      = { s with
          zones := s.zones.set z { s.zones.get z with latch := false }
          events := eventsAfter s [(.port p, .zoneCleared z (zoneTemp s z))] } := by
  rw [latchCleared, appendEvent_eq]
  rfl

theorem clearLatch_eq (z : Zone) (p : Port) (s : State) :
    clearLatch z p s
      = if (s.zones.get z).state = .fault then evaluateZone z (leaveTo z .satisfied (latchCleared z p s)) else latchCleared z p s := rfl

theorem latchCleared_latch (z : Zone) (p : Port) (s : State) : ((latchCleared z p s).zones.get z).latch = false := by
  rw [latchCleared_eq]
  simp

theorem clearLatch_latch (z : Zone) (p : Port) (s : State) : ((clearLatch z p s).zones.get z).latch = false := by
  rw [clearLatch_eq]
  split
  · exact ((evaluateZone_rule z _ z).1.trans (leaveTo_rule z .satisfied _ z).1).trans (latchCleared_latch z p s)
  · exact latchCleared_latch z p s

theorem clearLatch_appends (z : Zone) (p : Port) (s : State) : Appends (latchCleared z p s) (clearLatch z p s) := by
  rw [clearLatch_eq]
  split
  · exact (appends_leaveTo z .satisfied _).trans (appends_evaluateZone z _)
  · exact .refl _

/-- A zone that is neither OFF nor latched stands in FAULT by its channel alone (R45, R54); `hot` says that the channel is in FAULT. -/
structure FaultByChannel (z : Zone) (hot : Bool) (s : State) : Prop where
  lists : listsSound s
  channel : zoneChannelFault s z = hot
  running : (s.zones.get z).state ≠ .off
  latch : (s.zones.get z).latch = false
  fault : (s.zones.get z).state = .fault ↔ hot = true

theorem zoneChannelFault_heat {s t : State} (h : hideHeat t = hideHeat s) (z : Zone) : zoneChannelFault t z = zoneChannelFault s z := by
  have e := congrArg (zoneChannelFault · z) h; exact e

/-- R45: an evaluation puts it there. -/
theorem evaluateZone_faultByChannel {z : Zone} {s : State} (h : listsSound s) (hn : (s.zones.get z).state ≠ .off)
    (hl : (s.zones.get z).latch = false) : FaultByChannel z (zoneChannelFault s z) (evaluateZone z s) := by
  obtain ⟨moves, rule, running, fault⟩ := evaluateZone_moves h hn hl
  exact ⟨moves.lists, zoneChannelFault_heat (hideHeat_evaluateZone z s) z, running, rule.1.trans hl, fault⟩

theorem reselect_faultByChannel {z : Zone} {hot : Bool} (y : Zone) {s : State} (k : FaultByChannel z hot s) :
    FaultByChannel z hot (reselect y s) := by
  obtain ⟨lists, channel, running, latch, fault⟩ := k
  have moves := reselect_moves (z := y) lists
  have channel' := (zoneChannelFault_heat (hideHeat_reselect y s) z).trans channel
  by_cases hy : z = y
  · subst hy
    rcases reselect_cases z s with ⟨e, -⟩ | ⟨e, -⟩ <;> rw [e]
    · exact ⟨lists, channel, running, latch, fault⟩
    · have written : (setZone z (selectedRecord z s) s).zones.get z = selectedRecord z s := by rw [setZone_zones, PerZone.get_set_same]
      have := evaluateZone_faultByChannel (z := z) (s := setZone z (selectedRecord z s) s) (listsSound_setZone_state lists rfl)
        (by rw [written]; exact running) (by rw [written]; exact latch)
      rwa [show zoneChannelFault (setZone z (selectedRecord z s) s) z = hot from channel] at this
  · rcases moves.others z hy with e | ⟨hw, e⟩
    · exact ⟨moves.lists, channel', by rwa [e], by rwa [e], by rwa [e]⟩
    · refine ⟨moves.lists, channel', by simp [e], by rwa [e], ?_⟩
      rw [e]
      simpa [hw] using fault

theorem settleReadiness_faultByChannel {z : Zone} {hot : Bool} {s : State} (hm : s.mode ≠ .starting) (k : FaultByChannel z hot s) :
    FaultByChannel z hot (settleReadiness s) := by
  refine settleReadiness_keeps hm (fun k e _ => ?_) (fun y u k => reselect_faultByChannel y k) ?_
  · have analog := congrArg (fun u : State => u.analog.temp) e
    obtain ⟨lists, channel, running, latch, fault⟩ := k
    refine ⟨(listsSound_view e).mpr lists, ?_, ?_, ?_, ?_⟩
    · exact (congrArg (fun v : PerZone Analog => (v.get z).fault) analog).trans channel
    all_goals rwa [zones_of_view e]
  · rw [readinessTaken_eq]
    exact ⟨k.lists, k.channel, k.running, k.latch, k.fault⟩

theorem settleReadiness_latch (z : Zone) (s : State) : ((settleReadiness s).zones.get z).latch = (s.zones.get z).latch := by
  by_cases hm : s.mode = .starting
  · rw [settleReadiness_starting hm]
  · refine settleReadiness_keeps (P := fun u => (u.zones.get z).latch = (s.zones.get z).latch) hm (fun k e _ => ?_) (fun y u k => ?_) ?_
    · rwa [zones_of_view e]
    · exact (reselect_latch y u z).trans k
    · rw [readinessTaken_eq]

/-- What is shown of a latch cleared, readiness evaluated, from `s` to `t` (R57). -/
structure FaultCleared (z : Zone) (p : Port) (s t : State) : Prop where
  latch : (t.zones.get z).latch = false
  events : ∃ later, t.events = eventsAfter s ((.port p, .zoneCleared z (zoneTemp s z)) :: later)
  off : quiet s = true → (s.zones.get z).state = .off → t = latchCleared z p s
  fault : budgetSound s = true → (s.zones.get z).state = .fault → ((t.zones.get z).state = .fault ↔ zoneChannelFault s z = true)
  frame : t = { s with
    mode := t.mode, pavePending := t.pavePending, readiness := t.readiness, failing := t.failing
    travel := { s.travel with pauseMs := t.travel.pauseMs }, zones := t.zones, health := t.health, queue := t.queue
    grants := t.grants, sides := t.sides, feed := t.feed, profiler := t.profiler, events := t.events }

theorem clearLatch_settled (z : Zone) (p : Port) {s : State} (hm : s.mode ≠ .starting) :
    FaultCleared z p s (settleReadiness (clearLatch z p s)) := by
  have heat := hideHeat_clearLatch z p s
  have cleared : hideHeat (latchCleared z p s) = hideHeat s := by rw [latchCleared_eq]; rfl
  have first : (latchCleared z p s).events = eventsAfter s [(.port p, .zoneCleared z (zoneTemp s z))] := by rw [latchCleared_eq]
  refine ⟨(settleReadiness_latch z _).trans (clearLatch_latch z p s),
    Appends.behind (sameStamp_of_heat cleared) first ((clearLatch_appends z p s).trans (appends_settleReadiness _)), fun hq ho => ?_,
    fun hb hf => ?_, settleReadiness_frame heat⟩
  · rw [clearLatch_eq, if_neg (by simp [ho])]
    refine settleReadiness_quiet (quiet_of_view (quiet_setZone hq ?_) (heatView_appendEvent _ _ _))
    rfl
  · have lists : listsSound (latchCleared z p s) :=
      (listsSound_view (heatView_appendEvent _ _ _)).mpr (listsSound_setZone_state (listsSound_of_budgetSound hb) rfl)
    obtain ⟨moves, state, rule⟩ := leaveTo_moves (z := z) (target := .satisfied) lists (by decide)
    have judged := evaluateZone_faultByChannel moves.lists (by simp [state]) (rule.1.trans (latchCleared_latch z p s))
    rw [zoneChannelFault_heat ((hideHeat_leaveTo z .satisfied _).trans cleared)] at judged
    have act : clearLatch z p s = evaluateZone z (leaveTo z .satisfied (latchCleared z p s)) := if_pos hf
    rw [← act] at judged
    exact (settleReadiness_faultByChannel (mode_of_heat heat ▸ hm) judged).fault

end Sys2Proof.Machine

open Sys2Proof Sys2Proof.Machine

/-- Settles O34: the checks in their order, then `clearLatch_settled` on the state with the port opened. -/
theorem clearFaultFreesTheZone : Obligations.ClearFaultFreesTheZone := by
  unfold Obligations.ClearFaultFreesTheZone
  intro p tag zone s hp refusal
  refine ⟨fun h => ?_, fun h hz => ?_, fun z h hz => ⟨fun hl => ?_, fun hl => ?_⟩⟩
  · exact congrArg Host.Outcome.next (takeRequest_refuses hp
      (serveClearFault_notHolder (s := withOpened p (kindByte .clearFault) tag s) h))
  · exact congrArg Host.Outcome.next (takeRequest_refuses hp
      (serveClearFault_unknown (s := withOpened p (kindByte .clearFault) tag s) h hz))
  · exact congrArg Host.Outcome.next (takeRequest_refuses hp
      (serveClearFault_clear (s := withOpened p (kindByte .clearFault) tag s) h hz hl))
  · have served := serveClearFault_set (s := withOpened p (kindByte .clearFault) tag s) h hz hl
    obtain ⟨latch, ⟨later, events⟩, off, fault, frame⟩ :=
      clearLatch_settled z p (s := withOpened p (kindByte .clearFault) tag s) ((portOpen_iff s p).mp hp).1
    generalize settleReadiness (clearLatch z p (withOpened p (kindByte .clearFault) tag s)) = t at *
    have ports : t.ports = (withOpened p (kindByte .clearFault) tag s).ports := by rw [frame]
    refine ⟨{ t with ports := s.ports }, later, congrArg Host.Outcome.next (takeRequest_answered hp served ports), latch, events,
      fun hq ho => ?_, fault, ?_⟩
    · rw [off hq ho, latchCleared_eq]
      rfl
    · exact congrArg (fun u => { u with ports := s.ports }) frame
end

section
/-! PROOFS. The writes of a zone's setpoint and of its exclude flag (R42, R43, R58): O35 and O36. -/

namespace Sys2Proof.Machine

open Sys2Proof

/-! ### A zone's settings written (R42, R58) -/

/-- A write of one zone's settings moves no item that reads none of what it changes. -/
theorem settingValue_storeZone {f : Settings} {z : Zone} {c : ZoneSettings} {y : Setting}
    (hp : y = .zoneSetpoint z .pave → c.pave = (f.zones.get z).pave) (hh : y = .zoneSetpoint z .hold → c.hold = (f.zones.get z).hold)
    (he : y = .exclude z → c.exclude = (f.zones.get z).exclude) (hr : c.rating = (f.zones.get z).rating) :
    settingValue (storeZone f z c) y = settingValue f y := by
  cases y with
  | zoneSetpoint y set =>
    cases set <;> simp only [settingValue, storeZone, PerZone.get_set] <;> split <;> rename_i e
    · subst e
      exact hp rfl
    · rfl
    · subst e
      exact hh rfl
    · rfl
  | exclude y =>
    simp only [settingValue, storeZone, PerZone.get_set]
    split <;> rename_i e
    · subst e
      rw [he rfl]
    · rfl
  | rating y =>
    simp only [settingValue, storeZone, PerZone.get_set]
    split <;> rename_i e
    · rw [hr, e]
    · rfl
  | slotParam slot param => cases slot <;> cases param <;> rfl
  | sideSetpoint d which => cases which <;> rfl
  | gain g p => cases g <;> rfl
  | screed part => cases part <;> rfl
  | input i p => cases p <;> rfl
  | _ => rfl

/-- R42: a stored setpoint reads as written, and every other item as before. -/
theorem settingValue_setpoint (f : Settings) (z : Zone) (set : SetpointSet) (v : Int) :
    settingValue (storeSetting f (.zoneSetpoint z set) v) (.zoneSetpoint z set) = v
      ∧ ∀ y, y ≠ .zoneSetpoint z set → settingValue (storeSetting f (.zoneSetpoint z set) v) y = settingValue f y := by
  cases set
  · refine ⟨by simp [storeSetting, storeZone, settingValue], fun y hy => settingValue_storeZone ?_ ?_ ?_ ?_⟩
    · exact fun e => absurd e hy
    all_goals simp
  · refine ⟨by simp [storeSetting, storeZone, settingValue], fun y hy => settingValue_storeZone ?_ ?_ ?_ ?_⟩
    · simp
    · exact fun e => absurd e hy
    all_goals simp

/-- R58: the number of an exclude flag. -/
def flagValue (flag : Bool) : Int := if flag then 1 else 0

theorem settingValue_exclude (f : Settings) (z : Zone) (flag : Bool) :
    settingValue (storeSetting f (.exclude z) (flagValue flag)) (.exclude z) = flagValue flag
      ∧ ∀ y, y ≠ .exclude z → settingValue (storeSetting f (.exclude z) (flagValue flag)) y = settingValue f y := by
  refine ⟨by cases flag <;> simp [storeSetting, storeZone, settingValue, flagValue], fun y hy => settingValue_storeZone ?_ ?_ ?_ ?_⟩
  · simp
  · simp
  · exact fun e => absurd e hy
  · rfl

/-! ### A setpoint's zone stands selected (R43) -/

/-- R43: the zone stands at the set its mode selects. -/
structure StandsSelected (z : Zone) (s : State) : Prop where
  set : (s.zones.get z).activeSet = selectedSet s z
  point : (s.zones.get z).activeSetpoint = setpointOf s z (selectedSet s z)

/-- What the heating controller leaves of a zone's set and setpoint, it leaves selected. -/
theorem StandsSelected.of_rule {z : Zone} {s t : State} (h : StandsSelected z s) (heat : hideHeat t = hideHeat s)
    (rule : sameRule (s.zones.get z) (t.zones.get z)) : StandsSelected z t := by
  have selects : selectedSet t z = selectedSet s z := by have e := congrArg (selectedSet · z) heat; exact e
  have point : setpointOf t z = setpointOf s z := by have e := congrArg (setpointOf · z) heat; exact e
  obtain ⟨-, hset, hpoint⟩ := rule
  exact ⟨by rw [hset, selects, h.set], by rw [hpoint, point, selects, h.point]⟩

theorem reselect_standsSelected {z : Zone} (y : Zone) {s : State} (h : StandsSelected z s) : StandsSelected z (reselect y s) := by
  by_cases hy : z = y
  · subst hy
    rcases reselect_cases z s with ⟨e, -⟩ | ⟨e, -⟩ <;> rw [e]
    · exact h
    · have written : StandsSelected z (setZone z (selectedRecord z s) s) := by
        constructor <;> rw [setZone_zones, PerZone.get_set_same] <;> rfl
      exact written.of_rule (hideHeat_evaluateZone z _) (evaluateZone_rule z _ z)
  · exact h.of_rule (hideHeat_reselect y s) (reselect_other hy s)

theorem standsSelected_heatView (z : Zone) (s : State) : StandsSelected z (heatView s) ↔ StandsSelected z s := by
  constructor <;> rintro ⟨set, point⟩ <;> cases z <;> exact ⟨set, point⟩

/-- R43: the modes of a chain select the same set. -/
theorem readinessTaken_standsSelected {z : Zone} {s : State} (h : StandsSelected z s) : StandsSelected z (readinessTaken s) := by
  rw [readinessTaken_eq]
  rcases chained_moves s.mode s.pavePending (failingZones s).isEmpty with e | ⟨-, hs, -, hn⟩
  · rw [e]
    exact ⟨h.set, h.point⟩
  · have before : selectedSet s z = pavingSet s z := if_neg hs
    obtain ⟨set, point⟩ := h
    rw [before] at set point
    exact ⟨set.trans (if_neg hn).symm, point.trans (congrArg (setpointOf s z) (if_neg hn).symm)⟩

theorem settleReadiness_standsSelected {z : Zone} {s : State} (hm : s.mode ≠ .starting) (h : StandsSelected z s) :
    StandsSelected z (settleReadiness s) := by
  refine settleReadiness_keeps hm (fun k e _ => ?_) (fun y u k => reselect_standsSelected y k) (readinessTaken_standsSelected h)
  rwa [← standsSelected_heatView, e, standsSelected_heatView]

theorem standsSelected_of_sound {z : Zone} {s : State} (h : readinessSound s = true) (hn : (s.zones.get z).state ≠ .off) :
    StandsSelected z s := by
  obtain ⟨-, -, fits⟩ := (readinessSound_iff s).mp h
  obtain ⟨⟨set, point, -⟩, -⟩ := zoneActive_of_running (fits z) hn
  exact ⟨set, set ▸ point⟩

/-! ### The write of a setpoint (R42, R43) -/

theorem frame_of_heat {s t : State} (h : hideHeat t = hideHeat s) :
    t = { s with zones := t.zones, health := t.health, queue := t.queue, grants := t.grants, events := t.events } := by
  obtain ⟨⟩ := s
  obtain ⟨⟩ := t
  simp only [hideHeat, State.mk.injEq, true_and] at h
  simp_all

/-- R7: outside a chain and without a loss to note, an evaluation writes the flag and the count. -/
theorem settleReadiness_parked {s : State} (hm : s.mode = .parked) : settleReadiness s = evaluateReadiness s := by
  have mode : (evaluateReadiness s).mode = .parked := hm
  rw [settleReadiness_stays (by simp [hm]) (by simp [hm]) (by simp [hm]), noteReadinessLoss_resting (by simp [mode]) (by simp [mode])]

/-- What is shown of a setpoint written with `v`, from `s` to `t` (R42, R43). -/
structure SetpointWritten (z : Zone) (set : SetpointSet) (v : Int) (s t : State) : Prop where
  held : settingValue s.settings (.zoneSetpoint z set) = v → t = s
  value : settingValue t.settings (.zoneSetpoint z set) = v
  others : ∀ y, y ≠ .zoneSetpoint z set → settingValue t.settings y = settingValue s.settings y
  selected : readinessSound s = true → (s.zones.get z).state ≠ .off → StandsSelected z t
  parked : s.mode = .parked → t = { s with
    settings := t.settings, readiness := t.readiness, failing := t.failing, zones := t.zones, health := t.health, queue := t.queue
    grants := t.grants, events := t.events }
  frame : t = { s with
    settings := t.settings, mode := t.mode, pavePending := t.pavePending, readiness := t.readiness, failing := t.failing
    travel := { s.travel with pauseMs := t.travel.pauseMs }, zones := t.zones, health := t.health, queue := t.queue
    grants := t.grants, sides := t.sides, feed := t.feed, profiler := t.profiler, events := t.events }

theorem settleReadiness_settings {s u : State} (h : hideHeat u = hideHeat s) : (settleReadiness u).settings = s.settings := by
  rw [settleReadiness_frame h]

theorem writeZoneSetpoint_written (z : Zone) (set : SetpointSet) (v : Int) {s : State} (hm : s.mode ≠ .starting) :
    SetpointWritten z set v s (writeZoneSetpoint z set v s) := by
  by_cases hv : settingValue s.settings (.zoneSetpoint z set) = v
  · rw [writeZoneSetpoint, if_pos hv]
    exact ⟨fun _ => rfl, hv, fun _ _ => rfl, fun h hn => standsSelected_of_sound h hn, fun _ => rfl, rfl⟩
  · rw [writeZoneSetpoint, if_neg hv]
    have heat := hideHeat_reselect z (storeOnly (.zoneSetpoint z set) v s)
    have mode := mode_of_heat heat
    have settings := settleReadiness_settings heat
    obtain ⟨value, others⟩ := settingValue_setpoint s.settings z set v
    refine ⟨fun h => absurd h hv, settings ▸ value, fun y hy => settings ▸ others y hy, fun _ hn => ?_, fun hp => ?_, ?_⟩
    · refine settleReadiness_standsSelected (mode ▸ hm) ?_
      obtain ⟨hset, hpoint⟩ := reselect_selects (s := storeOnly (.zoneSetpoint z set) v s) hn
      have selects : selectedSet (reselect z (storeOnly (.zoneSetpoint z set) v s)) z = selectedSet (storeOnly (.zoneSetpoint z set) v s) z := by
        have e := congrArg (selectedSet · z) heat; exact e
      have point : setpointOf (reselect z (storeOnly (.zoneSetpoint z set) v s)) z = setpointOf (storeOnly (.zoneSetpoint z set) v s) z := by
        have e := congrArg (setpointOf · z) heat; exact e
      exact ⟨by rw [hset, selects], by rw [hpoint, selects, point]⟩
    · have frame := frame_of_heat heat
      rw [settleReadiness_parked (mode.trans hp)]
      generalize reselect z (storeOnly (.zoneSetpoint z set) v s) = u at frame
      rw [frame]
      rfl
    · have frame := settleReadiness_frame heat
      generalize settleReadiness (reselect z (storeOnly (.zoneSetpoint z set) v s)) = t at *
      rw [frame]
      rfl

/-! ### The write of an exclude flag (R58) -/

theorem excludeZone_latch (z : Zone) (s : State) : ((excludeZone z s).zones.get z).latch = (s.zones.get z).latch := by
  unfold excludeZone
  split
  · rfl
  · dsimp only
    rw [setZone_zones, PerZone.get_set_same]
    exact (leaveTo_rule z .off s z).1

theorem enterHeating_latch (z : Zone) (s : State) : ((enterHeating z s).zones.get z).latch = (s.zones.get z).latch := by
  unfold enterHeating
  dsimp only
  split
  · rfl
  · split
    · rw [setZone_zones, PerZone.get_set_same]
    · refine (evaluateZone_rule z _ z).1.trans ?_
      rw [setZone_zones, PerZone.get_set_same]

/-- R49: an active zone enters a heating mode out of OFF. -/
theorem enterHeating_running {z : Zone} {s : State} (h : listsSound s) (ha : zoneActive s z = true) :
    ((enterHeating z s).zones.get z).state ≠ .off := by
  unfold enterHeating
  dsimp only
  split
  · rename_i hk
    exact hk.resolve_left (by simp [ha])
  · rename_i hk
    have off : (s.zones.get z).state = .off := by
      by_contra k
      exact hk (.inr k)
    split
    · rw [setZone_zones, PerZone.get_set_same]
      simp
    · rename_i hl
      refine (evaluateZone_moves (listsSound_setZone h (by simp [off]) (by simp [off])) ?_ ?_).2.2.1
      · rw [setZone_zones, PerZone.get_set_same]
        simp
      · rw [setZone_zones, PerZone.get_set_same]
        simpa using hl

/-- R58: a changed flag is stored, and the zone excluded, or included in a heating mode. -/
theorem writeExclude_changed {z : Zone} {flag : Bool} {s : State} (h : (s.settings.zones.get z).exclude ≠ flag) :
    writeExclude z flag s
      = if flag then excludeZone z (storeOnly (.exclude z) (flagValue flag) s)
        else if heatingMode s.mode then enterHeating z (storeOnly (.exclude z) (flagValue flag) s)
        else storeOnly (.exclude z) (flagValue flag) s := by
  refine (if_neg h).trans ?_
  cases flag <;> rfl

theorem hideHeat_excludeZone (z : Zone) (s : State) : hideHeat (excludeZone z s) = hideHeat s := by
  unfold excludeZone
  dsimp only
  split <;> simp

/-- What is shown of an exclude flag written, from `s` to `t` (R58). -/
structure ExcludeWritten (z : Zone) (flag : Bool) (s t : State) : Prop where
  held : (s.settings.zones.get z).exclude = flag → t = s
  value : settingValue t.settings (.exclude z) = flagValue flag
  others : ∀ y, y ≠ .exclude z → settingValue t.settings y = settingValue s.settings y
  latch : (t.zones.get z).latch = (s.zones.get z).latch
  included : flag = false → (s.settings.zones.get z).exclude = true → fitted s z = true → heatingMode s.mode = true →
    (t.zones.get z).state ≠ .off
  resting : heatingMode s.mode = false → heatingMode t.mode = false
  heated : s.mode = .preheat → t.readiness = true → t.mode = if s.pavePending then .paving else .ready
  cooled : s.mode = .ready → t.readiness = false → t.mode = .preheat
  frame : t = { s with
    settings := t.settings, mode := t.mode, pavePending := t.pavePending, readiness := t.readiness, failing := t.failing
    travel := { s.travel with pauseMs := t.travel.pauseMs }, zones := t.zones, health := t.health, queue := t.queue
    grants := t.grants, sides := t.sides, feed := t.feed, profiler := t.profiler, events := t.events }

theorem settingValue_exclude_iff (f : Settings) (z : Zone) (flag : Bool) :
    settingValue f (.exclude z) = flagValue flag ↔ (f.zones.get z).exclude = flag := by
  have reads : settingValue f (.exclude z) = flagValue (f.zones.get z).exclude := rfl
  rw [reads]
  cases (f.zones.get z).exclude <;> cases flag <;> decide

theorem writeExcludeFlag_written {z : Zone} {flag : Bool} {s : State} (hm : s.mode ≠ .starting) (h : modeSound s = true)
    (heats : heatSound s) : ExcludeWritten z flag s (writeExcludeFlag z (flagValue flag) s) := by
  obtain ⟨-, hready, hpreheat, -⟩ := (modeSound_iff s).mp h
  by_cases hx : (s.settings.zones.get z).exclude = flag
  · rw [writeExcludeFlag, if_pos ((settingValue_exclude_iff s.settings z flag).mpr hx)]
    refine ⟨fun _ => rfl, (settingValue_exclude_iff s.settings z flag).mpr hx, fun _ _ => rfl, rfl, fun hf he => ?_, fun k => k,
      fun k hr => ?_, fun k hr => ?_, rfl⟩
    · rw [he, hf] at hx
      cases hx
    · rw [hpreheat k] at hr
      cases hr
    · rw [hready k] at hr
      cases hr
  · have decides : decide (flagValue flag = 1) = flag := by cases flag <;> rfl
    rw [writeExcludeFlag, if_neg (mt (settingValue_exclude_iff s.settings z flag).mp hx), decides]
    have changed := writeExclude_changed hx
    have stored : hideHeat (writeExclude z flag s) = hideHeat (storeOnly (.exclude z) (flagValue flag) s) := by
      rw [changed]
      split
      · exact hideHeat_excludeZone z _
      · split
        · exact hideHeat_enterHeating z _
        · rfl
    have latch : ((writeExclude z flag s).zones.get z).latch = (s.zones.get z).latch := by
      rw [changed]
      split
      · exact excludeZone_latch z _
      · split
        · exact enterHeating_latch z _
        · rfl
    have mode : (writeExclude z flag s).mode = s.mode := by have e := mode_of_heat stored; exact e
    have pave : (writeExclude z flag s).pavePending = s.pavePending := by have e := congrArg State.pavePending stored; exact e
    obtain ⟨value, others⟩ := settingValue_exclude s.settings z flag
    have settings := settleReadiness_settings stored
    obtain ⟨modes, -⟩ := settleReadiness_modes (mode ▸ hm)
    rw [mode, pave] at modes
    refine ⟨fun k => absurd k hx, settings ▸ value, fun y hy => settings ▸ others y hy, (settleReadiness_latch z _).trans latch,
      fun hf he hfit hheat => ?_, fun hrest => ?_, fun k hr => ?_, fun k hr => ?_, ?_⟩
    · have sound := writeExclude_sound (z := z) (flag := flag) heats
      have zones := zones_of_view (heatView_settleReadiness (mode ▸ hm) sound)
      rw [readinessTaken_eq] at zones
      rw [zones]
      subst hf
      rw [changed]
      simp only [Bool.false_eq_true, if_false, hheat, if_true]
      refine enterHeating_running heats.1 ?_
      have fits : fitted (storeOnly (.exclude z) (flagValue false) s) z = fitted s z := rfl
      have included : ((storeOnly (.exclude z) (flagValue false) s).settings.zones.get z).exclude = false := by
        simp [storeOnly, storeSetting, storeZone, flagValue]
      simp [zoneActive, fits, hfit, included]
    · rw [modes]
      rcases chained_moves s.mode s.pavePending (settleReadiness (writeExclude z flag s)).readiness with e | ⟨k, -⟩
      · rw [e, hrest]
      · rw [hrest] at k
        cases k
    · rw [modes, k, hr]
      cases s.pavePending <;> rfl
    · rw [modes, k, hr]
      rfl
    · have frame := settleReadiness_frame stored
      generalize settleReadiness (writeExclude z flag s) = t at *
      rw [frame]
      rfl

/-- R58: an excluded zone stands OFF, in neither list. -/
theorem inactive_out {z : Zone} {s : State} (heats : heatSound s) (hb : budgetSound s = true) (ha : zoneActive s z = false) :
    (s.zones.get z).state = .off ∧ (s.zones.get z).activeSet = .none ∧ granted s z = false ∧ z ∉ s.queue := by
  have bare : zoneBare (s.zones.get z) := (heats.2 z).resolve_right fun ⟨_, ⟨_, _, _, k⟩, _⟩ => by simp [ha] at k
  obtain ⟨off, set, -⟩ := bare
  have booked := Booked.of_budgetSound hb
  refine ⟨off, set, ?_, fun hq => ?_⟩
  · rw [Bool.eq_false_iff, ne_eq, granted_iff, booked.heated, off]
    decide
  · rw [booked.queued, off] at hq
    cases hq

theorem flagValue_one (flag : Bool) : flagValue flag = 1 ↔ flag = true := by
  cases flag <;> decide

theorem flagValue_zero (flag : Bool) : flagValue flag = 0 ↔ flag = false := by
  cases flag <;> decide

/-- R58: the number that an exclude flag is clamped to is that of a flag. -/
theorem flagValue_clamp (v : Int) : ∃ flag, max 0 (min 1 v) = flagValue flag := by
  by_cases h : 1 ≤ v
  · exact ⟨true, by simp only [flagValue, if_true]; omega⟩
  · exact ⟨false, by simp only [flagValue, Bool.false_eq_true, if_false]; omega⟩

end Sys2Proof.Machine

open Sys2Proof Sys2Proof.Machine

/-- Settles O35: the write is a setpoint's, and its effect is `writeZoneSetpoint_written` on the state with the port opened. -/
theorem zoneSetpointIsTakenAtOnce : Obligations.ZoneSetpointIsTakenAtOnce := by
  unfold Obligations.ZoneSetpointIsTakenAtOnce
  intro p tag z set value s hp
  refine ⟨fun h => congrArg Host.Outcome.next (takeRequest_refuses hp ?_), fun h => ?_⟩
  · exact serveWrite_notHolder (s := withOpened p (kindByte .setItem) tag s) rfl rfl h value
  · intro v answer
    obtain ⟨held, val, others, selected, parked, frame⟩ :=
      writeZoneSetpoint_written z set v (s := withOpened p (kindByte .setItem) tag s) ((portOpen_iff s p).mp hp).1
    have served : serveWrite p (.zoneSetpoint z set) value (withOpened p (kindByte .setItem) tag s)
        = (writeZoneSetpoint z set v (withOpened p (kindByte .setItem) tag s), some answer) := by
      rw [serveWrite_setpoint (s := withOpened p (kindByte .setItem) tag s) rfl rfl h value]
      exact congrArg (fun n => (writeZoneSetpoint z set v (withOpened p (kindByte .setItem) tag s),
        some ({ status := if v = value.toInt then .ok else .okClamped, payload := numField n } : Answer))) val
    generalize writeZoneSetpoint z set v (withOpened p (kindByte .setItem) tag s) = t at *
    have ports : t.ports = (withOpened p (kindByte .setItem) tag s).ports := by rw [frame]
    have act : exec (.setZoneSetpoint p tag z set value) s = .next (withReply p (kindByte .setItem) tag answer { t with ports := s.ports }) :=
      congrArg Host.Outcome.next (takeRequest_answered hp served ports)
    refine ⟨fun hv => ?_, { t with ports := s.ports }, act, val, others, fun hr hn _ => (selected hr hn).point, fun hm => ?_, ?_⟩
    · rw [held hv] at act
      exact act
    · exact congrArg (fun u => { u with ports := s.ports }) (parked hm)
    · exact congrArg (fun u => { u with ports := s.ports }) frame

/-- Settles O36: the effect of the write on the state with the port opened is `writeExcludeFlag_written`, and the zone taken out is one the rules no longer hold active. -/
theorem exclusionTakesTheZoneOut : Obligations.ExclusionTakesTheZoneOut := by
  unfold Obligations.ExclusionTakesTheZoneOut
  intro p tag z value s hp
  refine ⟨fun h => congrArg Host.Outcome.next (takeRequest_refuses hp ?_), fun h hr hb => ?_⟩
  · exact serveWrite_notHolder (s := withOpened p (kindByte .setItem) tag s) rfl rfl h value
  · obtain ⟨flag, hv⟩ := flagValue_clamp value.toInt
    rw [hv]
    intro v answer
    obtain ⟨mode, current, fits⟩ := (readinessSound_iff (withOpened p (kindByte .setItem) tag s)).mp hr
    have heats : heatSound (withOpened p (kindByte .setItem) tag s) := ⟨listsSound_of_budgetSound hb, fits⟩
    have sound : readinessTrue (writeExcludeFlag z v (withOpened p (kindByte .setItem) tag s)) :=
      applySetting_true (x := .exclude z) (.inr (by simp [setpointOwner])) v ⟨heats, current⟩
    have budget : budgetSound (writeExcludeFlag z v (withOpened p (kindByte .setItem) tag s)) = true :=
      applySetting_budget (x := .exclude z) (.inr (by simp [setpointOwner])) v hb
    obtain ⟨held, val, others, latch, included, resting, heated, cooled, frame⟩ :=
      writeExcludeFlag_written (z := z) (flag := flag) (s := withOpened p (kindByte .setItem) tag s) ((portOpen_iff s p).mp hp).1 mode heats
    have served : serveWrite p (.exclude z) value (withOpened p (kindByte .setItem) tag s)
        = (writeExcludeFlag z v (withOpened p (kindByte .setItem) tag s), some answer) := by
      have clamped : clampSetting (.exclude z) value.toInt = v := hv
      rw [serveWrite_setpoint (s := withOpened p (kindByte .setItem) tag s) rfl rfl h value, clamped]
      exact congrArg (fun n => (writeExcludeFlag z v (withOpened p (kindByte .setItem) tag s),
        some ({ status := if v = value.toInt then .ok else .okClamped, payload := numField n } : Answer))) val
    generalize writeExcludeFlag z v (withOpened p (kindByte .setItem) tag s) = t at *
    have ports : t.ports = (withOpened p (kindByte .setItem) tag s).ports := by rw [frame]
    have act : exec (.setExcludeFlag p tag z value) s = .next (withReply p (kindByte .setItem) tag answer { t with ports := s.ports }) :=
      congrArg Host.Outcome.next (takeRequest_answered hp served ports)
    have flags : (t.settings.zones.get z).exclude = flag := (settingValue_exclude_iff _ z flag).mp val
    have boltOns (d : Side) : t.settings.boltOn.get d = s.settings.boltOn.get d := others (.screed (.boltOn d)) (by simp)
    have fitting : fitted t z = fitted s z := by
      unfold fitted
      split
      · rfl
      · rw [boltOns]
    refine ⟨fun k => ?_, { t with ports := s.ports }, act, val, others, latch, fun k => ?_, fun k he hfit hh => ?_, fun k hout => ?_, heated, cooled, ?_⟩
    · rw [held ((settingValue_exclude_iff s.settings z flag).mp k)] at act
      exact act
    · have hf : flag = true := (flagValue_one flag).mp k
      exact inactive_out sound.1 budget (by simp [zoneActive, flags, hf])
    · have hf : flag = false := (flagValue_zero flag).mp k
      exact included hf ((settingValue_exclude_iff s.settings z true).mp he) hfit hh
    · rcases hout with hout | hout
      · exact (inactive_out sound.1 budget (by simp [zoneActive, fitting, hout])).1
      · exact (zoneBare_of_resting sound.1 (resting hout) z).1
    · exact congrArg (fun u => { u with ports := s.ports }) frame
end

section
/-! PROOFS. The allocator (R65, R66): O37. -/

namespace Sys2Proof.Machine

open Sys2Proof

/-! ### The first zones of the queue granted -/

/-- From `s` to `t` the first `n` zones of the queue are granted, and nothing else is written (R66). -/
structure GrantsFirst (n : Nat) (s t : State) : Prop where
  bound : n ≤ s.queue.length
  queue : t.queue = s.queue.drop n
  grants : t.grants = s.grants ++ (s.queue.take n).map fun z => { zone := z, start := s.clock, elapsed := 0, subMs := 0 }
  zones : ∀ z, t.zones.get z
    = if z ∈ s.queue.take n then { s.zones.get z with state := .heating, check := .delay, checkMs := 0 } else s.zones.get z
  frame : movesOnly s t

theorem grantsFirst_none (s : State) : GrantsFirst 0 s s := ⟨Nat.zero_le _, rfl, by simp, by simp, rfl⟩

theorem GrantsFirst.behind_head {n : Nat} {s t : State} {z : Zone} {rest : List Zone} (hq : s.queue = z :: rest)
    (h : GrantsFirst n (grantHead s) t) : GrantsFirst (n + 1) s t := by
  have frame := (movesOnly_grantHead s).trans h.frame
  obtain ⟨bound, queue, grants, zones, -⟩ := h
  rw [grantHead_cons hq] at bound queue grants zones
  refine ⟨?_, ?_, ?_, fun y => ?_, frame⟩
  · simpa [hq] using bound
  · simpa [hq] using queue
  · simpa [hq] using grants
  · rw [zones y, hq, List.take_succ_cons, PerZone.get_set]
    by_cases e : y = z
    · subst e
      simp
    · simp [e]

theorem headFits_queue {s : State} (h : headFits s = true) : ∃ z rest, s.queue = z :: rest := by
  match hq : s.queue with
  | [] => simp [headFits, hq] at h
  | z :: rest => exact ⟨z, rest, rfl⟩

theorem headFits_cons {s : State} {z : Zone} {rest : List Zone} (hq : s.queue = z :: rest) :
    headFits s = decide (((s.settings.zones.get z).rating : Int) ≤ freePower s) := by
  simp [headFits, hq]

theorem allocateUpTo_fits {s : State} (h : headFits s = true) (n : Nat) : allocateUpTo (n + 1) s = allocateUpTo n (grantHead s) := if_pos h

theorem allocateUpTo_stops {s : State} (h : headFits s = false) (n : Nat) : allocateUpTo n s = s := by
  cases n with
  | zero => rfl
  | succ n => exact if_neg (by simp [h])

theorem allocateUpTo_grants (fuel : Nat) (s : State) : ∃ n, GrantsFirst n s (allocateUpTo fuel s) := by
  induction fuel generalizing s with
  | zero => exact ⟨0, grantsFirst_none s⟩
  | succ fuel ih =>
    cases hf : headFits s
    · rw [allocateUpTo_stops hf]
      exact ⟨0, grantsFirst_none s⟩
    · obtain ⟨z, rest, hq⟩ := headFits_queue hf
      obtain ⟨n, granted⟩ := ih (grantHead s)
      rw [allocateUpTo_fits hf]
      exact ⟨n + 1, granted.behind_head hq⟩

/-- R66: as many evaluations as the queue is long leave no head that fits. -/
theorem allocateUpTo_exhausts {fuel : Nat} {s : State} (h : s.queue.length ≤ fuel) : headFits (allocateUpTo fuel s) = false := by
  induction fuel generalizing s with
  | zero =>
    have empty : s.queue = [] := List.eq_nil_of_length_eq_zero (Nat.le_zero.mp h)
    simp [allocateUpTo, headFits, empty]
  | succ fuel ih =>
    cases hf : headFits s
    · rw [allocateUpTo_stops hf, hf]
    · obtain ⟨z, rest, hq⟩ := headFits_queue hf
      rw [allocateUpTo_fits hf]
      refine ih ?_
      rw [grantHead_cons hq]
      simpa [hq] using h

/-- R65: the limit is never passed. -/
theorem allocateUpTo_within (fuel : Nat) {s : State} (h : grantedSum s ≤ s.settings.generatorLimit) :
    grantedSum (allocateUpTo fuel s) ≤ (allocateUpTo fuel s).settings.generatorLimit := by
  induction fuel generalizing s with
  | zero => exact h
  | succ fuel ih =>
    cases hf : headFits s
    · rwa [allocateUpTo_stops hf]
    · obtain ⟨z, rest, hq⟩ := headFits_queue hf
      rw [allocateUpTo_fits hf]
      exact ih (grantHead_within hq hf)

theorem allocate_grants (s : State) : ∃ n, GrantsFirst n s (allocate s) := allocateUpTo_grants _ s

theorem allocate_settings (s : State) : (allocate s).settings = s.settings := settings_of_heat (hideHeat_allocate s)

/-- R66: where no queued zone stands in FAULT, the grants bring none into FAULT or out of it. -/
theorem allocate_fault {s : State} (h : ∀ z ∈ s.queue, (s.zones.get z).state ≠ .fault) (y : Zone) :
    ((allocate s).zones.get y).state = .fault ↔ (s.zones.get y).state = .fault := by
  obtain ⟨n, granted⟩ := allocate_grants s
  rw [granted.zones y]
  split
  · rename_i hy
    simp [h y (List.mem_of_mem_take hy)]
  · rfl

end Sys2Proof.Machine

open Sys2Proof Sys2Proof.Machine

/-- Settles O37: the grants and the frame are `allocate_grants`, the limit `allocateUpTo_within`, the head that stays `allocateUpTo_exhausts`. -/
theorem allocationIsStrict : Obligations.AllocationIsStrict := by
  unfold Obligations.AllocationIsStrict
  intro s
  obtain ⟨n, granted⟩ := allocate_grants s
  refine ⟨n, granted.bound, granted.queue, granted.grants, granted.zones, fun h => ?_, fun z rest hq => ?_, ?_⟩
  · exact (allocateUpTo_within s.queue.length h).trans_eq (congrArg Settings.generatorLimit (allocate_settings s))
  · have stays : headFits (allocate s) = false := allocateUpTo_exhausts le_rfl
    rw [headFits_cons hq, allocate_settings] at stays
    exact not_le.mp (of_decide_eq_false stays)
  · have frame := granted.frame
    generalize allocate s = t at *
    rw [frame]
end

section
/-! PROOFS. The slice of a grant (R68 to R71): O38. -/

namespace Sys2Proof.Machine

open Sys2Proof

/-! ### A readiness evaluation after a rotation or a renewal -/

/-- R7: readiness reads of the zones' states only which stand in FAULT. -/
theorem quiet_of_faults {s t : State} (h : quiet s = true) (heat : hideHeat t = hideHeat s)
    (hz : ∀ z, (t.zones.get z).state = .fault ↔ (s.zones.get z).state = .fault) : quiet t = true := by
  have failing := failingZones_heat heat hz
  have rules : modeSound t = modeSound s := by have e := congrArg modeSound heat; exact e
  have hot : t.readiness = s.readiness := by have e := congrArg State.readiness heat; exact e
  have count : t.failing = s.failing := by have e := congrArg State.failing heat; exact e
  simpa only [quiet, readinessCurrent, rules, failing, mode_of_heat heat, hot, count] using h

/-! ### The rotation (R69) -/

/-- R69: the grant given up and the zone placed by its demand, before the allocator evaluates. -/
def rotated (z : Zone) (s : State) : State :=
  { s with
    grants := s.grants.filter fun g => g.zone ≠ z
    queue := s.queue ++ (if demand s z then [z] else [])
    zones := s.zones.set z { s.zones.get z with state := if demand s z then .waiting else .satisfied, check := .idle, checkMs := 0 } }

theorem rotateGrant_eq (z : Zone) (s : State) : rotateGrant z s = allocate (rotated z s) := by
  unfold rotateGrant rotated
  cases hd : demand s z <;> simp [setZone]

theorem rotated_fault {z : Zone} {s : State} (hs : (s.zones.get z).state = .heating) (y : Zone) :
    ((rotated z s).zones.get y).state = .fault ↔ (s.zones.get y).state = .fault := by
  rw [rotated, PerZone.get_set]
  split
  · rename_i e
    subst e
    cases demand s y <;> simp [hs]
  · rfl

theorem rotated_queue {z : Zone} {s : State} (h : listsSound s) (hs : (s.zones.get z).state = .heating) :
    ∀ y ∈ (rotated z s).queue, ((rotated z s).zones.get y).state ≠ .fault := by
  intro y hy
  rw [ne_eq, rotated_fault hs]
  rcases List.mem_append.mp hy with hy | hy
  · simp [h.2.1 y hy]
  · have joined : y = z := by
      split at hy
      · exact List.mem_singleton.mp hy
      · cases hy
    simp [joined, hs]

theorem rotateGrant_quiet {z : Zone} {s : State} (hq : quiet s = true) (h : listsSound s) (hs : (s.zones.get z).state = .heating) :
    quiet (rotateGrant z s) = true := by
  rw [rotateGrant_eq]
  exact quiet_of_faults hq (hideHeat_allocate _) fun y => (allocate_fault (rotated_queue h hs) y).trans (rotated_fault hs y)

/-! ### The moment of the expiry (R68) -/

theorem sliceReached_iff (s : State) (z : Zone) :
    sliceReached s z = true ↔ ∃ g ∈ s.grants, g.zone = z ∧ s.settings.rotationSlice ≤ g.elapsed := by
  simp [sliceReached]

theorem exec_sliceExpiry {z : Zone} {s : State} (h : sliceReached s z = true) :
    exec (.sliceExpiry z) s = .next (settleReadiness (expireSlice z s)) := congrArg Host.Outcome.next (if_pos h)

theorem exec_sliceExpiry_early {z : Zone} {s : State} (h : sliceReached s z = false) : exec (.sliceExpiry z) s = .next s :=
  congrArg Host.Outcome.next (if_neg (by simp [h]))

theorem sliceReached_ungranted {z : Zone} {s : State} (h : granted s z = false) : sliceReached s z = false := by
  rw [Bool.eq_false_iff, ne_eq, sliceReached_iff]
  rintro ⟨g, hg, hz, -⟩
  rw [Bool.eq_false_iff, ne_eq, granted_iff] at h
  exact h (List.mem_map.mpr ⟨g, hg, hz⟩)

end Sys2Proof.Machine

open Sys2Proof Sys2Proof.Machine

/-- Settles O38: neither a renewal nor a rotation (`rotateGrant_quiet`) brings a zone into FAULT or out of it, so readiness stands. -/
theorem sliceExpiryRotatesOrRenews : Obligations.SliceExpiryRotatesOrRenews := by
  unfold Obligations.SliceExpiryRotatesOrRenews
  intro z s hq hb
  refine ⟨fun h => exec_sliceExpiry_early (sliceReached_ungranted h), fun h empty => ?_, fun h waiting => ?_⟩
  · have renews : expireSlice z s = renewGrant z s := if_pos empty
    have still : quiet (renewGrant z s) = true := quiet_of_states hq rfl fun _ => rfl
    rw [exec_sliceExpiry ((sliceReached_iff s z).mpr h), renews, settleReadiness_quiet still]
    rfl
  · have rotates : expireSlice z s = rotateGrant z s := if_neg waiting
    have lists := listsSound_of_budgetSound hb
    have heating : (s.zones.get z).state = .heating := by
      obtain ⟨g, hg, hz, -⟩ := h
      exact hz ▸ lists.2.2 g hg
    rw [exec_sliceExpiry ((sliceReached_iff s z).mpr h), rotates, settleReadiness_quiet (rotateGrant_quiet hq lists heating), rotateGrant_eq]
    rfl
end

section
/-! PROOFS. The health records: granted minutes and CLEAR_HEALTH (R75, R76): O39. -/

namespace Sys2Proof.Machine

open Sys2Proof

theorem exec_heatingMinute {z : Zone} {s : State} (hsec : (s.health.get z).seconds = 59) (hms : 1000 ≤ (s.health.get z).subMs) :
    exec (.heatingMinute z) s = .next (countMinute z s) :=
  congrArg Host.Outcome.next (if_pos (by simp [minuteReached, hsec, hms]))

/-! ### The checks of CLEAR_HEALTH -/

theorem serveClearHealth_notHolder {p : Port} {zone : Byte} {s : State} (h : holds s p .heat = false) :
    serveClearHealth p zone s = refuse .notHolder s := if_pos h

/-- R184: beyond the zones the number is ALL or it is unknown. -/
theorem serveClearHealth_noZone {p : Port} {zone : Byte} {s : State} (h : holds s p .heat = true) (hz : 7 < zone.toNat) :
    serveClearHealth p zone s = if zone = 8 then done [] (clearHealthOf none p s) else refuse .unknown s := by
  simp only [serveClearHealth, h, zoneAt_unknown hz, Bool.true_eq_false, if_false]

theorem serveClearHealth_unknown {p : Port} {zone : Byte} {s : State} (h : holds s p .heat = true) (hz : 8 < zone.toNat) :
    serveClearHealth p zone s = refuse .unknown s := by
  have notAll : zone ≠ 8 := fun e => absurd hz (by rw [e]; decide)
  rw [serveClearHealth_noZone h (by omega), if_neg notAll]

theorem serveClearHealth_all {p : Port} {zone : Byte} {s : State} (h : holds s p .heat = true) (hz : zone.toNat = 8) :
    serveClearHealth p zone s = done [] (clearHealthOf none p s) := by
  have all : zone = 8 := BitVec.eq_of_toNat_eq hz
  rw [serveClearHealth_noZone h (by omega), if_pos all]

theorem serveClearHealth_one {p : Port} {zone : Byte} {z : Zone} {s : State} (h : holds s p .heat = true)
    (hz : zone.toNat = zoneCode z) : serveClearHealth p zone s = done [] (clearHealthOf (some z) p s) := by
  simp [serveClearHealth, h, hz, zoneAt_code]

/-! ### The records zeroed -/

/-- R76: the health records with the named one, or all eight, as after reset. -/
def healthZeroed (which : Option Zone) (h : PerZone Health) : PerZone Health :=
  match which with
  | some z => h.set z {}
  | none => PerZone.all {}

theorem clearHealthOf_eq (which : Option Zone) (p : Port) (s : State) :
    clearHealthOf which p s
      = { s with health := healthZeroed which s.health, events := eventsAfter s [(.port p, .healthCleared which)] } := by
  cases which <;> exact appendEvent_eq _ _ _

/-- R76: what a served CLEAR_HEALTH comes to with its reply sent. -/
theorem exec_clearHealth {p : Port} {tag zone : Byte} {which : Option Zone} {s : State} (hp : portOpen s p = true)
    (h : serveClearHealth p zone (withOpened p (kindByte .clearHealth) tag s)
      = done [] (clearHealthOf which p (withOpened p (kindByte .clearHealth) tag s))) :
    exec (.clearHealth p tag zone) s
      = .next (withReply p (kindByte .clearHealth) tag (okAnswer [])
          { s with health := healthZeroed which s.health, events := eventsAfter s [(.port p, .healthCleared which)] }) := by
  rw [clearHealthOf_eq] at h
  exact congrArg Host.Outcome.next (takeRequest_answered hp h rfl)

end Sys2Proof.Machine

open Sys2Proof Sys2Proof.Machine

/-- Settles O39: the minute is `countMinute` at its moment; CLEAR_HEALTH takes its checks in order, then `exec_clearHealth`. -/
theorem healthCountsMinutesAndClears : Obligations.HealthCountsMinutesAndClears := by
  unfold Obligations.HealthCountsMinutesAndClears
  refine ⟨fun z s hsec hms => exec_heatingMinute hsec hms, fun p tag zone s hp => ?_⟩
  intro refusal cleared zero
  refine ⟨fun h => ?_, fun h => ⟨fun hz => ?_, fun hz => ?_, fun z hz => ?_⟩⟩
  · exact congrArg Host.Outcome.next (takeRequest_refuses hp
      (serveClearHealth_notHolder (s := withOpened p (kindByte .clearHealth) tag s) h))
  · exact congrArg Host.Outcome.next (takeRequest_refuses hp
      (serveClearHealth_unknown (s := withOpened p (kindByte .clearHealth) tag s) h hz))
  · exact exec_clearHealth hp (serveClearHealth_all (s := withOpened p (kindByte .clearHealth) tag s) h hz)
  · exact exec_clearHealth hp (serveClearHealth_one (s := withOpened p (kindByte .clearHealth) tag s) h hz)
end

section
/-! PROOFS. The request for a reference, and the capture at the end of its round (R89, R91, R163): O41 and O46. -/

namespace Sys2Proof.Machine

open Sys2Proof

/-! ### The checks of SET_REFERENCE (R89) -/

theorem sideOfByte_code {b : Byte} {d : Side} (h : b.toNat = sideCode d) : sideOfByte b = some d := by
  cases d
  · rw [show b = 0 from BitVec.eq_of_toNat_eq h]
    decide
  · rw [show b = 1 from BitVec.eq_of_toNat_eq h]
    decide

theorem sideOfByte_unknown {b : Byte} (h : 1 < b.toNat) : sideOfByte b = none := by
  have zero : b ≠ 0 := by rintro rfl; exact absurd h (by decide)
  have one : b ≠ 1 := by rintro rfl; exact absurd h (by decide)
  rw [sideOfByte, if_neg zero, if_neg one]

/-- R89: the side may take a SET_REFERENCE. -/
def referenceFree (s : State) (d : Side) : Prop :=
  (s.settings.sides.get d).kind = .grade
    ∧ ((s.sides.get d).state = .off ∨ ((s.sides.get d).state = .manual ∧ (s.sides.get d).jogLeft = 0))

/-- The model's test for a refusal is the rule's test for acceptance, turned round. -/
theorem referenceFree_iff (s : State) (d : Side) :
    referenceFree s d ↔ ¬ ((s.settings.sides.get d).kind = .slope
      ∨ ((s.sides.get d).state ≠ .off ∧ (s.sides.get d).state ≠ .manual)
      ∨ ((s.sides.get d).state = .manual ∧ (s.sides.get d).jogLeft ≠ 0)) := by
  unfold referenceFree
  cases (s.settings.sides.get d).kind <;> cases (s.sides.get d).state <;> simp

theorem serveSetReference_unknown {p : Port} {side : Byte} {s : State} (h : 1 < side.toNat) :
    serveSetReference p side s = refuse .unknown s := by
  rw [serveSetReference, sideOfByte_unknown h]

section
variable {p : Port} {side : Byte} {d : Side} {s : State}

theorem serveSetReference_notHolder (hd : side.toNat = sideCode d) (h : holds s p (.grade d) = false) :
    serveSetReference p side s = refuse .notHolder s := by
  simp [serveSetReference, sideOfByte_code hd, h]

/-- R184: a STATE reply to SET_REFERENCE carries a count of 0. -/
theorem serveSetReference_barred (hd : side.toNat = sideCode d) (h : holds s p (.grade d) = true) (hf : ¬ referenceFree s d) :
    serveSetReference p side s = (s, some { status := .state, payload := [0] }) := by
  rw [referenceFree_iff, not_not] at hf
  simp only [serveSetReference, sideOfByte_code hd, h, Bool.true_eq_false, if_false, if_pos hf]
  rfl

/-- R89: the side with a capture awaited by a port. -/
def referencingFor (p : Port) (r : SideRec) : SideRec :=
  { r with state := .referencing, returnManual := decide (r.state = .manual), capturePort := p, captureArmed := false }

theorem serveSetReference_free (hd : side.toNat = sideCode d) (h : holds s p (.grade d) = true) (hf : referenceFree s d) :
    serveSetReference p side s = ({ s with sides := s.sides.set d (referencingFor p (s.sides.get d)) }, none) := by
  rw [referenceFree_iff] at hf
  simp only [serveSetReference, sideOfByte_code hd, h, Bool.true_eq_false, if_false, if_neg hf]
  rfl

end

/-! ### The captured slots (R91) -/

/-- R91: a slot that a capture takes. -/
def capturedRec (r : GradeSlotRec) : GradeSlotRec := { r with reference := r.reading, refValid := true, deviation := 0, cls := .valid }

/-- A side's slots after the capture of some of them. -/
theorem captureSlots_get (d : Side) (ks : List GradePlace) (s : State) (k : GradePlace) :
    ((ks.foldl (captureSlot d) s).gradeSlots.get d).get k
      = if k ∈ ks then capturedRec ((s.gradeSlots.get d).get k) else (s.gradeSlots.get d).get k := by
  induction ks generalizing s with
  | nil => simp
  | cons j ks ih =>
    have one : (captureSlot d s j).gradeSlots
        = s.gradeSlots.set d ((s.gradeSlots.get d).set j (capturedRec ((s.gradeSlots.get d).get j))) := rfl
    rw [List.foldl_cons, ih, one, PerSide.get_set_same, PerPlace.get_set]
    by_cases hj : k = j
    · subst hj
      simp [capturedRec]
    · simp [hj]

theorem captureSlots_other {d d' : Side} (h : d' ≠ d) (ks : List GradePlace) (s : State) :
    (ks.foldl (captureSlot d) s).gradeSlots.get d' = s.gradeSlots.get d' := by
  induction ks generalizing s with
  | nil => rfl
  | cons j ks ih => rw [List.foldl_cons, ih]; exact PerSide.get_set_other _ _ _ _ h

theorem captureSlots_eq (d : Side) (ks : List GradePlace) (s : State) :
    ks.foldl (captureSlot d) s = { s with gradeSlots := (ks.foldl (captureSlot d) s).gradeSlots } := by
  induction ks generalizing s with
  | nil => rfl
  | cons j ks ih => rw [List.foldl_cons, ih]; rfl

/-- R91: the slots taken are the used ones with a fresh reading in range. -/
theorem capturedPlaces_eq (s : State) (d : Side) :
    capturedPlaces s d = (usedPlaces s.settings d).filter
      (fun k => ((s.gradeSlots.get d).get k).cls = .noRef ∨ ((s.gradeSlots.get d).get k).cls = .excluded
        ∨ ((s.gradeSlots.get d).get k).cls = .valid) := by
  unfold capturedPlaces
  congr 1
  funext k
  simp [capturable, Bool.or_assoc]

/-! ### The side returned and the request answered (R91) -/

/-- R91: the side back in its return state. -/
def returnedRec (r : SideRec) : SideRec := { r with state := if r.returnManual then .manual else .off, captureArmed := false }

/-- R91: the machine once the slots are captured and the side is back in its return state. -/
def capturedState (d : Side) (s : State) : State := returnSide d ((capturedPlaces s d).foldl (captureSlot d) s)

theorem capturedState_eq (d : Side) (s : State) :
    capturedState d s = { s with
      gradeSlots := ((capturedPlaces s d).foldl (captureSlot d) s).gradeSlots
      sides := s.sides.set d (returnedRec (s.sides.get d)) } := by
  unfold capturedState
  rw [captureSlots_eq]
  rfl

/-- R91: the answer to the SET_REFERENCE in flight. -/
def captureAnswer (d : Side) (s : State) : Answer :=
  if capturedPlaces s d = [] then { status := .state, payload := [0] }
  else okAnswer (u8 (capturedPlaces s d).length ++ ((capturedPlaces s d).map
    (fun k => u8 (4 * sideCode d + placeCode k) ++ i16 ((s.gradeSlots.get d).get k).reading)).flatten)

/-- The list in the reply gives the new references, which are the last readings. -/
theorem captureList_capturedState (d : Side) (s : State) :
    captureList (capturedState d s) d (capturedPlaces s d)
      = ((capturedPlaces s d).map
          (fun k => u8 (4 * sideCode d + placeCode k) ++ i16 ((s.gradeSlots.get d).get k).reading)).flatten := by
  unfold captureList
  congr 1
  refine List.map_congr_left fun k hk => ?_
  rw [capturedState_eq, captureSlots_get, if_pos hk]
  rfl

/-- R91: a capture with something in it leaves a record. -/
def captureRecords (d : Side) (s : State) : List (Origin × Event) :=
  if capturedPlaces s d = [] then []
  else [(.port (s.sides.get d).capturePort, .referenceSet d (capturedPlaces s d).length (capturedPlaces s d))]

/-- The answer to a request in flight reads and writes the ports alone. -/
theorem answerPort_eq {s t : State} (h : t.ports = s.ports) (p : Port) (a : Answer) :
    answerPort p a t = { t with ports := (answerPort p a s).ports } := by
  simp only [answerPort, h]
  split
  · rw [← h]
  · simp only [setPort, h]

/-- R91: a capture that is due. -/
theorem completeCapture_due {d : Side} {s : State} (h : (s.sides.get d).state = .referencing)
    (ha : (s.sides.get d).captureArmed = true) :
    completeCapture d s = { s with
      gradeSlots := ((capturedPlaces s d).foldl (captureSlot d) s).gradeSlots
      sides := s.sides.set d (returnedRec (s.sides.get d))
      ports := (answerPort (s.sides.get d).capturePort (captureAnswer d s) s).ports
      events := eventsAfter s (captureRecords d s) } := by
  have ports : (capturedState d s).ports = s.ports := by rw [capturedState_eq]
  by_cases hk : capturedPlaces s d = []
  · have empty : completeCapture d s
        = answerPort (s.sides.get d).capturePort { status := .state, payload := u8 0 } (capturedState d s) := by
      simp [completeCapture, h, ha, hk, capturedState]
    rw [empty, answerPort_eq ports, capturedState_eq, captureAnswer, captureRecords, if_pos hk, if_pos hk]
    rfl
  · have taken : completeCapture d s
        = appendEvent (.port (s.sides.get d).capturePort) (.referenceSet d (capturedPlaces s d).length (capturedPlaces s d))
            (answerPort (s.sides.get d).capturePort
              { status := .ok, payload := u8 (capturedPlaces s d).length ++ captureList (capturedState d s) d (capturedPlaces s d) }
              (capturedState d s)) := by
      simp [completeCapture, h, ha, hk, capturedState]
    rw [taken, captureList_capturedState, appendEvent_eq, answerPort_eq ports, capturedState_eq, captureAnswer, captureRecords,
      if_neg hk, if_neg hk]
    rfl

end Sys2Proof.Machine

open Sys2Proof Sys2Proof.Machine

/-- Settles O41: the checks of `serveSetReference` in their order, then the side `referencingFor` the port, with the request in flight. -/
theorem setReferenceWaitsForRound : Obligations.SetReferenceWaitsForRound := by
  unfold Obligations.SetReferenceWaitsForRound
  intro p tag side s hp
  refine ⟨fun h => ?_, fun d hd => ⟨fun h => ?_, fun h hf => ?_, fun h hf => ?_⟩⟩
  · exact congrArg Host.Outcome.next (takeRequest_refuses hp (serveSetReference_unknown h))
  · exact congrArg Host.Outcome.next (takeRequest_refuses hp
      (serveSetReference_notHolder (s := withOpened p (kindByte .setReference) tag s) hd h))
  · obtain ⟨hm, hi, -⟩ := (portOpen_iff s p).mp hp
    exact congrArg Host.Outcome.next (takeRequest_served hi hm
      (serveSetReference_barred (s := withOpened p (kindByte .setReference) tag s) hd h hf))
  · obtain ⟨hm, hi, -⟩ := (portOpen_iff s p).mp hp
    exact congrArg Host.Outcome.next (takeRequest_delayed hi hm
      (serveSetReference_free (s := withOpened p (kindByte .setReference) tag s) hd h hf))

/-- Settles O46: a capture that is due is `completeCapture_due`; its slots, side, record and reply are read off. -/
theorem captureTakesFreshReadings : Obligations.CaptureTakesFreshReadings := by
  unfold Obligations.CaptureTakesFreshReadings
  intro d s h ha
  dsimp only
  rw [← capturedPlaces_eq, completeCapture_due h ha]
  refine ⟨fun k => captureSlots_get d _ s k, fun d' hd => captureSlots_other hd _ s, rfl, rfl, fun f hf => ?_, rfl⟩
  exact congrArg State.ports (answerPort_of_inFlight hf)
end

section
/-! PROOFS. The start of a sensor round and its polls (R78, R80 to R83, R87): O43 and O44. -/

namespace Sys2Proof.Machine

open Sys2Proof

/-! ### The next poll (R80) -/

/-- R80: the poll of a slot has been sent, the round having had `fresh` and `polled` so far. -/
def pollSent (f : Settings) (slot : Slot) (fresh polled : Bool) : Round :=
  { slot := slot, address := slotAddress f slot, waited := 0, fresh := fresh, polled := polled }

theorem pollNext_some {slots : List Slot} {s : State} {slot : Slot} (h : slots.find? (slotUsed s.settings) = some slot)
    (fresh polled : Bool) :
    pollNext slots fresh polled s
      = { s with sensors := { s.sensors with round := some (pollSent s.settings slot fresh polled) } } := by
  simp only [pollNext, h, pollSent]

theorem pollNext_none {slots : List Slot} {s : State} (h : slots.find? (slotUsed s.settings) = none) (fresh polled : Bool) :
    pollNext slots fresh polled s = endRound fresh polled s := by
  simp only [pollNext, h]

/-! ### The start of a round (R78, R80, R87) -/

/-- R87: a side with its REFERENCING noted. -/
def armedRec (r : SideRec) : SideRec := { r with captureArmed := decide (r.state = .referencing) }

/-- R80: the machine as a round begins, before its first poll. -/
def begun (s : State) : State :=
  { s with
    gradeSlots := (markUnused s).gradeSlots, slopeSlot := (markUnused s).slopeSlot
    sides := ⟨armedRec s.sides.left, armedRec s.sides.right⟩, sensors := { s.sensors with sinceStart := 0 } }

theorem startRound_idle {s : State} (h : s.mode = .starting ∨ s.sensors.round.isSome = true) : startRound s = s := by
  rw [startRound, if_pos h]

theorem startRound_begins {s : State} (hm : s.mode ≠ .starting) (hr : s.sensors.round = none) :
    startRound s = pollNext allSlots false false (begun s) := by
  rw [startRound, if_neg (by simp [hm, hr])]
  rfl

/-- R78: an unused slot's class is UNUSED. -/
theorem begun_gradeSlots (s : State) (d : Side) (k : GradePlace) :
    ((begun s).gradeSlots.get d).get k
      = if gradeUsed s.settings d k then (s.gradeSlots.get d).get k
        else { (s.gradeSlots.get d).get k with cls := .unused } := by
  cases d <;> cases k <;> rfl

/-- R87: a side that is REFERENCING is noted. -/
theorem begun_sides (s : State) (d : Side) :
    (begun s).sides.get d = { s.sides.get d with captureArmed := decide ((s.sides.get d).state = .referencing) } := by
  cases d <;> rfl

theorem begun_settings (s : State) : (begun s).settings = s.settings := rfl

theorem begun_sensors (s : State) : (begun s).sensors = { s.sensors with sinceStart := 0 } := rfl

section
variable {s : State} (hm : s.mode ≠ .starting) (hr : s.sensors.round = none)
include hm hr

/-- R80: a round's first poll is that of the first used slot. -/
theorem startRound_polls {slot : Slot} (h : allSlots.find? (slotUsed s.settings) = some slot) :
    startRound s = { begun s with
      sensors := { s.sensors with sinceStart := 0, round := some (pollSent s.settings slot false false) } } := by
  rw [← begun_settings] at h
  rw [startRound_begins hm hr, pollNext_some h, begun_settings, begun_sensors]
  rfl

/-- R80: with no used slot the round ends at its start. -/
theorem startRound_ends (h : allSlots.find? (slotUsed s.settings) = none) : startRound s = endRound false false (begun s) := by
  rw [← begun_settings] at h
  rw [startRound_begins hm hr, pollNext_none h]

end

/-! ### The poll waited on (R81, assumption 14) -/

/-- R80: the poll of the first used slot behind `slot`, or the end of the round, on a state whose slots have been judged. -/
def onwardFrom (s : State) (slot : Slot) (fresh polled : Bool) (t : State) : State :=
  match (allSlots.filter (fun x => decide (slotCode slot < slotCode x) && slotUsed s.settings x)).head? with
  | some x => { t with sensors := { s.sensors with round := some (pollSent s.settings x fresh polled) } }
  | none => endRound fresh polled t

/-- The slots behind one in slot order are those with the higher numbers. -/
theorem drop_allSlots (slot : Slot) :
    allSlots.drop (slotCode slot + 1) = allSlots.filter (fun x => decide (slotCode slot < slotCode x)) := by
  rcases slot with ⟨d, k⟩ | _
  · cases d <;> cases k <;> decide
  · decide

theorem pollNext_onward {s t : State} (hf : t.settings = s.settings) (hs : t.sensors = s.sensors) (slot : Slot) (fresh polled : Bool) :
    pollNext (allSlots.drop (slotCode slot + 1)) fresh polled t = onwardFrom s slot fresh polled t := by
  have first : (allSlots.filter (fun x => decide (slotCode slot < slotCode x) && slotUsed s.settings x)).head?
      = (allSlots.drop (slotCode slot + 1)).find? (slotUsed t.settings) := by
    rw [drop_allSlots, ← List.head?_filter, List.filter_filter, hf]
    simp only [Bool.and_comm]
  unfold onwardFrom
  rw [first]
  cases h : (allSlots.drop (slotCode slot + 1)).find? (slotUsed t.settings) with
  | none => exact pollNext_none h fresh polled
  | some x => rw [pollNext_some h, hs, hf]

/-- No slot stands behind the slope slot. -/
theorem onwardFrom_slope (s : State) (fresh polled : Bool) (t : State) : onwardFrom s .slope fresh polled t = endRound fresh polled t := rfl

section
variable {s : State} {r : Round}

/-- Assumption 14: a slot no longer used is not judged. -/
theorem completePoll_unused (hr : s.sensors.round = some r) (hu : slotUsed s.settings r.slot = false) (reply : Option FreshReply) :
    completePoll reply s = onwardFrom s r.slot r.fresh r.polled s := by
  rw [← pollNext_onward rfl rfl]
  simp only [completePoll, hr, hu, Bool.false_eq_true, if_false, Bool.false_and, Bool.or_false]

theorem judgeSlot_settings (slot : Slot) (reply : Option FreshReply) (s : State) : (judgeSlot slot reply s).settings = s.settings := by
  cases slot <;> rfl

theorem judgeSlot_sensors (slot : Slot) (reply : Option FreshReply) (s : State) : (judgeSlot slot reply s).sensors = s.sensors := by
  cases slot <;> rfl

/-- R81: a used slot is judged, and the round goes on. -/
theorem completePoll_used (hr : s.sensors.round = some r) (hu : slotUsed s.settings r.slot = true) (reply : Option FreshReply) :
    completePoll reply s = onwardFrom s r.slot (r.fresh || reply.isSome) true (judgeSlot r.slot reply s) := by
  rw [← pollNext_onward (judgeSlot_settings _ _ _) (judgeSlot_sensors _ _ _)]
  simp only [completePoll, hr, hu, if_true, Bool.true_and, Bool.or_true]

/-- R81: 3 ms after the poll it completes without a reply. -/
theorem exec_pollTimeout (hr : s.sensors.round = some r) (h : 3 ≤ r.waited) : exec .pollTimeout s = .next (completePoll none s) := by
  have reached : pollReached s = true := by simp [pollReached, hr, h]
  exact congrArg Host.Outcome.next (reached ▸ atMoment_reached _ s)

theorem hearSensor_hunting (h : s.sensorReceiver = .hunting) : hearSensor s = s := by
  obtain ⟨⟩ := s
  cases h
  rfl

/-- The awaited reply, as a fresh one (R81). -/
def freshOf (status : Byte) (reading : Half) : FreshReply := { measured := decide (status = 0), reading := reading }

/-- R81: a reply that fits completes the poll. -/
theorem exec_pollReply_fits {address status : Byte} (hr : s.sensors.round = some r) (hh : s.sensorReceiver = .hunting)
    (ha : address.toNat = r.address) (hs : status.toNat ≤ 1) (reading : Half) :
    exec (.pollReply address status reading) s = .next (completePoll (some (freshOf status reading)) s) := by
  have taken : takePollReply address status reading s = completePoll (some (freshOf status reading)) s := by
    simp only [takePollReply, hr]
    rw [if_pos ⟨ha, hs⟩]
    rfl
  rw [← taken]
  exact congrArg (fun t => Host.Outcome.next (takePollReply address status reading t)) (hearSensor_hunting hh)

/-- R81: any other reply is discarded. -/
theorem exec_pollReply_discarded {address status : Byte} (hr : s.sensors.round = some r) (hh : s.sensorReceiver = .hunting)
    (h : ¬ (address.toNat = r.address ∧ status.toNat ≤ 1)) (reading : Half) :
    exec (.pollReply address status reading) s = .next s := by
  have dropped : takePollReply address status reading s = s := by
    simp only [takePollReply, hr]
    rw [if_neg h]
  exact (congrArg (fun t => Host.Outcome.next (takePollReply address status reading t)) (hearSensor_hunting hh)).trans
    (congrArg _ dropped)

/-- R81: without a poll waiting a reply is discarded, and no time ends. -/
theorem exec_poll_none (hr : s.sensors.round = none) (address status : Byte) (reading : Half) :
    (s.sensorReceiver = .hunting → exec (.pollReply address status reading) s = .next s) ∧ exec .pollTimeout s = .next s := by
  refine ⟨fun hh => ?_, ?_⟩
  · have dropped : takePollReply address status reading s = s := by simp only [takePollReply, hr]
    exact (congrArg (fun t => Host.Outcome.next (takePollReply address status reading t)) (hearSensor_hunting hh)).trans
      (congrArg _ dropped)
  · have early : pollReached s = false := by simp [pollReached, hr]
    exact congrArg Host.Outcome.next (early ▸ atMoment_before _ s)

end

/-! ### The judgement of a reading (R82, R83) -/

/-- The two fresh statuses are READING 0 and NO_ECHO 1. -/
theorem fresh_status {status : Byte} (h : status.toNat ≤ 1) : status ≠ 0 ↔ status = 1 := by
  rcases Nat.le_one_iff_eq_zero_or_eq_one.mp h with h | h
  · rw [show status = 0 from BitVec.eq_of_toNat_eq h]
    decide
  · rw [show status = 1 from BitVec.eq_of_toNat_eq h]
    decide

/-- R82: the first case that applies to a fresh reading of a grade slot. -/
theorem judgeGrade_fresh {status : Byte} (h : status.toNat ≤ 1) (reading : Half) (window : Int) (old : GradeSlotRec) :
    judgeGrade window (some (freshOf status reading)) old
      = if status = 1 ∨ 6000 < (reading.toNat : Int) then { old with cls := .invalid }
        else if old.refValid = false then { old with cls := .noRef, reading := reading.toNat }
        else
          { old with
            cls := if window < |(reading.toNat : Int) - old.reference| then .excluded else .valid
            reading := reading.toNat, deviation := reading.toNat - old.reference } := by
  simp only [judgeGrade, freshOf, decide_eq_false_iff_not, fresh_status h, Int.abs_eq_natAbs]
  split
  · rfl
  · split
    · rfl
    · by_cases hw : window < (((reading.toNat : Int) - old.reference).natAbs : Int)
      · simp only [if_pos hw]
        exact if_pos hw
      · simp only [if_neg hw]
        exact if_neg hw

/-- R83: the slope slot's reading is VALID within −1000 to +1000. -/
theorem judgeSlope_fresh {status : Byte} (reading : Half) (old : SlopeSlotRec) :
    judgeSlope (some (freshOf status reading)) old
      = if status = 0 ∧ -1000 ≤ reading.toInt ∧ reading.toInt ≤ 1000 then { reading := reading.toInt, cls := .valid }
        else { old with cls := .invalid } := by
  have turned : (status = 0 ∧ -1000 ≤ reading.toInt ∧ reading.toInt ≤ 1000)
      ↔ ¬ (¬ status = 0 ∨ reading.toInt < -1000 ∨ 1000 < reading.toInt) := by
    simp only [not_or, not_not, not_lt]
  simp only [judgeSlope, freshOf, decide_eq_false_iff_not, turned, ite_not]

end Sys2Proof.Machine

open Sys2Proof Sys2Proof.Machine

/-- Settles O43: what a round's start writes is `begun`; its first poll is the first used slot's. -/
theorem roundStartsWithFirstUsedSlot : Obligations.RoundStartsWithFirstUsedSlot := by
  unfold Obligations.RoundStartsWithFirstUsedSlot
  intro s
  refine ⟨fun h => ⟨?_, startRound_idle h⟩, fun hm ht => ?_, fun hm hr => ⟨begun s, begun_gradeSlots s, rfl, begun_sides s,
    rfl, fun slot earlier later hs hu he => ?_, fun hu => ?_⟩⟩
  · refine congrArg Host.Outcome.next ?_
    rw [atMoment_eq, startRound_idle h, ite_self]
  · have reached : roundReached s = true := by simp [roundReached, hm, ht]
    exact congrArg Host.Outcome.next (reached ▸ atMoment_reached startRound s)
  · exact startRound_polls hm hr
      (List.find?_eq_some_iff_append.mpr ⟨hu, earlier, later, hs, fun x hx => by rw [he x hx]; rfl⟩)
  · exact startRound_ends hm hr (List.find?_eq_none.mpr fun x hx => by rw [hu x hx]; decide)

/-- Settles O44: a reply that fits, or the end of the 3 ms, is `completePoll`, which judges a used slot and goes `onwardFrom` it. -/
theorem pollJudgesItsSlot : Obligations.PollJudgesItsSlot := by
  unfold Obligations.PollJudgesItsSlot
  intro address status reading s
  refine ⟨rfl, fun hr => exec_poll_none hr address status reading, fun r hr => ?_⟩
  intro onward fits ends
  refine ⟨fun hh hn => exec_pollReply_discarded hr hh (fun k => hn ⟨hh, k⟩) reading,
    fun hu => ⟨fun he => ?_, fun ⟨hh, ha, hs⟩ => ?_⟩, fun d k hu hk => ?_, fun hu hk => ?_⟩
  · exact (exec_pollTimeout hr he).trans (congrArg Host.Outcome.next (completePoll_unused hr hu _))
  · exact (exec_pollReply_fits hr hh ha hs reading).trans (congrArg Host.Outcome.next (completePoll_unused hr hu _))
  · intro old v judged
    refine ⟨fun he => (exec_pollTimeout hr he).trans (congrArg Host.Outcome.next ?_),
      fun ⟨hh, ha, hs⟩ => (exec_pollReply_fits hr hh ha hs reading).trans (congrArg Host.Outcome.next ?_)⟩
    · rw [completePoll_used hr hu, Option.isSome_none, Bool.or_false, hk]
      simp only [onward, hk]
      rfl
    · rw [completePoll_used hr hu, Option.isSome_some, Bool.or_true, hk, judgeSlot, judgeGrade_fresh hs]
      simp only [onward, hk]
      rfl
  · refine ⟨fun he => (exec_pollTimeout hr he).trans (congrArg Host.Outcome.next ?_),
      fun ⟨hh, ha, hs⟩ => (exec_pollReply_fits hr hh ha hs reading).trans (congrArg Host.Outcome.next ?_)⟩
    · rw [completePoll_used hr hu, Option.isSome_none, Bool.or_false, hk, onwardFrom_slope]
      rfl
    · rw [completePoll_used hr hu, Option.isSome_some, Bool.or_true, hk, onwardFrom_slope, judgeSlot, judgeSlope_fresh]
end

section
/-! PROOFS. The end of a sensor round: the link watch, the captures and the evaluation of both sides (R87, R88, R96 to R105): O45. -/

namespace Sys2Proof.Machine

open Sys2Proof

/-! ### The link watch (R88) -/

/-- R88: SENSOR_LINK comes when the stale round count comes to 10. -/
def linkRecords (stale : Nat) (s : State) : List (Origin × Event) :=
  if stale = 10 ∧ s.sensors.staleRounds ≠ 10 then
    [(.levelling, .sensorLink (usedSlotCount s.settings) ((s.sensors.roundCount + 1) % 65536))]
  else []

theorem watchLink_eq (fresh polled : Bool) (s : State) :
    watchLink fresh polled s = { s with
      sensors := { s.sensors with
        roundCount := (s.sensors.roundCount + 1) % 65536, staleRounds := staleAfter fresh polled s.sensors.staleRounds, round := none }
      events := eventsAfter s (linkRecords (staleAfter fresh polled s.sensors.staleRounds) s) } := by
  by_cases h : staleAfter fresh polled s.sensors.staleRounds = 10 ∧ s.sensors.staleRounds ≠ 10
  · simp only [watchLink, linkRecords, if_pos h]
    rw [appendEvent_eq]
    rfl
  · simp only [watchLink, linkRecords, if_neg h, eventsAfter_nil]

/-! ### A side settled (R102, R103, R105) -/

/-- R103: where an engaged side with a verdict stands. -/
def settledAs (run : Bool) (v : Verdict) : SideState := if run = false then .suspended else if v = .short then .hold else .auto

theorem settledState_eq (s : State) (d : Side) : settledState s d = settledAs (runCondition s) (s.sides.get d).verdict := rfl

/-- R102, R103: a side settled, with its valves off where its state changes. -/
def settledRec (run : Bool) (r : SideRec) : SideRec :=
  if sideEngaged r.state = false ∨ r.state = settledAs run r.verdict then r
  else { r with state := settledAs run r.verdict, duty := 0, dir := .none }

/-- R105: what a side's change of state leaves on record, its class and count being those of the round just ended. -/
def turnRecords (s : State) (d : Side) (before after : SideRec) : List (Origin × Event) :=
  if after.state = .hold ∧ before.state ≠ .hold then
    [(.levelling, .sideHold d (match (s.settings.sides.get d).kind with
      | .grade => .validCount after.validCount
      | .slope => .slopeClass after.verdictClass))]
  else if after.state = .auto ∧ before.state = .hold then
    [(.levelling, .sideResumed d (match (s.settings.sides.get d).kind with | .grade => after.validCount | .slope => 0) after.error)]
  else []

/-- A side that stays in its state leaves nothing on record. -/
theorem turnRecords_stays {s : State} {d : Side} {before after : SideRec} (h : after.state = before.state) :
    turnRecords s d before after = [] := by
  rw [turnRecords, h, if_neg fun k => k.2 k.1, if_neg (by rintro ⟨a, b⟩; rw [a] at b; cases b)]

/-- Assumption 15: the class on record is the one the side holds. -/
theorem turnRecords_of_class {s : State} {d : Side} {before after : SideRec} {k : SlotClass} (h : after.verdictClass = k) :
    turnRecords s d before { after with verdictClass := k } = turnRecords s d before after := by
  subst h
  rfl

/-- R135: the interval flag of a side in HOLD. -/
def holdFlag (f : IntervalFlags) : Side → Bool
  | .left => f.levelHoldL
  | .right => f.levelHoldR

theorem holdFlag_join (f g : IntervalFlags) (d : Side) : holdFlag (joinFlags f g) d = (holdFlag f d || holdFlag g d) := by
  cases d <;> rfl

theorem holdFlag_standing (s : State) (d : Side) : holdFlag (standingFlags s) d = sideHolds s d := by
  cases d <;> rfl

/-- R105, R135: from `s` to `t` a side turns from one record to another: the event records of its change of state are appended, an entry
to HOLD raises its interval flag, no such flag is cleared, and nothing else changes. -/
structure Turned (d : Side) (before after : SideRec) (s t : State) : Prop where
  eq : t = { s with
    sides := s.sides.set d after, events := eventsAfter s (turnRecords s d before after)
    profiler := { s.profiler with flags := t.profiler.flags } }
  same : ¬ (after.state = .hold ∧ before.state ≠ .hold) → t.profiler.flags = s.profiler.flags
  raised : (after.state = .hold ∧ before.state ≠ .hold) → holdFlag t.profiler.flags d = true
  kept : ∀ y, holdFlag s.profiler.flags y = true → holdFlag t.profiler.flags y = true

/-- R102, R105: a side enters a state. -/
theorem enterSideState_turned (d : Side) (target : SideState) (s : State) :
    Turned d (s.sides.get d) { s.sides.get d with state := target, duty := 0, dir := .none } s (enterSideState d target s) := by
  generalize hr : s.sides.get d = r
  by_cases hold : target = .hold ∧ r.state ≠ .hold
  · have e : enterSideState d target s
        = raiseFlags (appendEvent .levelling (.sideHold d (holdDetail s d))
            (setSide d { r with state := target, duty := 0, dir := .none } s)) := by
      simp only [enterSideState, hr, if_pos hold]
    rw [appendEvent_eq] at e
    have flags : (enterSideState d target s).profiler.flags
        = joinFlags s.profiler.flags
            (standingFlags (setSide d { r with state := target, duty := 0, dir := .none } s)) := by rw [e]; rfl
    refine ⟨?_, fun h => absurd hold h, fun _ => ?_, fun y h => ?_⟩
    · rw [e, turnRecords, if_pos hold, holdDetail, hr]
      rfl
    · rw [flags, holdFlag_join, holdFlag_standing]
      simp [sideHolds, hold.1]
    · rw [flags, holdFlag_join, h, Bool.true_or]
  · by_cases back : target = .auto ∧ r.state = .hold
    · have e : enterSideState d target s
          = appendEvent .levelling (.sideResumed d (resumedCount s d) r.error)
              (setSide d { r with state := target, duty := 0, dir := .none } s) := by
        simp only [enterSideState, hr, if_neg hold, if_pos back]
      rw [appendEvent_eq] at e
      have flags : (enterSideState d target s).profiler.flags = s.profiler.flags := by rw [e]; rfl
      refine ⟨?_, fun _ => flags, fun h => absurd h hold, fun y h => flags ▸ h⟩
      rw [e, turnRecords, if_neg hold, if_pos back, resumedCount, hr]
      rfl
    · have e : enterSideState d target s = setSide d { r with state := target, duty := 0, dir := .none } s := by
        simp only [enterSideState, hr, if_neg hold, if_neg back]
      have flags : (enterSideState d target s).profiler.flags = s.profiler.flags := by rw [e]; rfl
      refine ⟨?_, fun _ => flags, fun h => absurd h hold, fun y h => flags ▸ h⟩
      rw [e, turnRecords, if_neg hold, if_neg back]
      rfl

/-- R103: a side is settled. -/
theorem settleSide_turned (d : Side) (s : State) :
    Turned d (s.sides.get d) (settledRec (runCondition s) (s.sides.get d)) s (settleSide d s) := by
  by_cases h : sideEngaged (s.sides.get d).state = false ∨ (s.sides.get d).state = settledState s d
  · have e : settleSide d s = s := if_pos h
    rw [e, settledRec, ← settledState_eq, if_pos h]
    refine ⟨?_, fun _ => rfl, fun k => absurd k.1 k.2, fun _ k => k⟩
    rw [turnRecords_stays rfl, PerSide.set_get, eventsAfter_nil]
  · have e : settleSide d s = enterSideState d (settledState s d) s := if_neg h
    rw [e, settledRec, ← settledState_eq, if_neg h]
    exact enterSideState_turned d _ s

/-! ### The evaluation of one side (R96 to R101) -/

/-- R96 steps 1 to 3: the side with its verdict, deviation, gain set and error. -/
def measuredRec (s : State) (d : Side) : SideRec :=
  { s.sides.get d with
    verdict := roundVerdict s d
    deviation := if roundVerdict s d = .good then combinedDeviation s d else (s.sides.get d).deviation
    gain := gainBySpeed s
    error := if roundVerdict s d = .good then gradeError s d (combinedDeviation s d) else (s.sides.get d).error
    verdictClass := s.slopeSlot.cls }

theorem measureSide_eq (d : Side) (s : State) : measureSide d s = setSide d (measuredRec s d) s := by
  unfold measureSide measuredRec
  cases roundVerdict s d <;> rfl

/-- R101: the valves of a side in AUTO are driven by its error. -/
def drivenRec (g : GainSettings) (r : SideRec) : SideRec :=
  if r.state = .auto then { r with duty := gradeDuty g r.error, dir := gradeDirection g r.error } else r

theorem driveSide_eq (d : Side) (s : State) :
    driveSide d s = { s with sides := s.sides.set d (drivenRec (gainOf s.settings (s.sides.get d).gain) (s.sides.get d)) } := by
  by_cases h : (s.sides.get d).state = .auto
  · simp only [driveSide, drivenRec, if_pos h]
    rfl
  · simp only [driveSide, drivenRec, if_neg h, PerSide.set_get]

/-- R96: the side after its evaluation. -/
def evaluatedRec (s : State) (d : Side) : SideRec :=
  drivenRec (gainOf s.settings (gainBySpeed s)) (settledRec (runCondition s) (measuredRec s d))

section
variable (g : GainSettings) (run : Bool) (r : SideRec)

@[simp] theorem drivenRec_state : (drivenRec g r).state = r.state := by unfold drivenRec; split <;> rfl
@[simp] theorem drivenRec_error : (drivenRec g r).error = r.error := by unfold drivenRec; split <;> rfl
@[simp] theorem drivenRec_validCount : (drivenRec g r).validCount = r.validCount := by unfold drivenRec; split <;> rfl
@[simp] theorem drivenRec_verdictClass : (drivenRec g r).verdictClass = r.verdictClass := by unfold drivenRec; split <;> rfl
@[simp] theorem settledRec_gain : (settledRec run r).gain = r.gain := by unfold settledRec; split <;> rfl

end

/-- What a side's change of state leaves on record does not depend on its valves. -/
theorem turnRecords_driven (s : State) (d : Side) (before : SideRec) (g : GainSettings) (r : SideRec) :
    turnRecords s d before (drivenRec g r) = turnRecords s d before r := by
  simp only [turnRecords, drivenRec_state, drivenRec_error, drivenRec_validCount, drivenRec_verdictClass]

section
variable {d : Side} {before after : SideRec} {s t : State}

/-- A side turns from its record as from any in the same state. -/
theorem Turned.from {m : SideRec} (hm : m.state = before.state) (h : Turned d m after (setSide d m s) t) :
    Turned d before after s t := by
  obtain ⟨eq, same, raised, kept⟩ := h
  have records : turnRecords (setSide d m s) d m after = turnRecords s d before after := by
    simp only [turnRecords, hm, setSide_settings]
  rw [records, setSide_sides, PerSide.set_set] at eq
  rw [hm] at same raised
  exact ⟨eq, same, raised, kept⟩

/-- R96 step 5: a side that has turned is driven. -/
theorem Turned.driven (h : Turned d before after s t) :
    Turned d before (drivenRec (gainOf s.settings after.gain) after) s (driveSide d t) := by
  obtain ⟨eq, same, raised, kept⟩ := h
  have profiler : (driveSide d t).profiler = t.profiler := by rw [driveSide_eq]
  refine ⟨?_, fun k => ?_, fun k => ?_, fun y k => ?_⟩
  · have side : t.sides.get d = after := by
      rw [eq]
      exact PerSide.get_set_same _ _ _
    have settings : t.settings = s.settings := by rw [eq]
    rw [profiler, driveSide_eq, side, settings, turnRecords_driven]
    rw [eq]
    simp only [PerSide.set_set]
  · rw [drivenRec_state] at k
    rw [profiler, same k]
  · rw [drivenRec_state] at k
    rw [profiler, raised k]
  · rw [profiler, kept y k]

end

/-- R96: the evaluation of a side turns its record. -/
theorem evaluateSide_turned (d : Side) (s : State) : Turned d (s.sides.get d) (evaluatedRec s d) s (evaluateSide d s) := by
  have settled := settleSide_turned d (setSide d (measuredRec s d) s)
  rw [setSide_sides, PerSide.get_set_same] at settled
  have turned : Turned d (s.sides.get d) (settledRec (runCondition s) (measuredRec s d)) s
      (settleSide d (setSide d (measuredRec s d) s)) := Turned.from (m := measuredRec s d) rfl settled
  have driven := turned.driven
  rw [settledRec_gain] at driven
  rw [evaluateSide, measureSide_eq]
  exact driven

/-! ### What an evaluation gives one side -/

/-- R96: an evaluation writes a side's figures, its state and its valves. -/
theorem evaluatedRec_frame (s : State) (d : Side) :
    evaluatedRec s d = { measuredRec s d with
      state := (evaluatedRec s d).state, duty := (evaluatedRec s d).duty, dir := (evaluatedRec s d).dir } := by
  unfold evaluatedRec drivenRec settledRec
  repeat' split
  all_goals rfl

section
variable {s : State} {d : Side}

/-- R98: without a GOOD verdict the deviation and the error stand. -/
theorem evaluatedRec_short (h : roundVerdict s d ≠ .good) :
    (evaluatedRec s d).deviation = (s.sides.get d).deviation ∧ (evaluatedRec s d).error = (s.sides.get d).error := by
  rw [evaluatedRec_frame]
  exact ⟨if_neg h, if_neg h⟩

/-- R97 to R99: with a GOOD verdict both are of the round. -/
theorem evaluatedRec_good (h : roundVerdict s d = .good) :
    (evaluatedRec s d).deviation = combinedDeviation s d
      ∧ (evaluatedRec s d).error = gradeError s d (combinedDeviation s d) := by
  rw [evaluatedRec_frame]
  exact ⟨if_pos h, if_pos h⟩

/-- R103: an engaged side stands where its verdict and the run condition put it. -/
theorem evaluatedRec_state (h : sideEngaged (s.sides.get d).state = true) :
    (evaluatedRec s d).state = settledAs (runCondition s) (roundVerdict s d) := by
  have engaged : ¬ sideEngaged (measuredRec s d).state = false := by
    rw [show (measuredRec s d).state = (s.sides.get d).state from rfl, h]
    decide
  rw [evaluatedRec, drivenRec_state, settledRec]
  split
  · next k => exact k.resolve_left engaged
  · rfl

/-- R96, R103: a side that is not engaged is measured only. -/
theorem evaluatedRec_disengaged (h : sideEngaged (s.sides.get d).state = false) : evaluatedRec s d = measuredRec s d := by
  have rests : settledRec (runCondition s) (measuredRec s d) = measuredRec s d := if_pos (.inl h)
  have idle : (measuredRec s d).state ≠ .auto := fun k => by
    rw [show (s.sides.get d).state = .auto from k] at h
    cases h
  rw [evaluatedRec, rests, drivenRec, if_neg idle]

/-- R102: a side not in AUTO has its valves turned off by a change of its state, and kept without one. -/
theorem evaluatedRec_valves (h : (evaluatedRec s d).state ≠ .auto) :
    ((evaluatedRec s d).state ≠ (s.sides.get d).state → (evaluatedRec s d).duty = 0 ∧ (evaluatedRec s d).dir = .none)
      ∧ ((evaluatedRec s d).state = (s.sides.get d).state →
          (evaluatedRec s d).duty = (s.sides.get d).duty ∧ (evaluatedRec s d).dir = (s.sides.get d).dir) := by
  have settled : evaluatedRec s d = settledRec (runCondition s) (measuredRec s d) := by
    rw [evaluatedRec, drivenRec_state] at h
    rw [evaluatedRec, drivenRec, if_neg h]
  rw [settled, settledRec]
  split
  · exact ⟨fun k => absurd rfl k, fun _ => ⟨rfl, rfl⟩⟩
  · next moved => exact ⟨fun _ => ⟨rfl, rfl⟩, fun k => absurd (.inr k.symm) moved⟩

/-- R101: a side in AUTO is driven by its error with the gain set in use. -/
theorem evaluatedRec_auto (h : (evaluatedRec s d).state = .auto) :
    (evaluatedRec s d).duty = gradeDuty (gainOf s.settings (gainBySpeed s)) (evaluatedRec s d).error
      ∧ (evaluatedRec s d).dir = gradeDirection (gainOf s.settings (gainBySpeed s)) (evaluatedRec s d).error := by
  rw [evaluatedRec, drivenRec_state] at h
  rw [evaluatedRec, drivenRec_error, drivenRec, if_pos h]
  exact ⟨rfl, rfl⟩

end

/-- R101: within the deadband the valves are off. -/
theorem gradeDuty_within {g : GainSettings} {e : Int} (h : |e| ≤ g.deadband) : gradeDuty g e = 0 ∧ gradeDirection g e = .none := by
  rw [Int.abs_eq_natAbs] at h
  exact ⟨if_pos h, if_pos h⟩

/-- R101: beyond the deadband the duty grows with the error, and the side moves against it. -/
theorem gradeDuty_beyond {g : GainSettings} {e : Int} (h : g.deadband < |e|) :
    gradeDuty g e = max g.minDuty (min 1000 (((|e| - g.deadband) * 1000).tdiv g.band))
      ∧ gradeDirection g e = if 0 < e then .down else .up := by
  rw [Int.abs_eq_natAbs] at h ⊢
  exact ⟨if_neg (not_le.mpr h), if_neg (not_le.mpr h)⟩

/-- R100: the gain set in use. -/
theorem gainOf_speed (s : State) :
    gainOf s.settings (gainBySpeed s) = if s.settings.creep ≤ s.travel.speed then s.settings.gainA else s.settings.gainB := by
  unfold gainBySpeed
  split <;> rfl

/-- What an evaluation gives a side depends on that side and on what no evaluation writes. -/
theorem evaluatedRec_congr {s t : State} {d : Side} (h : hideSides t = hideSides s) (hd : t.sides.get d = s.sides.get d) :
    evaluatedRec t d = evaluatedRec s d := by
  have settings : t.settings = s.settings := by have e := congrArg State.settings h; exact e
  have slots : t.gradeSlots = s.gradeSlots := by have e := congrArg State.gradeSlots h; exact e
  have slope : t.slopeSlot = s.slopeSlot := by have e := congrArg State.slopeSlot h; exact e
  have verdict : roundVerdict t d = roundVerdict s d := by simp only [roundVerdict, settings, slope, hd]
  have deviation : combinedDeviation t d = combinedDeviation s d := by
    simp only [combinedDeviation, gradeSums, validPlaces, settings, slots, slope]
  have gain : gainBySpeed t = gainBySpeed s := by simp only [gainBySpeed, settings, travel_of_sides h]
  have measured : measuredRec t d = measuredRec s d := by
    simp only [measuredRec, gradeError, verdict, deviation, gain, settings, slope, hd]
  rw [evaluatedRec, evaluatedRec, measured, settings, gain, runCondition_of_sides h]

/-! ### The evaluation of both sides (R87, R96) -/

/-- R87 step 3: both sides with their valid counts. -/
def counted (c : State) : State :=
  { c with
    sides := ⟨{ c.sides.left with validCount := (validPlaces c .left).length },
      { c.sides.right with validCount := (validPlaces c .right).length }⟩ }

theorem countValid_both (c : State) : countValid .right (countValid .left c) = counted c := by
  have places : validPlaces (countValid .left c) .right = validPlaces c .right := rfl
  rw [countValid, places]
  rfl

/-- R87: the machine after both sides are counted and evaluated, the left side first. -/
def evaluateSides (c : State) : State := evaluateSide .right (evaluateSide .left (counted c))

theorem endRound_eq (fresh polled : Bool) (s : State) :
    endRound fresh polled s = evaluateSides (completeCapture .right (completeCapture .left (watchLink fresh polled s))) := by
  simp only [endRound, evaluateSides, countValid_both]

theorem counted_side (c : State) (d : Side) :
    (counted c).sides.get d = { c.sides.get d with validCount := (validPlaces c d).length } := by
  cases d <;> rfl

theorem turnRecords_congr {s t : State} {d : Side} {before before' after : SideRec} (hs : t.settings = s.settings)
    (hb : before'.state = before.state) : turnRecords t d before' after = turnRecords s d before after := by
  simp only [turnRecords, hs, hb]

/-- R96: both sides turned, the left one first. -/
theorem evaluateSides_turned (c : State) :
    Turned .left ((counted c).sides.get .left) (evaluatedRec (counted c) .left) (counted c) (evaluateSide .left (counted c))
      ∧ Turned .right ((counted c).sides.get .right) (evaluatedRec (counted c) .right) (evaluateSide .left (counted c))
          (evaluateSides c) := by
  have left := evaluateSide_turned .left (counted c)
  have right := evaluateSide_turned .right (evaluateSide .left (counted c))
  have side : (evaluateSide .left (counted c)).sides.get .right = (counted c).sides.get .right := by
    rw [left.eq]
    exact PerSide.get_set_other _ .left .right _ (by decide)
  rw [evaluatedRec_congr (hideSides_evaluateSide .left _) side, side] at right
  exact ⟨left, right⟩

/-- R87: each side as its evaluation gives it. -/
theorem evaluateSides_side (c : State) (d : Side) : (evaluateSides c).sides.get d = evaluatedRec (counted c) d := by
  obtain ⟨left, right⟩ := evaluateSides_turned c
  rw [right.eq, left.eq]
  cases d <;> rfl

/-- The fields that the levelling sides may write outside a round; every other stands. -/
theorem frame_of_sides {s t : State} (h : hideSides t = hideSides s) :
    t = { s with sides := t.sides, profiler := t.profiler, events := t.events } := by
  obtain ⟨⟩ := s
  obtain ⟨⟩ := t
  simp only [hideSides, State.mk.injEq, true_and] at h
  simp_all

theorem hideSides_evaluateSides (c : State) : hideSides (evaluateSides c) = hideSides c := by
  rw [evaluateSides, hideSides_evaluateSide, hideSides_evaluateSide]
  rfl

/-- R105: what the evaluation of a side leaves on record. -/
def evaluationRecords (c : State) (d : Side) : List (Origin × Event) :=
  turnRecords c d (c.sides.get d) (evaluatedRec (counted c) d)

/-- R96: both evaluations write the sides, the interval flags and the EVENT area. -/
theorem evaluateSides_eq (c : State) :
    evaluateSides c = { c with
      sides := (evaluateSides c).sides, events := eventsAfter c (evaluationRecords c .left ++ evaluationRecords c .right)
      profiler := { c.profiler with flags := (evaluateSides c).profiler.flags } } := by
  obtain ⟨left, right⟩ := evaluateSides_turned c
  have state (d : Side) : ((counted c).sides.get d).state = (c.sides.get d).state := by rw [counted_side]
  have leftRecords : turnRecords (counted c) .left ((counted c).sides.get .left) (evaluatedRec (counted c) .left)
      = evaluationRecords c .left := turnRecords_congr rfl (state .left)
  have rightRecords : turnRecords (evaluateSide .left (counted c)) .right ((counted c).sides.get .right)
      (evaluatedRec (counted c) .right) = evaluationRecords c .right := turnRecords_congr (by rw [left.eq]; rfl) (state .right)
  have first := left.eq
  have second := right.eq
  rw [leftRecords] at first
  rw [rightRecords] at second
  have events : (evaluateSides c).events = eventsAfter c (evaluationRecords c .left ++ evaluationRecords c .right) := by
    rw [second, first, eventsAfter_append]
    exact eventsAfter_congr _ rfl rfl rfl rfl rfl
  have profiler : (evaluateSides c).profiler = { c.profiler with flags := (evaluateSides c).profiler.flags } := by
    refine (congrArg State.profiler second).trans ?_
    rw [congrArg State.profiler first]
    rfl
  refine (frame_of_sides (hideSides_evaluateSides c)).trans ?_
  rw [← events, ← profiler]

/-- R105: a side enters HOLD in the evaluation. -/
def entersHold (c : State) (d : Side) : Prop := ((evaluateSides c).sides.get d).state = .hold ∧ (c.sides.get d).state ≠ .hold

section
variable {c : State}

/-- An entry to HOLD as a side's turn has it. -/
theorem entersHold_iff (d : Side) :
    entersHold c d ↔ (evaluatedRec (counted c) d).state = .hold ∧ ((counted c).sides.get d).state ≠ .hold := by
  rw [entersHold, evaluateSides_side, counted_side]

/-- R135: without an entry to HOLD the interval flags stand. -/
theorem evaluateSides_flags (h : ∀ d, ¬ entersHold c d) : (evaluateSides c).profiler.flags = c.profiler.flags := by
  obtain ⟨left, right⟩ := evaluateSides_turned c
  exact (right.same fun k => h .right ((entersHold_iff .right).mpr k)).trans
    (left.same fun k => h .left ((entersHold_iff .left).mpr k))

/-- R135: an entry to HOLD raises the side's interval flag. -/
theorem evaluateSides_raised {d : Side} (h : entersHold c d) : holdFlag (evaluateSides c).profiler.flags d = true := by
  obtain ⟨left, right⟩ := evaluateSides_turned c
  have turned := (entersHold_iff d).mp h
  cases d with
  | left => exact right.kept .left (left.raised turned)
  | right => exact right.raised turned

end

/-! ### The figures of a counted side (R97 to R100) -/

/-- R97, R98: the round is GOOD for a side. -/
def goodRound (c : State) (d : Side) : Bool :=
  match (c.settings.sides.get d).kind with
  | .grade => decide ((c.settings.sides.get d).minValid ≤ (validPlaces c d).length)
  | .slope => decide (c.slopeSlot.cls = .valid)

theorem counted_verdict (c : State) (d : Side) : roundVerdict (counted c) d = if goodRound c d then .good else .short := by
  have settings : (counted c).settings = c.settings := rfl
  have slope : (counted c).slopeSlot = c.slopeSlot := rfl
  rw [roundVerdict, goodRound, settings, slope, counted_side]
  cases (c.settings.sides.get d).kind <;> simp

theorem counted_good {c : State} {d : Side} : roundVerdict (counted c) d = .good ↔ goodRound c d = true := by
  rw [counted_verdict]
  cases goodRound c d <;> simp

/-- R96: an evaluation leaves a side's jog and capture. -/
theorem evaluatedRec_counted (c : State) (d : Side) :
    evaluatedRec (counted c) d = { c.sides.get d with
      state := (evaluatedRec (counted c) d).state, verdict := if goodRound c d then .good else .short
      deviation := (evaluatedRec (counted c) d).deviation, error := (evaluatedRec (counted c) d).error
      gain := if c.settings.creep ≤ c.travel.speed then .a else .b
      duty := (evaluatedRec (counted c) d).duty, dir := (evaluatedRec (counted c) d).dir
      validCount := (validPlaces c d).length, verdictClass := c.slopeSlot.cls } := by
  have frame := evaluatedRec_frame (counted c) d
  refine frame.trans ?_
  rw [congrArg SideRec.deviation frame, congrArg SideRec.error frame, measuredRec, counted_verdict, counted_side]
  rfl

/-- R97, R98: the combined deviation does not depend on the valid count. -/
theorem counted_deviation (c : State) (d : Side) : combinedDeviation (counted c) d = combinedDeviation c d := by
  have places : validPlaces (counted c) d = validPlaces c d := rfl
  simp only [combinedDeviation, gradeSums, places]
  rfl

theorem counted_run (c : State) : runCondition (counted c) = decide (c.mode = .paving ∧ 0 < c.travel.speed) :=
  (Bool.decide_and _ _).symm

/-- R103: where an engaged side stands after a round. -/
theorem settledAs_counted (c : State) (d : Side) :
    settledAs (runCondition (counted c)) (roundVerdict (counted c) d)
      = if decide (c.mode = .paving ∧ 0 < c.travel.speed) = false then .suspended else if goodRound c d then .auto else .hold := by
  rw [counted_run, counted_verdict, settledAs]
  cases goodRound c d <;> rfl

/-- R97: the combined deviation of a GRADE side, rounded half away from zero. -/
theorem combinedDeviation_grade {s : State} {d : Side} (hk : (s.settings.sides.get d).kind = .grade) (h : 0 < (gradeSums s d).2) :
    combinedDeviation s d
      = (gradeSums s d).1.sign * ((2 * (gradeSums s d).1.natAbs + (gradeSums s d).2) / (2 * (gradeSums s d).2) : Nat) := by
  rw [combinedDeviation, hk]
  exact divHalfAway_eq _ h

/-- R98: the combined deviation of a SLOPE side. -/
theorem combinedDeviation_slope {s : State} {d : Side} (hk : (s.settings.sides.get d).kind = .slope) :
    combinedDeviation s d
      = (match d with
        | .left => -(s.slopeSlot.reading - (s.settings.sides.get d).slopeTarget) * s.settings.span
        | .right => (s.slopeSlot.reading - (s.settings.sides.get d).slopeTarget) * s.settings.span).tdiv 1000 := by
  rw [combinedDeviation, hk]
  cases d <;> rfl

/-! ### What the end of a round gives one side (R96 to R103) -/

section
variable {c : State} {d : Side}

theorem counted_state (c : State) (d : Side) : ((counted c).sides.get d).state = (c.sides.get d).state := by rw [counted_side]

theorem evaluateSides_short (h : goodRound c d = false) :
    ((evaluateSides c).sides.get d).deviation = (c.sides.get d).deviation
      ∧ ((evaluateSides c).sides.get d).error = (c.sides.get d).error := by
  have short := evaluatedRec_short (s := counted c) (d := d) (fun k => by rw [counted_good.mp k] at h; cases h)
  rwa [← evaluateSides_side, counted_side] at short

theorem evaluateSides_deviation (h : goodRound c d = true) :
    ((evaluateSides c).sides.get d).deviation = combinedDeviation c d := by
  rw [evaluateSides_side, (evaluatedRec_good (counted_good.mpr h)).1, counted_deviation]

theorem evaluateSides_grade (h : goodRound c d = true) (hk : (c.settings.sides.get d).kind = .grade) (hd : 0 < (gradeSums c d).2) :
    ((evaluateSides c).sides.get d).deviation
      = (gradeSums c d).1.sign * ((2 * (gradeSums c d).1.natAbs + (gradeSums c d).2) / (2 * (gradeSums c d).2) : Nat) := by
  rw [evaluateSides_deviation h, combinedDeviation_grade hk hd]

theorem evaluateSides_slope (h : goodRound c d = true) (hk : (c.settings.sides.get d).kind = .slope) :
    ((evaluateSides c).sides.get d).deviation
      = (match d with
        | .left => -(c.slopeSlot.reading - (c.settings.sides.get d).slopeTarget) * c.settings.span
        | .right => (c.slopeSlot.reading - (c.settings.sides.get d).slopeTarget) * c.settings.span).tdiv 1000 := by
  rw [evaluateSides_deviation h, combinedDeviation_slope hk]

theorem evaluateSides_error (h : goodRound c d = true) :
    ((evaluateSides c).sides.get d).error
      = max (-9999) (min 9999 (((evaluateSides c).sides.get d).deviation - (c.settings.sides.get d).gradeOffset)) := by
  rw [evaluateSides_deviation h, evaluateSides_side, (evaluatedRec_good (counted_good.mpr h)).2]
  rfl

theorem evaluateSides_engaged (h : sideEngaged (c.sides.get d).state = true) :
    ((evaluateSides c).sides.get d).state
      = if decide (c.mode = .paving ∧ 0 < c.travel.speed) = false then .suspended else if goodRound c d then .auto else .hold := by
  rw [evaluateSides_side, evaluatedRec_state (by rw [counted_state, h]), settledAs_counted]

/-- R102: a side not in AUTO has its valves turned off by a change of its state, and kept without one. -/
theorem evaluateSides_valves (h : ((evaluateSides c).sides.get d).state ≠ .auto) :
    (((evaluateSides c).sides.get d).state ≠ (c.sides.get d).state →
        ((evaluateSides c).sides.get d).duty = 0 ∧ ((evaluateSides c).sides.get d).dir = .none)
      ∧ (((evaluateSides c).sides.get d).state = (c.sides.get d).state →
          ((evaluateSides c).sides.get d).duty = (c.sides.get d).duty
            ∧ ((evaluateSides c).sides.get d).dir = (c.sides.get d).dir) := by
  rw [evaluateSides_side] at h ⊢
  have valves := evaluatedRec_valves h
  rwa [counted_side] at valves

theorem evaluateSides_disengaged (h : sideEngaged (c.sides.get d).state = false) :
    ((evaluateSides c).sides.get d).state = (c.sides.get d).state ∧ ((evaluateSides c).sides.get d).duty = (c.sides.get d).duty
      ∧ ((evaluateSides c).sides.get d).dir = (c.sides.get d).dir := by
  rw [evaluateSides_side, evaluatedRec_disengaged (by rw [counted_state, h]), measuredRec, counted_side]
  exact ⟨rfl, rfl, rfl⟩

/-- R101: a side in AUTO is driven with the gain set of the speed. -/
theorem evaluateSides_auto (h : ((evaluateSides c).sides.get d).state = .auto) :
    let e := ((evaluateSides c).sides.get d).error
    let g := if c.settings.creep ≤ c.travel.speed then c.settings.gainA else c.settings.gainB
    ((evaluateSides c).sides.get d).duty = gradeDuty g e ∧ ((evaluateSides c).sides.get d).dir = gradeDirection g e := by
  rw [evaluateSides_side] at h ⊢
  have driven := evaluatedRec_auto h
  rwa [gainOf_speed] at driven

end

end Sys2Proof.Machine

open Sys2Proof Sys2Proof.Machine

/-- Settles O45: the round ends with `evaluateSides` behind the watch and the captures; what it writes is `evaluateSides_eq`, and each side
is `evaluatedRec` of the counted state. -/
theorem roundEndEvaluatesSides : Obligations.RoundEndEvaluatesSides := by
  unfold Obligations.RoundEndEvaluatesSides
  intro fresh polled s count stale watched
  have watch : watched = watchLink fresh polled s := (watchLink_eq fresh polled s).symm
  rw [endRound_eq, ← watch]
  generalize completeCapture .right (completeCapture .left watched) = c
  intro c' t holds sideRecords
  have records (d : Side) : sideRecords d = evaluationRecords c d := by
    have cls : ((evaluateSides c).sides.get d).verdictClass = c.slopeSlot.cls := by rw [evaluateSides_side, evaluatedRec_counted]
    exact (turnRecords_of_class cls).trans (congrArg _ (evaluateSides_side c d))
  refine ⟨?_, evaluateSides_flags, evaluateSides_raised (d := .left), evaluateSides_raised (d := .right), fun d => ?_⟩
  · rw [records, records]
    exact evaluateSides_eq c
  · intro r k valid weight num den good e q run g
    refine ⟨?_, evaluateSides_short, evaluateSides_grade, evaluateSides_slope, evaluateSides_error,
      fun he => ⟨evaluateSides_engaged he, fun hn => (evaluateSides_valves hn).1, fun hn => (evaluateSides_valves hn).2⟩,
      evaluateSides_disengaged, fun ha => ?_⟩
    · have figures := evaluatedRec_counted c d
      rwa [← evaluateSides_side] at figures
    · obtain ⟨duty, dir⟩ := evaluateSides_auto ha
      refine ⟨fun within => ?_, fun beyond => ?_⟩
      · exact ⟨duty.trans (gradeDuty_within within).1, dir.trans (gradeDuty_within within).2⟩
      · exact ⟨duty.trans (gradeDuty_beyond beyond).1, dir.trans (gradeDuty_beyond beyond).2⟩
end

section
/-! PROOFS. The rules of the levelling sides and of the feed channels (R102, R103, R111, R117, R118, R127), record by record, and through the mode
controller and the controllers that drive them: O10. -/

namespace Sys2Proof.Machine

open Sys2Proof

/-! ### The rules of one record -/

/-- R102, R111: a jog runs in MANUAL only; the valves are driven only in AUTO or by a jog, and only with a direction. -/
structure ValvesFit (r : SideRec) : Prop where
  jog : r.jogLeft ≠ 0 → r.state = .manual
  duty : r.duty ≠ 0 → r.state = .auto ∨ r.jogLeft ≠ 0
  dir : r.duty ≠ 0 → r.dir ≠ .none

/-- R103: an engaged side stands where the run condition and its verdict put it. -/
def sideSettled (run : Bool) (r : SideRec) : Prop := sideEngaged r.state = true → r.state = settledAs run r.verdict

/-- R117, R127: a jog runs in MANUAL only; a channel is driven only in AUTO, in HOLD_LAST or by a jog; a hold time runs in HOLD_LAST only. -/
structure ChannelFits (r : FeedRec) : Prop where
  jog : r.jogLeft ≠ 0 → r.state = .manual
  duty : r.duty ≠ 0 → r.state = .auto ∨ r.state = .holdLast ∨ r.jogLeft ≠ 0
  hold : r.hold ≠ 0 → r.state = .holdLast

/-- R118: an engaged channel is SUSPENDED exactly outside PAVING. -/
def feedSettled (m : Mode) (r : FeedRec) : Prop := feedEngaged r.state = true → (r.state = .suspended ↔ m ≠ .paving)

theorem settledAs_auto {run : Bool} {v : Verdict} (h : settledAs run v = .auto) : run = true := by
  cases run
  · cases h
  · rfl

theorem sideSound_iff (s : State) (d : Side) :
    sideSound s d = true ↔ ValvesFit (s.sides.get d) ∧ sideSettled (runCondition s) (s.sides.get d) := by
  simp only [sideSound, Bool.and_eq_true, Bool.or_eq_true, Bool.not_eq_true', decide_eq_true_eq, ne_eq]
  rw [settledState_eq]
  generalize s.sides.get d = r
  constructor
  · rintro ⟨⟨⟨settled, jog⟩, duty⟩, dir⟩
    refine ⟨⟨fun h => jog.resolve_left h, fun h => ?_, fun h => dir.resolve_right h⟩, fun h => ?_⟩
    · rcases duty with (idle | ⟨auto, -⟩) | ⟨-, left⟩
      · exact absurd idle h
      · exact .inl auto
      · exact .inr left.ne'
    · exact settled.resolve_left (by simp [h])
  · rintro ⟨⟨jog, duty, dir⟩, settled⟩
    refine ⟨⟨⟨?_, or_iff_not_imp_left.mpr jog⟩, ?_⟩, or_iff_not_imp_right.mpr dir⟩
    · cases h : sideEngaged r.state
      · exact .inl rfl
      · exact .inr (settled h)
    · by_cases idle : r.duty = 0
      · exact .inl (.inl idle)
      · rcases duty idle with auto | left
        · have stands := settled (by rw [auto]; rfl)
          exact .inl (.inr ⟨auto, settledAs_auto (stands.symm.trans auto)⟩)
        · exact .inr ⟨jog left, Nat.pos_of_ne_zero left⟩

theorem sidesSound_iff (s : State) :
    sidesSound s = true ↔ ∀ d, ValvesFit (s.sides.get d) ∧ sideSettled (runCondition s) (s.sides.get d) := by
  simp only [sidesSound, Bool.and_eq_true, sideSound_iff]
  exact ⟨fun h d => by cases d; exacts [h.1, h.2], fun h => ⟨h .left, h .right⟩⟩

theorem feedSound_iff (s : State) (c : FeedChannel) :
    feedSound s c = true ↔ ChannelFits (s.feed.get c) ∧ feedSettled s.mode (s.feed.get c) := by
  simp only [feedSound, Bool.and_eq_true, Bool.or_eq_true, Bool.not_eq_true', decide_eq_true_eq, decide_eq_decide, ne_eq]
  generalize s.feed.get c = r
  constructor
  · rintro ⟨⟨⟨settled, jog⟩, duty⟩, hold⟩
    refine ⟨⟨fun h => jog.resolve_left h, fun h => ?_, fun h => hold.resolve_left h⟩, fun h => ?_⟩
    · rcases duty with ((idle | auto) | last) | ⟨-, left⟩
      · exact absurd idle h
      · exact .inl auto
      · exact .inr (.inl last)
      · exact .inr (.inr left.ne')
    · exact settled.resolve_left (by simp [h])
  · rintro ⟨⟨jog, duty, hold⟩, settled⟩
    refine ⟨⟨⟨?_, or_iff_not_imp_left.mpr jog⟩, ?_⟩, or_iff_not_imp_left.mpr hold⟩
    · cases h : feedEngaged r.state
      · exact .inl rfl
      · exact .inr (settled h)
    · by_cases idle : r.duty = 0
      · exact .inl (.inl (.inl idle))
      · rcases duty idle with auto | last | left
        · exact .inl (.inl (.inr auto))
        · exact .inl (.inr last)
        · exact .inr ⟨jog left, Nat.pos_of_ne_zero left⟩

theorem feedsSound_iff (s : State) :
    feedsSound s = true ↔ ∀ c, ChannelFits (s.feed.get c) ∧ feedSettled s.mode (s.feed.get c) := by
  simp only [feedsSound, List.all_eq_true, feedSound_iff]
  exact ⟨fun h c => h c (by cases c <;> decide), fun h c _ => h c⟩

/-! ### A side's record through each operation -/

section
variable {run : Bool} {r : SideRec}

/-- A side with its valves off and no jog fits in any state. -/
theorem ValvesFit.off (hd : r.duty = 0) (hj : r.jogLeft = 0) : ValvesFit r :=
  ⟨fun h => absurd hj h, fun h => absurd hd h, fun h => absurd hd h⟩

/-- A side that is neither in AUTO nor in MANUAL has its valves off and no jog. -/
theorem ValvesFit.rests (h : ValvesFit r) (hm : r.state ≠ .manual) (ha : r.state ≠ .auto) : r.duty = 0 ∧ r.jogLeft = 0 := by
  have left : r.jogLeft = 0 := by
    by_contra hj
    exact hm (h.jog hj)
  refine ⟨?_, left⟩
  by_contra hd
  exact (h.duty hd).elim ha (fun hj => hj left)

theorem ValvesFit.jogLeft_engaged (h : ValvesFit r) (he : sideEngaged r.state = true) : r.jogLeft = 0 := by
  by_contra hj
  rw [h.jog hj] at he
  cases he

theorem sideSettled_of_disengaged (h : sideEngaged r.state = false) : sideSettled run r := fun he => by
  rw [h] at he
  cases he

theorem gradeJogDone_left (k : GradeEnd) (r : SideRec) : (gradeJogDone k r).jogLeft = 0 := by
  unfold gradeJogDone
  split
  · assumption
  · rfl

theorem gradeJogDone_verdict (k : GradeEnd) (r : SideRec) : (gradeJogDone k r).verdict = r.verdict := by
  unfold gradeJogDone
  split <;> rfl

/-- R111. -/
theorem ValvesFit.jogDone (h : ValvesFit r) (k : GradeEnd) : ValvesFit (gradeJogDone k r) := by
  unfold gradeJogDone
  split
  · exact h
  · exact .off rfl rfl

theorem sideSettled.jogDone (h : sideSettled run r) (k : GradeEnd) : sideSettled run (gradeJogDone k r) := by
  unfold sideSettled
  rw [gradeJogDone_state, gradeJogDone_verdict]
  exact h

/-- R108: a side forced OFF fits under any run condition. -/
theorem ValvesFit.parked (h : ValvesFit r) (k : GradeEnd) : ValvesFit (parkedSide k r) := by
  have ended := h.jogDone k
  unfold parkedSide
  split
  · next hr =>
    obtain ⟨duty, left⟩ := ended.rests (by simp [hr]) (by simp [hr])
    exact .off duty left
  · exact .off rfl (gradeJogDone_left k r)

theorem parkedSide_settled (run : Bool) (k : GradeEnd) (r : SideRec) : sideSettled run (parkedSide k r) := by
  refine sideSettled_of_disengaged ?_
  rcases parkedSide_resting k r with h | h <;> rw [h] <;> rfl

/-- R102, R103: a change of state turns the valves off. -/
theorem ValvesFit.settled (h : ValvesFit r) (run : Bool) : ValvesFit (settledRec run r) := by
  unfold settledRec
  split
  · exact h
  · next moves =>
    exact .off rfl (h.jogLeft_engaged (by simpa using fun k => moves (.inl k)))

theorem settledRec_settled (run : Bool) (r : SideRec) : sideSettled run (settledRec run r) := by
  unfold settledRec
  split
  · next stays => exact fun he => stays.resolve_left (by simp [he])
  · exact fun _ => rfl

/-- R101: a duty comes with a direction. -/
theorem gradeDirection_of_duty {g : GainSettings} {e : Int} (h : gradeDuty g e ≠ 0) : gradeDirection g e ≠ .none := by
  unfold gradeDuty at h
  unfold gradeDirection
  split at h
  · exact absurd rfl h
  · next beyond =>
    rw [if_neg beyond]
    split <;> decide

theorem ValvesFit.driven (h : ValvesFit r) (g : GainSettings) : ValvesFit (drivenRec g r) := by
  unfold drivenRec
  split
  · next auto => exact ⟨h.jog, fun _ => .inl auto, gradeDirection_of_duty⟩
  · exact h

theorem drivenRec_settled (g : GainSettings) (h : sideSettled run r) : sideSettled run (drivenRec g r) := by
  unfold drivenRec
  split <;> exact h

/-- R110: a jog begun in MANUAL. -/
theorem ValvesFit.jogging {dir : GradeDir} (hm : r.state = .manual) (hd : dir ≠ .none) {n : Nat} (hn : 0 < n) (duty : Int) :
    ValvesFit { r with duty := duty, dir := dir, jogLeft := n, jogMs := 0 } :=
  ⟨fun _ => hm, fun _ => .inr hn.ne', fun _ => hd⟩

/-- R91: a REFERENCING side returns with its valves off. -/
theorem ValvesFit.returned (h : ValvesFit r) (hr : r.state = .referencing) : ValvesFit (returnedRec r) := by
  obtain ⟨duty, left⟩ := h.rests (by simp [hr]) (by simp [hr])
  exact .off duty left

theorem returnedRec_settled : sideSettled run (returnedRec r) := by
  refine sideSettled_of_disengaged ?_
  unfold returnedRec
  cases r.returnManual <;> rfl

/-- A remaining time reaches 0 at its expiry command only. -/
theorem countDown_left (left ms : Nat) : (countDown left ms).1 = 0 ↔ left = 0 := by
  unfold countDown
  repeat' split
  all_goals (dsimp only; omega)

theorem ValvesFit.elapsed (h : ValvesFit r) : ValvesFit (elapseSide r) := by
  obtain ⟨jog, duty, dir⟩ := h
  have left : (elapseSide r).jogLeft = 0 ↔ r.jogLeft = 0 := countDown_left r.jogLeft r.jogMs
  exact ⟨fun h => jog (mt left.mpr h), fun h => (duty h).imp_right (mt left.mp), dir⟩

end

/-! ### A channel's record through each operation -/

section
variable {m : Mode} {r : FeedRec}

/-- A channel with no duty, no jog and no hold time fits in any state. -/
theorem ChannelFits.off (hd : r.duty = 0) (hj : r.jogLeft = 0) (hh : r.hold = 0) : ChannelFits r :=
  ⟨fun h => absurd hj h, fun h => absurd hd h, fun h => absurd hh h⟩

theorem ChannelFits.jogLeft_engaged (h : ChannelFits r) (he : feedEngaged r.state = true) : r.jogLeft = 0 := by
  by_contra hj
  rw [h.jog hj] at he
  cases he

theorem feedSettled_of_disengaged (h : feedEngaged r.state = false) : feedSettled m r := fun he => by
  rw [h] at he
  cases he

/-- R127: a jog that ends takes its duty and leaves a hold time. -/
theorem ChannelFits.jogDone (h : ChannelFits r) (k : FeedEnd) : ChannelFits (jogDone k r) := by
  unfold Machine.jogDone
  split
  · exact h
  · exact ⟨fun hj => absurd rfl hj, fun hd => absurd rfl hd, h.hold⟩

theorem feedSettled.jogDone (h : feedSettled m r) (k : FeedEnd) : feedSettled m (jogDone k r) := by
  unfold feedSettled
  rw [jogDone_state]
  exact h

/-- R124: a channel that becomes OFF fits in any mode. -/
theorem parkedFeed_fits (m : Mode) (k : FeedEnd) (r : FeedRec) : ChannelFits (parkedFeed k r) ∧ feedSettled m (parkedFeed k r) :=
  ⟨.off rfl (jogDone_left k r) rfl, feedSettled_of_disengaged rfl⟩

theorem ChannelFits.elapsed (h : ChannelFits r) : ChannelFits (elapseFeed r) := by
  obtain ⟨jog, duty, hold⟩ := h
  have left : (elapseFeed r).jogLeft = 0 ↔ r.jogLeft = 0 := countDown_left r.jogLeft r.jogMs
  have held : (elapseFeed r).hold = 0 ↔ r.hold = 0 := countDown_left r.hold r.holdMs
  exact ⟨fun h => jog (mt left.mpr h), fun h => (duty h).imp_right (Or.imp_right (mt left.mp)), fun h => hold (mt held.mpr h)⟩

end

/-! ### What one state hands on to the next -/

/-- What the rules of the sides and of the channels read: the mode, the speed, the side records and the channel records. Every other field stands at
its reset value. -/
def driveView (s : State) : State :=
  { State.reset with mode := s.mode, travel := { resetTravel with speed := s.travel.speed }, sides := s.sides, feed := s.feed }

/-- `t` keeps the rules of the sides where `s` does, and the rules of the channels where `s` does. -/
structure DrivesKept (s t : State) : Prop where
  sides : sidesSound s = true → sidesSound t = true
  feeds : feedsSound s = true → feedsSound t = true

theorem DrivesKept.refl (s : State) : DrivesKept s s := ⟨id, id⟩

theorem DrivesKept.trans {s t u : State} (h : DrivesKept s t) (k : DrivesKept t u) : DrivesKept s u :=
  ⟨fun x => k.sides (h.sides x), fun x => k.feeds (h.feeds x)⟩

theorem DrivesKept.of_view {s t : State} (h : driveView t = driveView s) : DrivesKept s t :=
  ⟨(congrArg sidesSound h).trans, (congrArg feedsSound h).trans⟩

/-- What starts from a state with the same drives. -/
theorem DrivesKept.after {s t u : State} (h : DrivesKept t u) (e : driveView t = driveView s) : DrivesKept s u :=
  (DrivesKept.of_view e).trans h

/-- What writes the sides at most owes their rules only. -/
theorem DrivesKept.of_round {s t : State} (h : hideRound t = hideRound s) (k : sidesSound s = true → sidesSound t = true) :
    DrivesKept s t :=
  ⟨k, (congrArg feedsSound h).trans⟩

theorem DrivesKept.of_sides {s t : State} (h : hideSides t = hideSides s) (k : sidesSound s = true → sidesSound t = true) :
    DrivesKept s t :=
  .of_round (hideRound_of_sides h) k

/-- What writes the channels at most owes their rules only. -/
theorem DrivesKept.of_feeds {s t : State} (h : hideFeeds t = hideFeeds s) (k : feedsSound s = true → feedsSound t = true) :
    DrivesKept s t :=
  ⟨(congrArg sidesSound h).trans, k⟩

theorem driveView_of_ports {s t : State} (h : hidePorts t = hidePorts s) : driveView t = driveView s := by
  have e := congrArg driveView h; exact e

theorem driveView_of_events {s t : State} (h : hideEvents t = hideEvents s) : driveView t = driveView s := by
  have e := congrArg driveView h; exact e

theorem driveView_of_heat {s t : State} (h : hideHeat t = hideHeat s) : driveView t = driveView s := by
  have e := congrArg driveView h; exact e

theorem driveView_of_geometry {s t : State} (h : hideGeometry t = hideGeometry s) : driveView t = driveView s := by
  have e := congrArg driveView h; exact e

@[simp] theorem driveView_appendEvent (o : Origin) (e : Event) (s : State) : driveView (appendEvent o e s) = driveView s :=
  driveView_of_events (hideEvents_appendEvent o e s)

/-- One side's record written with one that fits. -/
theorem sidesSound_set {s t : State} {d : Side} {r : SideRec} (h : sidesSound s = true) (e : t.sides = s.sides.set d r)
    (hr : runCondition t = runCondition s) (fits : ValvesFit r) (settled : sideSettled (runCondition s) r) : sidesSound t = true := by
  rw [sidesSound_iff] at h ⊢
  intro y
  rw [e, hr, PerSide.get_set]
  split
  · exact ⟨fits, settled⟩
  · exact h y

/-- One channel's record written with one that fits. -/
theorem feedsSound_set {s t : State} {c : FeedChannel} {r : FeedRec} (h : feedsSound s = true) (e : t.feed = s.feed.set c r)
    (hm : t.mode = s.mode) (fits : ChannelFits r) (settled : feedSettled s.mode r) : feedsSound t = true := by
  rw [feedsSound_iff] at h ⊢
  intro y
  rw [e, hm, PerFeed.get_set]
  split
  · exact ⟨fits, settled⟩
  · exact h y

/-! ### The sides see the mode (R103, R104, R108) -/

theorem settleSide_side (d y : Side) (s : State) :
    (settleSide d s).sides.get y = if y = d then settledRec (runCondition s) (s.sides.get y) else s.sides.get y := by
  rw [(settleSide_turned d s).eq]
  dsimp only
  rw [PerSide.get_set]
  split
  · next e => rw [e]
  · rfl

/-- R104: both sides settled, the left first. -/
theorem settleSides_side (s : State) (d : Side) :
    (settleSide .right (settleSide .left s)).sides.get d = settledRec (runCondition s) (s.sides.get d) := by
  have run : runCondition (settleSide .left s) = runCondition s := runCondition_of_sides (hideSides_settleSide .left s)
  rw [settleSide_side, run, settleSide_side]
  cases d <;> rfl

/-- R103, R104, R108: sides that kept their rules under the old run condition keep them under the one that stands. -/
theorem sidesSeeMode_fits {run : Bool} {s : State} (h : ∀ d, ValvesFit (s.sides.get d) ∧ sideSettled run (s.sides.get d)) (old : Mode)
    (e : Bool) (d : Side) :
    ValvesFit ((sidesSeeMode old run e s).sides.get d) ∧ sideSettled (runCondition s) ((sidesSeeMode old run e s).sides.get d) := by
  obtain ⟨fits, settled⟩ := h d
  unfold sidesSeeMode sidesSeeRun
  split
  · rw [forceSidesOff_eq]
    dsimp only
    rw [parkedSides_get]
    exact ⟨fits.parked _, parkedSide_settled _ _ _⟩
  · split
    · next same => exact ⟨fits, same ▸ settled⟩
    · rw [settleSides_side]
      exact ⟨fits.settled _, settledRec_settled _ _⟩

/-! ### The channels see the mode (R118, R124, R125) -/

/-- R116, R117: a channel in AUTO. -/
theorem runAuto_fits {c : FeedChannel} {s : State} (hm : s.mode = .paving) (hj : (s.feed.get c).jogLeft = 0) :
    ∃ r, (runAuto c s).feed = s.feed.set c r ∧ ChannelFits r ∧ feedSettled s.mode r :=
  ⟨_, rfl, ⟨fun h => absurd hj h, fun _ => .inl rfl, fun h => absurd rfl h⟩, fun _ => iff_of_false nofun (by simp [hm])⟩

/-- R120: a channel in SENSOR_HOLD. -/
theorem enterSensorHold_fits {c : FeedChannel} {s : State} (hm : s.mode = .paving) (hj : (s.feed.get c).jogLeft = 0) (frozen : Int) :
    ∃ r, (enterSensorHold c frozen s).feed = s.feed.set c r ∧ ChannelFits r ∧ feedSettled s.mode r := by
  unfold enterSensorHold
  rw [raiseFlags_feed, appendEvent_eq]
  exact ⟨_, rfl, .off rfl hj rfl, fun _ => iff_of_false nofun (by simp [hm])⟩

/-- R118: a settled channel fits the mode that stands. -/
theorem settleFeed_fits {c : FeedChannel} {s : State} (h : ChannelFits (s.feed.get c)) (hj : (s.feed.get c).jogLeft = 0) :
    ∃ r, (settleFeed c s).feed = s.feed.set c r ∧ ChannelFits r ∧ feedSettled s.mode r := by
  unfold settleFeed
  by_cases hm : s.mode = .paving
  · rw [if_neg (not_not.mpr hm)]
    split
    · split
      · next held => exact ⟨s.feed.get c, (PerFeed.set_get _ _).symm, h, fun _ => iff_of_false (by simp [held]) (by simp [hm])⟩
      · exact enterSensorHold_fits hm hj 0
    · exact runAuto_fits hm hj
  · rw [if_pos hm]
    exact ⟨_, rfl, .off rfl hj rfl, fun _ => iff_of_true rfl hm⟩

theorem mode_of_feeds {s t : State} (h : hideFeeds t = hideFeeds s) : t.mode = s.mode := by
  have e := congrArg State.mode h; exact e

/-- R118: an engaged channel is settled, and every other record stands. -/
theorem settleEngaged_fits {c : FeedChannel} {s : State} (h : ChannelFits (s.feed.get c)) :
    ∃ r, (settleEngaged c s).feed = s.feed.set c r ∧ ChannelFits r ∧ feedSettled s.mode r := by
  unfold settleEngaged
  split
  · next he => exact settleFeed_fits h (h.jogLeft_engaged he)
  · next he => exact ⟨s.feed.get c, (PerFeed.set_get _ _).symm, h, feedSettled_of_disengaged (by simpa using he)⟩

/-- R118: the channels of a list are settled one after another, and those settled before stay so. -/
theorem settleEach_fits (cs : List FeedChannel) {s : State} (h : ∀ c, ChannelFits (s.feed.get c)) (y : FeedChannel)
    (hy : y ∈ cs ∨ feedSettled s.mode (s.feed.get y)) :
    ChannelFits ((cs.foldl (fun acc c => settleEngaged c acc) s).feed.get y)
      ∧ feedSettled s.mode ((cs.foldl (fun acc c => settleEngaged c acc) s).feed.get y) := by
  induction cs generalizing s with
  | nil => exact ⟨h y, hy.resolve_left (by simp)⟩
  | cons c cs ih =>
    obtain ⟨r, feed, fits, settled⟩ := settleEngaged_fits (h c)
    have mode : (settleEngaged c s).mode = s.mode := mode_of_feeds (hideFeeds_settleEngaged c s)
    rw [List.foldl_cons, ← mode]
    refine ih (fun x => ?_) ?_
    · rw [feed, PerFeed.get_set]
      split
      · exact fits
      · exact h x
    · rw [mode, feed, PerFeed.get_set]
      split
      · exact .inr settled
      · next other => exact hy.imp_left fun k => (List.mem_cons.mp k).resolve_left other

theorem settleEngaged_each_fits {s : State} (h : ∀ c, ChannelFits (s.feed.get c)) (c : FeedChannel) :
    ChannelFits ((eachFeed settleEngaged s).feed.get c) ∧ feedSettled s.mode ((eachFeed settleEngaged s).feed.get c) :=
  settleEach_fits allFeed h c (.inl (by cases c <;> decide))

/-- R118, R124, R125: channels that kept their rules in the old mode keep them in the one that stands. -/
theorem feedsSeeMode_fits {old : Mode} {s : State} (h : ∀ c, ChannelFits (s.feed.get c) ∧ feedSettled old (s.feed.get c)) (k : FeedEnd)
    (c : FeedChannel) :
    ChannelFits ((feedsSeeMode old k s).feed.get c) ∧ feedSettled s.mode ((feedsSeeMode old k s).feed.get c) := by
  have jogs : ∃ t : State, (if s.mode = .standby then eachFeed (endFeedJog .standby) s else s) = t ∧ t.mode = s.mode
      ∧ ∀ c, ChannelFits (t.feed.get c) ∧ feedSettled old (t.feed.get c) := by
    split
    · rw [eachFeed_map (fun c v => endFeedJog_eq .standby c { s with feed := v })]
      refine ⟨_, rfl, rfl, fun c => ?_⟩
      obtain ⟨fits, settled⟩ := h c
      dsimp only
      rw [mapFeeds_get]
      exact ⟨fits.jogDone _, settled.jogDone _⟩
    · exact ⟨s, rfl, rfl, h⟩
  obtain ⟨t, e, mode, fits⟩ := jogs
  unfold feedsSeeMode
  dsimp only
  rw [e]
  split
  · next same => exact same ▸ h c
  · split
    · rw [eachFeed_forceFeedOff]
      dsimp only
      rw [mapFeeds_get]
      exact parkedFeed_fits _ _ _
    · split
      · exact mode ▸ settleEngaged_each_fits (fun c => (fits c).1) c
      · next outside =>
        rw [not_or] at outside
        obtain ⟨channel, settled⟩ := fits c
        exact ⟨channel, fun he => (settled he).trans (iff_of_true outside.1 outside.2)⟩

/-! ### Mode changes and readiness evaluations -/

/-- R103, R104, R108, R118, R124: what the blocks make of a mode and a speed that have moved from those of `s`. -/
theorem blocksSee_drives {s u : State} (hs : u.sides = s.sides) (hf : u.feed = s.feed) (e : Bool) :
    DrivesKept s (blocksSee s.mode (runCondition s) e u) := by
  refine ⟨fun h => ?_, fun h => ?_⟩
  · rw [sidesSound_iff] at h ⊢
    rw [runCondition_blocksSee, blocksSee_sides, ← runCondition_heated s.mode u]
    exact sidesSeeMode_fits (by rwa [heated_sides, hs]) s.mode e
  · rw [feedsSound_iff] at h ⊢
    rw [blocksSee_mode, blocksSee_eq, profilerSeesMode_feed, ← sidesSeen_mode s.mode (runCondition s) e u]
    exact feedsSeeMode_fits (by rwa [sidesSeen_feed, hf]) _

theorem settleReadiness_drives (s : State) : DrivesKept s (settleReadiness s) := by
  by_cases hm : s.mode = .starting
  · rw [settleReadiness_starting hm]
    exact .refl s
  · rw [settleReadiness_running hm]
    have feed : (readinessTaken s).feed = s.feed := by rw [readinessTaken_eq]
    exact blocksSee_drives (readinessTaken_sides s) feed false

/-- An evaluation after what leaves the sides and the channels. -/
theorem DrivesKept.evaluated {s t : State} (h : driveView t = driveView s) : DrivesKept s (settleReadiness t) :=
  (settleReadiness_drives t).after h

theorem takeModeChange_drives (m : Mode) (c : ModeCause) (o : Origin) (e : Bool) (s : State) :
    DrivesKept s (takeModeChange m c o e s) := by
  have sides : (modeTaken m c o s).sides = s.sides := by rw [modeTaken_eq]
  have feed : (modeTaken m c o s).feed = s.feed := by rw [modeTaken_eq]
  rw [takeModeChange_eq]
  exact (blocksSee_drives sides feed e).trans (settleReadiness_drives _)

/-- A mode change after what leaves the sides and the channels. -/
theorem DrivesKept.changed {s t : State} (h : driveView t = driveView s) (m : Mode) (c : ModeCause) (o : Origin) (e : Bool) :
    DrivesKept s (takeModeChange m c o e t) :=
  (takeModeChange_drives m c o e t).after h

theorem modeFreed_drives (s : State) : DrivesKept s (modeFreed s) := by
  unfold modeFreed
  dsimp only
  split
  · exact .changed (by rfl) _ _ _ _
  · exact .of_view rfl

theorem goEffect_drives {p : Port} {g : GoTarget} {s t : State} (h : goEffect p g s = some t) : DrivesKept s t := by
  have started : driveView (goStart g s) = driveView s := by
    unfold goStart
    repeat' split
    all_goals rfl
  match hk : goEntry g s.mode with
  | none => rw [goEffect_none p hk] at h; cases h
  | some (some m) =>
    rw [goEffect_entry p hk] at h
    rw [← Option.some.inj h]
    exact .changed started _ _ _ _
  | some none =>
    rcases goEffect_stay p hk with ⟨-, -, e⟩ | ⟨-, -, e⟩ | ⟨-, -, e⟩ | ⟨-, -, e⟩
    all_goals
      rw [e] at h
      rw [← Option.some.inj h]
    · exact .of_view rfl
    · exact .evaluated rfl
    · exact .refl s
    · exact .refl s

/-- R24, R104: the sides see the new speed and the new mode together. -/
theorem endWindow_drives (s : State) : DrivesKept s (endWindow s) := by
  have feed : (windowTaken s).feed = s.feed := by
    unfold windowTaken
    split
    · rw [changeMode_eq]
      rfl
    · rfl
  rw [endWindow_eq]
  exact (blocksSee_drives (windowTaken_sides s) feed false).trans (settleReadiness_drives _)

theorem matchStop_drives (s : State) : DrivesKept s (matchStop s) := by
  by_cases hm : s.mode = .paused
  · rw [matchStop_paused hm, ← hm]
    have sides : (standbyTaken s).sides = s.sides := by rw [standbyTaken_eq]; rfl
    have feed : (standbyTaken s).feed = s.feed := by rw [standbyTaken_eq]; rfl
    exact (blocksSee_drives sides feed false).trans (settleReadiness_drives _)
  · unfold matchStop
    rw [if_pos hm]
    exact .of_view rfl

/-- R16, R108, R124: the e-stop latch in STARTING, in PARKED and in a running mode. -/
theorem assertEstop_drives (s : State) : DrivesKept s (assertEstop s) := by
  have latched : driveView (endWidthJogs .eStop { s with estop := true }) = driveView s := by
    rw [endWidthJogs_eq]
    rfl
  unfold assertEstop
  dsimp only
  split
  · exact .of_view latched
  · refine (DrivesKept.of_view latched).trans ⟨fun h => ?_, fun _ => ?_⟩
    · rw [sidesSound_iff] at h ⊢
      intro d
      rw [eachFeed_forceFeedOff, forceSidesOff_eq]
      dsimp only
      rw [parkedSides_get]
      exact ⟨(h d).1.parked _, parkedSide_settled _ _ _⟩
    · rw [feedsSound_iff]
      intro c
      rw [eachFeed_forceFeedOff]
      dsimp only
      rw [mapFeeds_get]
      exact parkedFeed_fits _ _ _
  · exact .changed (t := { endWidthJogs .eStop { s with estop := true } with pavePending := false }) latched _ _ _ _

/-! ### The levelling controller -/

theorem endGradeJog_drives (d : Side) (k : GradeEnd) (s : State) : DrivesKept s (endGradeJog d k s) := by
  refine .of_sides (hideSides_endGradeJog d k s) fun h => ?_
  obtain ⟨fits, settled⟩ := (sidesSound_iff s).mp h d
  rw [endGradeJog_eq]
  exact sidesSound_set h rfl rfl (fits.jogDone k) (settled.jogDone k)

/-- R110: a grade jog starts on a record whose jog has been replaced. -/
theorem startGradeJog_eq (d : Side) (dir : GradeDir) (n : Nat) (s : State) :
    startGradeJog d dir n s
      = { s with
          sides := s.sides.set d { gradeJogDone .replaced (s.sides.get d) with duty := 1000, dir := dir, jogLeft := n, jogMs := 0 } } := by
  unfold startGradeJog
  dsimp only
  rw [endGradeJog_eq]
  simp [setSide]

theorem startGradeJog_drives {d : Side} {dir : GradeDir} {n : Nat} {s : State} (hm : (s.sides.get d).state = .manual)
    (hd : dir ≠ .none) (hn : 0 < n) : DrivesKept s (startGradeJog d dir n s) := by
  have manual : (gradeJogDone .replaced (s.sides.get d)).state = .manual := (gradeJogDone_state _ _).trans hm
  refine .of_sides (hideSides_startGradeJog d dir n s) fun h => ?_
  rw [startGradeJog_eq]
  refine sidesSound_set h rfl rfl (.jogging manual hd hn 1000) (sideSettled_of_disengaged ?_)
  dsimp only
  rw [manual]
  rfl

/-- R107: the state that a change of operation enters. -/
def operationState (run : Bool) (v : Verdict) : OperationTarget → SideState
  | .off => .off
  | .manual => .manual
  | .auto => settledAs run v

/-- R107: a side after a change of operation. -/
def operatedRec (run : Bool) (target : OperationTarget) (r : SideRec) : SideRec :=
  { gradeJogDone .sideMode r with state := operationState run r.verdict target, duty := 0, dir := .none }

theorem changeSide_eq (d : Side) (target : OperationTarget) (s : State) :
    changeSide d target s
      = enterSideState d (operationState (runCondition s) (s.sides.get d).verdict target) (endGradeJog d .sideMode s) := by
  cases target with
  | off => rfl
  | manual => rfl
  | auto =>
    have run : runCondition (endGradeJog d .sideMode s) = runCondition s := runCondition_of_sides (hideSides_endGradeJog d _ s)
    have verdict : ((endGradeJog d .sideMode s).sides.get d).verdict = (s.sides.get d).verdict := by
      rw [endGradeJog_eq]
      dsimp only
      rw [PerSide.get_set_same, gradeJogDone_verdict]
    rw [changeSide, settledState_eq, run, verdict]
    rfl

theorem changeSide_sides (d : Side) (target : OperationTarget) (s : State) :
    (changeSide d target s).sides = s.sides.set d (operatedRec (runCondition s) target (s.sides.get d)) := by
  rw [changeSide_eq, enterSideState_sides, endGradeJog_eq]
  dsimp only
  rw [PerSide.get_set_same, PerSide.set_set]
  rfl

theorem operatedRec_settled (run : Bool) (target : OperationTarget) (r : SideRec) : sideSettled run (operatedRec run target r) := by
  cases target with
  | off => exact sideSettled_of_disengaged rfl
  | manual => exact sideSettled_of_disengaged rfl
  | auto => exact fun _ => congrArg (settledAs run) (gradeJogDone_verdict .sideMode r).symm

theorem changeSide_drives (d : Side) (target : OperationTarget) (s : State) : DrivesKept s (changeSide d target s) := by
  have hidden := hideSides_changeSide d target s
  exact .of_sides hidden fun h => sidesSound_set h (changeSide_sides d target s) (runCondition_of_sides hidden)
    (.off rfl (gradeJogDone_left _ _)) (operatedRec_settled _ _ _)

/-- R89: a side that awaits a capture has its valves off. -/
theorem referencing_drives {p : Port} {d : Side} {s : State} (hf : referenceFree s d) :
    DrivesKept s { s with sides := s.sides.set d (referencingFor p (s.sides.get d)) } := by
  refine .of_round rfl fun h => ?_
  obtain ⟨-, free⟩ := hf
  obtain ⟨fits, -⟩ := (sidesSound_iff s).mp h d
  have rests : (s.sides.get d).duty = 0 ∧ (s.sides.get d).jogLeft = 0 := by
    rcases free with off | ⟨manual, left⟩
    · exact fits.rests (by simp [off]) (by simp [off])
    · refine ⟨?_, left⟩
      by_contra driven
      exact (fits.duty driven).elim (by simp [manual]) (absurd left)
  exact sidesSound_set h rfl rfl (.off rests.1 rests.2) (sideSettled_of_disengaged rfl)

/-- R91: a capture returns its side, or nothing happens. -/
theorem completeCapture_drives (d : Side) (s : State) : DrivesKept s (completeCapture d s) := by
  refine .of_round (hideRound_completeCapture d s) fun h => ?_
  by_cases hc : (s.sides.get d).state = .referencing ∧ (s.sides.get d).captureArmed = true
  · obtain ⟨referencing, armed⟩ := hc
    rw [completeCapture_due referencing armed]
    exact sidesSound_set h rfl rfl (((sidesSound_iff s).mp h d).1.returned referencing) returnedRec_settled
  · rwa [show completeCapture d s = s from if_neg hc]

/-- R96, R101 to R103: the evaluation settles both sides and drives those in AUTO. -/
theorem evaluateSides_drives (c : State) : DrivesKept c (evaluateSides c) := by
  refine .of_sides (hideSides_evaluateSides c) fun h => ?_
  rw [sidesSound_iff] at h ⊢
  intro d
  have run : runCondition (evaluateSides c) = runCondition (counted c) := runCondition_of_sides (hideSides_evaluateSides c)
  have measured : ValvesFit (measuredRec (counted c) d) := by
    obtain ⟨⟨jog, duty, dir⟩, -⟩ := h d
    rw [measuredRec, counted_side]
    exact ⟨jog, duty, dir⟩
  rw [run, evaluateSides_side, evaluatedRec]
  exact ⟨(measured.settled _).driven _, drivenRec_settled _ (settledRec_settled _ _)⟩

theorem endRound_drives (fresh polled : Bool) (s : State) : DrivesKept s (endRound fresh polled s) := by
  have watched : driveView (watchLink fresh polled s) = driveView s := by
    rw [watchLink_eq]
    rfl
  rw [endRound_eq]
  exact ((completeCapture_drives .left _).after watched).trans ((completeCapture_drives .right _).trans (evaluateSides_drives _))

theorem pollNext_drives (slots : List Slot) (fresh polled : Bool) (s : State) : DrivesKept s (pollNext slots fresh polled s) := by
  unfold pollNext
  split
  · exact .of_view rfl
  · exact endRound_drives fresh polled s

theorem armCapture_drives (d : Side) (s : State) : DrivesKept s (armCapture d s) := by
  refine .of_round rfl fun h => ?_
  obtain ⟨⟨jog, duty, dir⟩, settled⟩ := (sidesSound_iff s).mp h d
  exact sidesSound_set h rfl rfl ⟨jog, duty, dir⟩ settled

theorem startRound_drives (s : State) : DrivesKept s (startRound s) := by
  unfold startRound
  dsimp only
  split
  · exact .refl s
  · have armed : DrivesKept s (armCapture .right (armCapture .left (markUnused s))) :=
      ((armCapture_drives .left _).trans (armCapture_drives .right _)).after rfl
    exact armed.trans ((pollNext_drives _ _ _ _).after rfl)

theorem completePoll_drives (reply : Option FreshReply) (s : State) : DrivesKept s (completePoll reply s) := by
  have judged (x : Slot) : driveView (judgeSlot x reply s) = driveView s := by cases x <;> rfl
  unfold completePoll
  dsimp only
  split
  · exact .refl s
  · refine (pollNext_drives _ _ _ _).after ?_
    split
    · exact judged _
    · rfl

theorem takePollReply_drives (a b : Byte) (n : Half) (s : State) : DrivesKept s (takePollReply a b n s) := by
  unfold takePollReply
  repeat' split
  all_goals first | exact .refl s | exact completePoll_drives _ s

/-! ### The feed controller -/

theorem endFeedJog_drives (k : FeedEnd) (c : FeedChannel) (s : State) : DrivesKept s (endFeedJog k c s) := by
  refine .of_feeds (hideFeeds_endFeedJog k c s) fun h => ?_
  obtain ⟨fits, settled⟩ := (feedsSound_iff s).mp h c
  rw [endFeedJog_eq]
  exact feedsSound_set h rfl rfl (fits.jogDone k) (settled.jogDone k)

/-- R126: a feed jog starts on a record whose jog has been replaced. -/
theorem startFeedJog_eq (c : FeedChannel) (n : Nat) (s : State) :
    startFeedJog c n s
      = { s with
          feed := s.feed.set c
            { jogDone .replaced (s.feed.get c) with
              duty := (s.settings.feed.get c).manualDuty, jogDuty := (s.settings.feed.get c).manualDuty, jogLeft := n, jogMs := 0 } } := by
  unfold startFeedJog
  dsimp only
  rw [endFeedJog_eq]
  simp [setFeed]

theorem startFeedJog_drives {c : FeedChannel} {n : Nat} {s : State} (hm : (s.feed.get c).state = .manual) (hn : 0 < n) :
    DrivesKept s (startFeedJog c n s) := by
  have manual : (jogDone .replaced (s.feed.get c)).state = .manual := (jogDone_state _ _).trans hm
  refine .of_feeds (hideFeeds_startFeedJog c n s) fun h => ?_
  have ended := ((feedsSound_iff s).mp h c).1.jogDone .replaced
  rw [startFeedJog_eq]
  refine feedsSound_set h rfl rfl ⟨fun _ => manual, fun _ => .inr (.inr hn.ne'), ended.hold⟩ (feedSettled_of_disengaged ?_)
  dsimp only
  rw [manual]
  rfl

/-- R123: a change of operation. -/
theorem changeFeed_drives (c : FeedChannel) (target : OperationTarget) (s : State) : DrivesKept s (changeFeed c target s) := by
  have hidden := hideFeeds_changeFeed c target s
  refine .of_feeds hidden fun h => ?_
  have mode : (changeFeed c target s).mode = s.mode := mode_of_feeds hidden
  have fits := ((feedsSound_iff s).mp h c).1.jogDone .feedMode
  have left := jogDone_left .feedMode (s.feed.get c)
  have ended : (endFeedJog .feedMode c s).feed = s.feed.set c (jogDone .feedMode (s.feed.get c)) := by rw [endFeedJog_eq]
  have record : (endFeedJog .feedMode c s).feed.get c = jogDone .feedMode (s.feed.get c) := by rw [ended, PerFeed.get_set_same]
  have written {r : FeedRec} (e : (changeFeed c target s).feed = (endFeedJog .feedMode c s).feed.set c r) (channel : ChannelFits r)
      (settled : feedSettled s.mode r) : feedsSound (changeFeed c target s) = true :=
    feedsSound_set h (e.trans (by rw [ended, PerFeed.set_set])) mode channel settled
  cases target with
  | off => exact written rfl (.off rfl (by dsimp only; rw [record, left]) rfl) (feedSettled_of_disengaged rfl)
  | manual => exact written rfl (.off rfl (by dsimp only; rw [record, left]) rfl) (feedSettled_of_disengaged rfl)
  | auto =>
    have before : (endFeedJog .feedMode c s).mode = s.mode := mode_of_feeds (hideFeeds_endFeedJog _ c s)
    obtain ⟨r, e, channel, settled⟩ := settleFeed_fits (c := c) (s := endFeedJog .feedMode c s) (by rwa [record]) (by rw [record, left])
    exact written e channel (before ▸ settled)

/-- A channel that runs or holds does so in PAVING, without a jog. -/
theorem engaged_paving {s : State} {c : FeedChannel} (h : feedsSound s = true) (he : feedEngaged (s.feed.get c).state = true)
    (hs : (s.feed.get c).state ≠ .suspended) : s.mode = .paving ∧ (s.feed.get c).jogLeft = 0 := by
  obtain ⟨fits, settled⟩ := (feedsSound_iff s).mp h c
  exact ⟨not_not.mp fun hm => hs ((settled he).mpr hm), fits.jogLeft_engaged he⟩

/-- R119: the hold time of a HOLD_LAST channel reaches 0. -/
theorem expireHold_drives {c : FeedChannel} {s : State} (hl : (s.feed.get c).state = .holdLast) : DrivesKept s (expireHold c s) := by
  have hidden := hideFeeds_expireHold c s
  refine .of_feeds hidden fun h => ?_
  obtain ⟨paving, left⟩ := engaged_paving h (by rw [hl]; rfl) (by simp [hl])
  obtain ⟨r, e, fits, settled⟩ := enterSensorHold_fits paving left (s.feed.get c).duty
  exact feedsSound_set h e (mode_of_feeds hidden) fits settled

/-- A channel whose error alone is written. -/
theorem errorWritten_drives (c : FeedChannel) (error : Int) (s : State) :
    DrivesKept s (setFeed c { s.feed.get c with error := error } s) := by
  refine .of_feeds rfl fun h => ?_
  obtain ⟨⟨jog, duty, hold⟩, settled⟩ := (feedsSound_iff s).mp h c
  exact feedsSound_set h rfl rfl ⟨jog, duty, hold⟩ settled

/-- R116: a channel that already runs or holds takes AUTO. -/
theorem runAuto_drives {c : FeedChannel} {s : State} (he : feedEngaged (s.feed.get c).state = true)
    (hs : (s.feed.get c).state ≠ .suspended) : DrivesKept s (runAuto c s) := by
  refine .of_feeds rfl fun h => ?_
  obtain ⟨paving, left⟩ := engaged_paving h he hs
  obtain ⟨r, e, fits, settled⟩ := runAuto_fits paving left
  exact feedsSound_set h e rfl fits settled

theorem enterHoldLast_drives {c : FeedChannel} {s : State} (ha : (s.feed.get c).state = .auto) : DrivesKept s (enterHoldLast c s) := by
  refine .of_feeds rfl fun h => ?_
  obtain ⟨paving, left⟩ := engaged_paving h (by rw [ha]; rfl) (by simp [ha])
  exact feedsSound_set h rfl rfl ⟨fun hj => absurd left hj, fun _ => .inr (.inl rfl), fun _ => rfl⟩
    (fun _ => iff_of_false nofun (by simp [paving]))

/-- R114, R119, R120: a conversion of the level channel. -/
theorem feedConversion_drives (c : FeedChannel) (s : State) : DrivesKept s (feedConversion c s) := by
  have judged := errorWritten_drives c (levelError s c) s
  have runs {st : FeedState} (hst : (s.feed.get c).state = st) (he : feedEngaged st = true) (hs : st ≠ .suspended) :
      DrivesKept s (runAuto c (setFeed c { s.feed.get c with error := levelError s c } s)) := by
    have state : ((setFeed c { s.feed.get c with error := levelError s c } s).feed.get c).state = st := by simp [hst]
    exact judged.trans (runAuto_drives (by rw [state, he]) (by rwa [state]))
  unfold feedConversion
  split
  · split
    · next auto => exact enterHoldLast_drives auto
    · exact .refl s
  · dsimp only
    split
    · next auto => exact runs auto rfl (by decide)
    · next last => exact runs last rfl (by decide)
    · next held =>
      unfold resumeFeed
      exact (runs held rfl (by decide)).trans (.of_view (driveView_appendEvent _ _ _))
    all_goals exact judged

/-- R115: a level setpoint is written. -/
theorem writeLevelSetpoint_drives (c : FeedChannel) (v : Int) (s : State) : DrivesKept s (writeLevelSetpoint c v s) := by
  have stored (f : Settings) (error : Int) : DrivesKept s (setFeed c { s.feed.get c with error := error } (setSettings f s)) :=
    (errorWritten_drives c error (setSettings f s)).after rfl
  unfold writeLevelSetpoint
  dsimp only
  split
  · next auto => exact (stored _ _).trans (runAuto_drives (by simp [auto, feedEngaged]) (by simp [auto]))
  · exact stored _ _

end Sys2Proof.Machine
end

section
/-! PROOFS. The walk over the commands for the rules of the sides and of the channels: each service, line, pin and timed event keeps both
(`DrivesKept`), and so does every step. O10. -/

namespace Sys2Proof.Machine

open Sys2Proof

/-! ### The travel unit and the profiler leave the drives -/

theorem driveView_highWaterRose (s : State) : driveView (highWaterRose s) = driveView s := by
  unfold highWaterRose closeInterval appendProfile noteMatLoss
  repeat' split
  all_goals first | rfl | exact (driveView_appendEvent _ _ _).trans rfl

/-- R21, R22: a station that moves leaves the speed. -/
theorem driveView_moveStation (s : State) : driveView (moveStation s) = driveView s := by
  unfold moveStation
  dsimp only
  split
  · exact (driveView_highWaterRose _).trans rfl
  · rfl

theorem driveView_takeScanLine (n : Half) (px : List Half) (s : State) : driveView (takeScanLine n px s) = driveView s := by
  unfold takeScanLine accumulate
  repeat' split
  all_goals rfl

/-! ### Writes (R171) -/

theorem driveView_writeExclude (z : Zone) (v : Bool) (s : State) : driveView (writeExclude z v s) = driveView s := by
  unfold writeExclude excludeZone
  dsimp only
  repeat' split
  · rfl
  · rfl
  · exact (driveView_of_heat ((hideHeat_setZone _ _ _).trans (hideHeat_leaveTo _ _ _))).trans rfl
  · exact (driveView_of_heat (hideHeat_enterHeating z _)).trans rfl
  · rfl

theorem applySetting_drives (x : Setting) (v : Int) (s : State) : DrivesKept s (applySetting x v s) := by
  have stored {x : Setting} : driveView (storeOnly x v s) = driveView s := rfl
  cases x with
  | readinessBand | extThreshold | screed _ => exact .evaluated stored
  | zoneSetpoint z k =>
    simp only [applySetting, writeZoneSetpoint]
    split
    · exact .refl s
    · exact .evaluated ((driveView_of_heat (hideHeat_reselect _ _)).trans stored)
  | exclude z =>
    simp only [applySetting, writeExcludeFlag]
    split
    · exact .refl s
    · exact .evaluated (driveView_writeExclude z _ s)
  | slotParam k p =>
    simp only [applySetting, writeSlotParam]
    split
    · exact .refl s
    · cases k <;> exact .of_view rfl
  | levelSetpoint c => exact writeLevelSetpoint_drives c v s
  | pulsesPerMetre => exact .of_view ((driveView_moveStation _).trans stored)
  | standbyCode =>
    simp only [applySetting, writeStandbyCode]
    split <;> exact .of_view rfl
  | matCapacity =>
    simp only [applySetting, changeBoundary]
    split
    · exact .refl s
    · exact .of_view ((driveView_appendEvent _ _ _).trans rfl)
  | input i p =>
    cases p with
    | debounce => exact .of_view stored
    | mode =>
      cases i with
      | feedback z => exact .evaluated ((driveView_of_heat (hideHeat_feedbackChange z _)).trans stored)
      | travelPulse | travelDir | estop => exact .of_view stored
  | _ => exact .of_view rfl

theorem serveWrite_drives (p : Port) (x : Setting) (v : Word) (s : State) : DrivesKept s (serveWrite p x v s).1 := by
  unfold serveWrite serveSetpoint serveConfiguration
  repeat' split
  all_goals first | exact .refl s | exact applySetting_drives x _ s

theorem serveSlotWrite_drives (p : Port) (slot : Slot) (param : SlotParam) (v : Word) (s : State) :
    DrivesKept s (serveSlotWrite p slot param v s).1 := by
  unfold serveSlotWrite
  split
  · exact .refl s
  · exact serveWrite_drives p _ v s

theorem serveSetItem_drives (p : Port) (group : Byte) (index : Half) (v : Word) (s : State) :
    DrivesKept s (serveSetItem p group index v s).1 := by
  unfold serveSetItem
  repeat' split
  all_goals first | exact .refl s | exact serveWrite_drives p _ v s

/-! ### Authority (R166 to R169) -/

/-- R167, R168, R169: a function changes hands, and the jogs that run under it end. -/
theorem handedOver_drives (f : Function) (holder : Option Port) (s : State) :
    DrivesKept s (endJogsUnder f (setHolder f holder s)) := by
  refine DrivesKept.trans (t := setHolder f holder s) (.of_view rfl) ?_
  generalize setHolder f holder s = t
  cases f with
  | grade d => exact endGradeJog_drives d .authority t
  | feed d => cases d <;> exact (endFeedJog_drives .authority _ t).trans (endFeedJog_drives .authority _ _)
  | width d => exact .of_view (driveView_of_geometry (hideGeometry_endWidthJog .authority d t))
  | mode | heat | records => exact .refl t

theorem serveTake_drives (p : Port) (function override : Byte) (s : State) : DrivesKept s (serveTake p function override s).1 := by
  unfold serveTake takeOver
  repeat' split
  all_goals
    first
    | exact .refl s
    | exact .of_view rfl
    | exact (handedOver_drives _ _ s).trans (.of_view (driveView_appendEvent _ _ _))

theorem serveRelease_drives (p : Port) (function : Byte) (s : State) : DrivesKept s (serveRelease p function s).1 := by
  unfold serveRelease
  split
  · exact .refl s
  · next f _ =>
    split
    · exact .refl s
    · dsimp only [done]
      split
      · exact (handedOver_drives f none s).trans (modeFreed_drives _)
      · exact handedOver_drives f none s

theorem loseFunction_drives (p : Port) (s : State) (f : Function) : DrivesKept s (loseFunction p s f) := by
  unfold loseFunction
  split
  · exact (handedOver_drives f none s).trans (.of_view (driveView_appendEvent _ _ _))
  · exact .refl s

theorem loseEach_drives (p : Port) (fs : List Function) (s : State) : DrivesKept s (fs.foldl (loseFunction p) s) := by
  induction fs generalizing s with
  | nil => exact .refl s
  | cons f fs ih => exact (loseFunction_drives p s f).trans (ih _)

theorem linkSilent_drives (p : Port) (s : State) : DrivesKept s (linkSilent p s) := by
  have lost : DrivesKept s (allFunctions.foldl (loseFunction p) (setPort p { s.ports.get p with up := false } s)) :=
    (loseEach_drives p allFunctions _).after rfl
  unfold linkSilent loseAll
  dsimp only
  split
  · exact lost.trans (modeFreed_drives _)
  · exact lost

/-! ### Requests -/

theorem serveSideMode_drives (p : Port) (side target : Byte) (s : State) : DrivesKept s (serveSideMode p side target s).1 := by
  unfold serveSideMode
  dsimp only
  repeat' split
  all_goals first | exact .refl s | exact changeSide_drives _ _ s

theorem serveSetReference_drives (p : Port) (side : Byte) (s : State) : DrivesKept s (serveSetReference p side s).1 := by
  unfold serveSetReference
  split
  · exact .refl s
  · next d _ =>
    dsimp only
    split
    · exact .refl s
    · split
      · exact .refl s
      · next free => exact referencing_drives ((referenceFree_iff s d).mpr free)

theorem gradeDirOfByte_ne_none {b : Byte} {dir : GradeDir} (h : gradeDirOfByte b = some dir) : dir ≠ .none := by
  rintro rfl
  unfold gradeDirOfByte at h
  repeat' split at h
  all_goals cases h

theorem serveJogGrade_drives (p : Port) (d : Side) (direction duration : Byte) (s : State) :
    DrivesKept s (serveJogGrade p d direction duration s).1 := by
  unfold serveJogGrade
  split
  · exact .refl s
  · split
    · exact .refl s
    · next dir named =>
      split
      · exact .refl s
      · next manual => exact startGradeJog_drives (not_not.mp manual) (gradeDirOfByte_ne_none named) (jogDuration_pos 20 duration)

theorem serveJogFeed_drives (p : Port) (c : FeedChannel) (duration : Byte) (s : State) :
    DrivesKept s (serveJogFeed p c duration s).1 := by
  unfold serveJogFeed
  split
  · exact .refl s
  · split
    · exact .refl s
    · next free => exact startFeedJog_drives (not_not.mp fun k => free (.inl k)) (jogDuration_pos 50 duration)

theorem serveJogWidth_drives (p : Port) (d : Side) (direction duration : Byte) (s : State) :
    DrivesKept s (serveJogWidth p d direction duration s).1 := by
  unfold serveJogWidth
  repeat' split
  all_goals first | exact .refl s | exact .of_view (driveView_of_geometry (hideGeometry_startWidthJog _ _ _ s))

theorem serveJog_drives (p : Port) (target direction duration : Byte) (s : State) :
    DrivesKept s (serveJog p target direction duration s).1 := by
  unfold serveJog
  split
  · exact serveJogGrade_drives p .left direction duration s
  · exact serveJogGrade_drives p .right direction duration s
  · exact serveJogFeed_drives p .convL duration s
  · exact serveJogFeed_drives p .convR duration s
  · exact serveJogFeed_drives p .augL duration s
  · exact serveJogFeed_drives p .augR duration s
  · exact serveJogWidth_drives p .left direction duration s
  · exact serveJogWidth_drives p .right direction duration s
  · exact .refl s

theorem serveFeedMode_drives (p : Port) (channel target : Byte) (s : State) : DrivesKept s (serveFeedMode p channel target s).1 := by
  unfold serveFeedMode
  dsimp only
  repeat' split
  all_goals first | exact .refl s | exact changeFeed_drives _ _ s

theorem serveGo_drives (p : Port) (target : Byte) (s : State) : DrivesKept s (serveGo p target s).1 := by
  unfold serveGo
  repeat' split
  all_goals first | exact .refl s | exact goEffect_drives (by assumption)

theorem serveClearFault_drives (p : Port) (zone : Byte) (s : State) : DrivesKept s (serveClearFault p zone s).1 := by
  unfold serveClearFault
  repeat' split
  all_goals first | exact .refl s | exact .evaluated (driveView_of_heat (hideHeat_clearLatch _ p s))

theorem serveClearHealth_drives (p : Port) (zone : Byte) (s : State) : DrivesKept s (serveClearHealth p zone s).1 := by
  unfold serveClearHealth
  repeat' split
  all_goals first | exact .refl s | exact .of_view (driveView_of_heat (hideHeat_clearHealthOf _ p s))

theorem serveMark_drives (p : Port) (code : Byte) (s : State) : DrivesKept s (serveMark p code s).1 := by
  unfold serveMark
  repeat' split
  all_goals exact .of_view rfl

theorem serveRoadJob_drives (p : Port) (road : List Byte) (lane layer : Byte) (start : Word) (s : State) :
    DrivesKept s (serveRoadJob p road lane layer start s).1 := by
  unfold serveRoadJob serveWriteJob
  repeat' split
  all_goals first | exact .refl s | exact .of_view ((driveView_appendEvent _ _ _).trans rfl)

theorem serveAckRecords_drives (p : Port) (area : Byte) (sequence : Word) (s : State) :
    DrivesKept s (serveAckRecords p area sequence s).1 := by
  unfold serveAckRecords
  repeat' split
  all_goals exact .of_view rfl

theorem serveSetClock_drives (p : Port) (day : Half) (hour minute second : Byte) (s : State) :
    DrivesKept s (serveSetClock p day hour minute second s).1 := by
  unfold serveSetClock
  split
  · exact .refl s
  · exact .of_view ((driveView_appendEvent _ _ _).trans rfl)

theorem serveStoreSettings_drives (p : Port) (s : State) : DrivesKept s (serveStoreSettings p s).1 := by
  unfold serveStoreSettings
  repeat' split
  all_goals exact .of_view rfl

/-- A request that is served with the state as it stood. -/
theorem DrivesKept.of_eq {s t : State} (h : t = s) : DrivesKept s t := h ▸ .refl s

theorem serveRequest_drives (p : Port) (q : Request) (s : State) : DrivesKept s (serveRequest p q s).1 := by
  cases q with
  | status => exact .refl s
  | readItem g f n => exact .of_eq (serveReadItem_state g f n s)
  | setItem g i v => exact serveSetItem_drives p g i v s
  | take f o => exact serveTake_drives p f o s
  | release f => exact serveRelease_drives p f s
  | go g => exact serveGo_drives p g s
  | sideMode d g => exact serveSideMode_drives p d g s
  | setReference d => exact serveSetReference_drives p d s
  | jog g d n => exact serveJog_drives p g d n s
  | feedMode c g => exact serveFeedMode_drives p c g s
  | clearFault z => exact serveClearFault_drives p z s
  | clearHealth z => exact serveClearHealth_drives p z s
  | mark c => exact serveMark_drives p c s
  | writeJob r l y n => exact serveRoadJob_drives p r l y n s
  | readRecords a n c => exact .of_eq (serveReadRecords_state a n c s)
  | ackRecords a n => exact serveAckRecords_drives p a n s
  | setClock a b c d => exact serveSetClock_drives p a b c d s
  | storeSettings => exact serveStoreSettings_drives p s

/-! ### Lines -/

/-- A frame taken by a port keeps what its service keeps. -/
theorem takeFrame_drives {p : Port} {kind tag : Byte} {serve : State → Served} (hs : ∀ s, DrivesKept s (serve s).1) (s : State) :
    DrivesKept s (takeFrame p kind tag serve s) := by
  rcases hidePorts_takeFrame p kind tag serve s with e | e
  · exact .of_view (driveView_of_ports e)
  · have opened : DrivesKept s (openRequest p kind tag (hearFrame p s)) := .of_view rfl
    exact (opened.trans (hs _)).trans (.of_view (driveView_of_ports e))

theorem takeRawFrame_drives (p : Port) (kind tag : Byte) (payload : List Byte) (s : State) :
    DrivesKept s (takeRawFrame p kind tag payload s) := by
  refine takeFrame_drives (fun s => ?_) s
  unfold serveFrame
  split
  · exact .refl s
  · exact serveRequest_drives p _ s

theorem takeFrameBytes_drives (p : Port) (body : List Byte) (s : State) : DrivesKept s (takeFrameBytes p body s) := by
  unfold takeFrameBytes
  split
  · exact takeRawFrame_drives p _ _ _ s
  · exact .refl s

/-- R161: the receiver of a port, whatever frames its bytes make. -/
theorem receive_drives (p : Port) (n : Nat) (bytes : List Byte) (s : State) : DrivesKept s (receive p n bytes s) := by
  induction n generalizing bytes s with
  | zero => exact .refl s
  | succ n ih =>
    cases bytes with
    | nil => exact .refl s
    | cons b rest =>
      unfold receive
      dsimp only
      repeat' split
      all_goals
        first
        | exact .of_view rfl
        | exact (takeFrameBytes_drives p _ s).trans (ih _ _)
        | exact (ih _ _).after rfl

theorem receiveBytes_drives (p : Port) (bytes : List Byte) (s : State) : DrivesKept s (receiveBytes p bytes s) := by
  unfold receiveBytes
  dsimp only
  repeat' split
  all_goals first | exact .refl s | exact (receive_drives p _ _ _).after rfl

theorem takeSensorFrame_drives (kind : Byte) (body : List Byte) (s : State) : DrivesKept s (takeSensorFrame kind body s) := by
  unfold takeSensorFrame
  repeat' split
  all_goals first | exact .refl s | exact .of_view (driveView_takeScanLine _ _ s) | exact takePollReply_drives _ _ _ s

/-- R185: the receiver of the sensor line. -/
theorem receiveSensor_drives (n : Nat) (bytes : List Byte) (s : State) : DrivesKept s (receiveSensor n bytes s) := by
  induction n generalizing bytes s with
  | zero => exact .refl s
  | succ n ih =>
    cases bytes with
    | nil => exact .refl s
    | cons b rest =>
      unfold receiveSensor
      repeat' split
      all_goals first | exact .of_view rfl | exact ih _ s | exact (takeSensorFrame_drives _ _ s).trans (ih _ _)

theorem receiveSensorBytes_drives (bytes : List Byte) (s : State) : DrivesKept s (receiveSensorBytes bytes s) := by
  unfold receiveSensorBytes
  repeat' split
  all_goals first | exact .refl s | exact (receiveSensor_drives _ _ _).after rfl

/-! ### Events -/

/-- A timed command keeps what its act keeps at its moment. -/
theorem atMoment_drives {b : Bool} {act : State → State} {s : State} (h : b = true → DrivesKept s (act s)) :
    DrivesKept s (atMoment b act s) := by
  cases b
  · exact .refl s
  · exact h rfl

theorem endStoreWrite_drives (a b : Bool) (s : State) : DrivesKept s (endStoreWrite a b s) := by
  unfold endStoreWrite
  split
  · exact .refl s
  · split
    · exact .of_view ((driveView_of_ports (hidePorts_answerPort _ _ _)).trans rfl)
    · exact .of_view ((driveView_appendEvent _ _ _).trans ((driveView_of_ports (hidePorts_answerPort _ _ _)).trans rfl))

theorem convert_drives (a : AnalogChannel) (raw : BitVec 12) (s : State) : DrivesKept s (convert a raw s) := by
  cases a with
  | temp z => exact .evaluated ((driveView_of_heat (hideHeat_zoneConversion z _)).trans rfl)
  | ext d => exact .evaluated ((driveView_of_geometry (hideGeometry_extConversion d _)).trans rfl)
  | level c => exact (feedConversion_drives c _).after rfl

theorem consumeLevel_drives (i : DigitalInput) (level : Bool) (s : State) : DrivesKept s (consumeLevel i level s) := by
  cases i with
  | travelPulse =>
    simp only [consumeLevel]
    split
    · exact .of_view ((driveView_moveStation _).trans rfl)
    · exact .refl s
  | travelDir => exact .refl s
  | estop =>
    simp only [consumeLevel]
    split
    · exact assertEstop_drives s
    · exact .of_view rfl
  | feedback z => exact .evaluated (driveView_of_heat (hideHeat_feedbackChange z s))

theorem takeLevel_drives (i : DigitalInput) (s : State) : DrivesKept s (takeLevel i s) := by
  unfold takeLevel
  dsimp only
  split
  · exact .of_view rfl
  · exact (consumeLevel_drives i _ _).after rfl

theorem changePin_drives (i : DigitalInput) (level : Bool) (s : State) : DrivesKept s (changePin i level s) := by
  unfold changePin
  dsimp only
  repeat' split
  · exact .refl s
  · exact (takeLevel_drives i _).after rfl
  · exact .of_view rfl

theorem driveView_noteOutcome (image : Option SettingsImage) (s : State) : driveView (noteOutcome image s) = driveView s := by
  cases image with
  | none => exact (driveView_appendEvent _ _ _).trans rfl
  | some i => rfl

/-- R6: PARKED, seen by every block, and the first round. -/
theorem startUp_drives {j : State} (hm : j.mode = .starting) :
    DrivesKept j (startRound (blocksSee .starting (runCondition j) false (changeMode .parked .start .modeController j))) := by
  have parked := blocksSee_drives (s := j) (u := changeMode .parked .start .modeController j) (by rw [changeMode_eq])
    (by rw [changeMode_eq]) false
  rw [hm] at parked
  exact parked.trans (startRound_drives _)

/-- R5, R6: the machine once the load's outcome is noted, its job numbered and its readiness judged. -/
def loadJudged (b : Bool) (s : State) : State :=
  evaluateReadiness (numberJob (lastJobOf (loadedImage b s.store.array)) (noteOutcome (loadedImage b s.store.array) s))

theorem completeLoad_starting {s : State} (hm : s.mode = .starting) (b : Bool) :
    completeLoad b s = startRound (blocksSee .starting (runCondition (loadJudged b s)) false
      (changeMode .parked .start .modeController (loadJudged b s))) := if_pos hm

theorem driveView_loadJudged (b : Bool) (s : State) : driveView (loadJudged b s) = driveView s :=
  ((driveView_appendEvent _ _ _).trans rfl).trans (driveView_noteOutcome (loadedImage b s.store.array) s)

theorem completeLoad_drives (b : Bool) (s : State) : DrivesKept s (completeLoad b s) := by
  by_cases hm : s.mode = .starting
  · have view := driveView_loadJudged b s
    have mode : (loadJudged b s).mode = s.mode := by have e := congrArg State.mode view; exact e
    rw [completeLoad_starting hm]
    exact (startUp_drives (mode.trans hm)).after view
  · exact .of_eq (if_neg hm)

theorem resetFrom_drives (s : State) : DrivesKept s (resetFrom s) := ⟨fun _ => rfl, fun _ => rfl⟩

theorem elapse_drives (s : State) : DrivesKept s (elapse s) := by
  refine ⟨fun h => ?_, fun h => ?_⟩
  · rw [sidesSound_iff] at h ⊢
    intro d
    obtain ⟨fits, settled⟩ := h d
    have record : (elapse s).sides.get d = elapseSide (s.sides.get d) := by cases d <;> rfl
    rw [record]
    exact ⟨fits.elapsed, settled⟩
  · rw [feedsSound_iff] at h ⊢
    intro c
    obtain ⟨fits, settled⟩ := h c
    have record : (elapse s).feed.get c = elapseFeed (s.feed.get c) := by cases c <;> rfl
    rw [record]
    exact ⟨fits.elapsed, settled⟩

/-! ### Every command, every step -/

theorem exec_drives {c : Instr} {s t : State} (e : exec c s = .next t) : DrivesKept s t := by
  have request {p k tag} {serve : State → Served} (hs : ∀ s, DrivesKept s (serve s).1) (e : takeRequest p k tag serve s = t) :
      DrivesKept s t :=
    e ▸ takeFrame_drives hs s
  have write {p tag x v} (e : takeRequest p .setItem tag (serveWrite p x v) s = t) : DrivesKept s t :=
    request (serveWrite_drives p x v) e
  have timed {b : Bool} {act : State → State} (e : atMoment b act s = t) (h : DrivesKept s (act s)) : DrivesKept s t :=
    e ▸ atMoment_drives fun _ => h
  have viewed {u : State} (e : u = t) (h : driveView u = driveView s) : DrivesKept s t := e ▸ .of_view h
  cases c <;> (injection e with e)
  case reset => exact e ▸ resetFrom_drives s
  case settingsLoadComplete b => exact e ▸ completeLoad_drives b s
  case frameError p bytes => exact e ▸ receiveBytes_drives p bytes s
  case frameGapExpiry p => exact timed e (.of_view rfl)
  case linkDown p => exact timed e (linkSilent_drives p s)
  case busy p kind tag payload => exact e ▸ takeRawFrame_drives p kind tag payload s
  case unknownRequest p kind tag payload => exact e ▸ takeRawFrame_drives p kind tag payload s
  case replySent p => exact viewed e rfl
  case status p tag => exact request (fun s => .refl s) e
  case readItem p tag g f n => exact request (fun s => .of_eq (serveReadItem_state g f n s)) e
  case setItem p tag g i v => exact request (serveSetItem_drives p g i v) e
  case setSlotAddressWeight p tag x a v => exact request (serveSlotWrite_drives p x a v) e
  case take p tag f o => exact request (serveTake_drives p f o) e
  case release p tag f => exact request (serveRelease_drives p f) e
  case go p tag g => exact request (serveGo_drives p g) e
  case sideMode p tag d g => exact request (serveSideMode_drives p d g) e
  case setReference p tag d => exact request (serveSetReference_drives p d) e
  case jogGrade p tag d a n => exact request (serveJogGrade_drives p d a n) e
  case jogFeed p tag c a n => exact request (serveJogFeed_drives p c n) e
  case jogWidth p tag d a n => exact request (serveJogWidth_drives p d a n) e
  case feedMode p tag c g => exact request (serveFeedMode_drives p c g) e
  case clearFault p tag z => exact request (serveClearFault_drives p z) e
  case clearHealth p tag z => exact request (serveClearHealth_drives p z) e
  case mark p tag n => exact request (serveMark_drives p n) e
  case writeJob p tag r l y n => exact request (serveRoadJob_drives p r l y n) e
  case readRecords p tag a n k => exact request (fun s => .of_eq (serveReadRecords_state a n k s)) e
  case ackRecords p tag a n => exact request (serveAckRecords_drives p a n) e
  case setClock p tag a b c d => exact request (serveSetClock_drives p a b c d) e
  case storeSettings p tag => exact request (serveStoreSettings_drives p) e
  case storeWriteEnd a b => exact e ▸ endStoreWrite_drives a b s
  case analogConversion a raw => exact e ▸ convert_drives a raw s
  case feedHoldExpiry c =>
    refine e ▸ atMoment_drives fun reached => expireHold_drives ?_
    simp only [holdReached, Bool.and_eq_true, decide_eq_true_eq] at reached
    exact reached.1
  case pinChange i l => exact e ▸ changePin_drives i l s
  case debounceExpiry i => exact timed e (takeLevel_drives i s)
  case elementCheckDelayEnd z => exact timed e (.evaluated (driveView_of_heat (hideHeat_checkDelayEnd z s)))
  case sliceExpiry z => exact timed e (.evaluated (driveView_of_heat (hideHeat_expireSlice z s)))
  case speedWindowEnd => exact timed e (endWindow_drives s)
  case pauseDetectorFire => exact timed e (takeModeChange_drives _ _ _ _ s)
  case stopTimerMatch => exact timed e (matchStop_drives s)
  case clockStep => exact timed e (.of_view rfl)
  case widthJogExpiry d => exact timed e (.of_view (driveView_of_geometry (hideGeometry_endWidthJog _ d s)))
  case gradeJogExpiry d => exact timed e (endGradeJog_drives d _ s)
  case feedJogExpiry c => exact timed e (endFeedJog_drives _ c s)
  case sensorRoundStart => exact timed e (startRound_drives s)
  case pollReply a b n => exact e ▸ (takePollReply_drives a b n _).after rfl
  case pollTimeout => exact timed e (completePoll_drives _ s)
  case sensorFrameDiscard bytes => exact e ▸ receiveSensorBytes_drives bytes s
  case sensorFrameGapExpiry => exact timed e (.of_view rfl)
  case scanLine n px => exact viewed e ((driveView_takeScanLine n px _).trans rfl)
  case scanner => exact timed e (.of_view (driveView_appendEvent _ _ _))
  case heatingMinute z => exact timed e (.of_view rfl)
  all_goals exact write e

/-- Every step keeps the rules of the sides, and those of the channels. -/
theorem step_drives {s t : State} (e : step s = .next t) : DrivesKept s t := by
  unfold step at e
  split at e
  · injection e with e
    exact e ▸ (elapse_drives s).trans (.of_view rfl)
  · next c rest _ => exact DrivesKept.trans (t := { s with pending := rest }) (.of_view rfl) (exec_drives e)

end Sys2Proof.Machine

open Sys2Proof Sys2Proof.Machine

/-- Settles O10: a step keeps the rules of the sides and the rules of the channels, each on its own. -/
theorem valveAndFeedRulesKept : Obligations.ValveAndFeedRulesKept := by
  unfold Obligations.ValveAndFeedRulesKept
  exact ⟨fun _ _ h e => (step_drives e).sides h, fun _ _ h e => (step_drives e).feeds h⟩
end

section
/-! PROOFS. Grade and feed jogs (R110, R126): O42. -/

namespace Sys2Proof.Machine

open Sys2Proof

/-! ### The checks of a grade jog (R110) -/

theorem gradeDirOfByte_unknown {b : Byte} (h : 1 < b.toNat) : gradeDirOfByte b = none := by
  unfold gradeDirOfByte
  rw [if_neg (by bv_omega), if_neg (by bv_omega)]

theorem gradeDirOfByte_known {b : Byte} (h : b.toNat ≤ 1) : gradeDirOfByte b = some (if b = 0 then .up else .down) := by
  unfold gradeDirOfByte
  by_cases up : b = 0
  · rw [if_pos up, if_pos up]
  · rw [if_neg up, if_neg up, if_pos (by bv_omega)]

theorem serveJogGrade_notHolder {p : Port} {d : Side} {s : State} (h : holds s p (.grade d) = false) (direction duration : Byte) :
    serveJogGrade p d direction duration s = refuse .notHolder s := if_pos h

theorem serveJogGrade_unknown {p : Port} {d : Side} {s : State} {direction : Byte} (h : holds s p (.grade d) = true)
    (hd : 1 < direction.toNat) (duration : Byte) : serveJogGrade p d direction duration s = refuse .unknown s := by
  unfold serveJogGrade
  rw [if_neg (by simp [h]), gradeDirOfByte_unknown hd]

theorem serveJogGrade_state {p : Port} {d : Side} {s : State} {direction : Byte} (h : holds s p (.grade d) = true)
    (hd : direction.toNat ≤ 1) (hm : (s.sides.get d).state ≠ .manual) (duration : Byte) :
    serveJogGrade p d direction duration s = refuse .state s := by
  unfold serveJogGrade
  rw [if_neg (by simp [h]), gradeDirOfByte_known hd]
  exact if_pos hm

theorem serveJogGrade_runs {p : Port} {d : Side} {s : State} {direction : Byte} (h : holds s p (.grade d) = true)
    (hd : direction.toNat ≤ 1) (hm : (s.sides.get d).state = .manual) (duration : Byte) :
    serveJogGrade p d direction duration s
      = (startGradeJog d (if direction = 0 then .up else .down) (jogDuration 20 duration) s,
          some (bareAnswer (jogStatus 20 duration))) := by
  unfold serveJogGrade
  rw [if_neg (by simp [h]), gradeDirOfByte_known hd]
  exact if_neg (not_not.mpr hm)

/-- R110, R111: the record from which a grade jog runs. -/
theorem gradeJogStarted_eq (r : SideRec) (duty : Int) (dir : GradeDir) (n : Nat) :
    { gradeJogDone .replaced r with duty := duty, dir := dir, jogLeft := n, jogMs := 0 }
      = { r with
          duty := duty, dir := dir, jogLeft := n, jogMs := 0, lastEnd := if r.jogLeft = 0 then r.lastEnd else .replaced } := by
  unfold gradeJogDone
  split <;> simp [*]

/-! ### The checks of a feed jog (R126) -/

theorem serveJogFeed_notHolder {p : Port} {c : FeedChannel} {s : State} (h : holds s p (.feed (feedSide c)) = false) (duration : Byte) :
    serveJogFeed p c duration s = refuse .notHolder s := if_pos h

theorem serveJogFeed_state {p : Port} {c : FeedChannel} {s : State} (h : holds s p (.feed (feedSide c)) = true)
    (hb : (s.feed.get c).state ≠ .manual ∨ s.mode = .standby) (duration : Byte) :
    serveJogFeed p c duration s = refuse .state s := by
  unfold serveJogFeed
  rw [if_neg (by simp [h]), if_pos hb]

theorem serveJogFeed_runs {p : Port} {c : FeedChannel} {s : State} (h : holds s p (.feed (feedSide c)) = true)
    (hm : (s.feed.get c).state = .manual) (hs : s.mode ≠ .standby) (duration : Byte) :
    serveJogFeed p c duration s = (startFeedJog c (jogDuration 50 duration) s, some (bareAnswer (jogStatus 50 duration))) := by
  unfold serveJogFeed
  rw [if_neg (by simp [h]), if_neg (fun k => k.elim (absurd hm) hs)]
  rfl

/-- R126, R127: the record from which a feed jog runs. -/
theorem feedJogStarted_eq (r : FeedRec) (duty : Int) (n : Nat) :
    { jogDone .replaced r with duty := duty, jogDuty := duty, jogLeft := n, jogMs := 0 }
      = { r with
          duty := duty, jogDuty := duty, jogLeft := n, jogMs := 0, lastEnd := if r.jogLeft = 0 then r.lastEnd else .replaced } := by
  unfold jogDone
  split <;> simp [*]

end Sys2Proof.Machine

open Sys2Proof Sys2Proof.Machine

/-- Settles O42: the checks in their order, then `startGradeJog_eq` and `startFeedJog_eq`. -/
theorem gradeAndFeedJogsRun : Obligations.GradeAndFeedJogsRun := by
  unfold Obligations.GradeAndFeedJogsRun
  refine ⟨fun p tag d direction duration s hp => ⟨fun h => ?_, fun h hd => ?_, fun h hd hm => ?_, fun h hd hm => ?_⟩,
    fun p tag c direction duration s hp => ⟨fun h => ?_, fun h hb => ?_, fun h hm hs => ?_⟩⟩
  · exact congrArg Host.Outcome.next (takeRequest_refuses hp
      (serveJogGrade_notHolder (s := withOpened p (kindByte .jog) tag s) h direction duration))
  · exact congrArg Host.Outcome.next (takeRequest_refuses hp
      (serveJogGrade_unknown (s := withOpened p (kindByte .jog) tag s) h hd duration))
  · exact congrArg Host.Outcome.next (takeRequest_refuses hp
      (serveJogGrade_state (s := withOpened p (kindByte .jog) tag s) h hd hm duration))
  · have served := serveJogGrade_runs (s := withOpened p (kindByte .jog) tag s) h hd hm duration
    rw [startGradeJog_eq, gradeJogStarted_eq, jogStatus_eq 20 duration (by decide)] at served
    exact congrArg Host.Outcome.next (takeRequest_answered hp served rfl)
  · exact congrArg Host.Outcome.next (takeRequest_refuses hp
      (serveJogFeed_notHolder (s := withOpened p (kindByte .jog) tag s) h duration))
  · exact congrArg Host.Outcome.next (takeRequest_refuses hp
      (serveJogFeed_state (s := withOpened p (kindByte .jog) tag s) h hb duration))
  · have served := serveJogFeed_runs (s := withOpened p (kindByte .jog) tag s) h hm hs duration
    rw [startFeedJog_eq, feedJogStarted_eq, jogStatus_eq 50 duration (by decide)] at served
    exact congrArg Host.Outcome.next (takeRequest_answered hp served rfl)
end

section
/-! PROOFS. SIDE_MODE (R103, R105 to R107): O40. -/

namespace Sys2Proof.Machine

open Sys2Proof

/-! ### The checks in their order (R106) -/

theorem operationOfByte_unknown {b : Byte} (h : 2 < b.toNat) : operationOfByte b = none := by
  unfold operationOfByte
  rw [if_neg (by bv_omega), if_neg (by bv_omega), if_neg (by bv_omega)]

theorem serveSideMode_unknown {p : Port} {side target : Byte} (h : 1 < side.toNat ∨ 2 < target.toNat) (s : State) :
    serveSideMode p side target s = refuse .unknown s := by
  unfold serveSideMode
  rcases h with h | h
  · rw [sideOfByte_unknown h]
  · rw [operationOfByte_unknown h]
    cases sideOfByte side <;> rfl

/-- R106 step 5: the target is the operation that stands. -/
theorem sideOperates_iff (st : SideState) (g : OperationTarget) :
    sideOperates st g = true
      ↔ (g = .off ∧ st = .off) ∨ (g = .manual ∧ st = .manual) ∨ (g = .auto ∧ sideEngaged st = true) := by
  cases g <;> simp [sideOperates]

/-- R106: the e-stop latch bars every operation but OFF, and the mode bars AUTO. -/
def operationBarred (s : State) (g : OperationTarget) : Prop :=
  (g ≠ .off ∧ s.estop = true) ∨ (g = .auto ∧ s.mode ≠ .paving ∧ s.mode ≠ .paused)

/-- R106: a GRADE side has too few references for AUTO. -/
def referencesShort (s : State) (d : Side) (g : OperationTarget) : Prop :=
  g = .auto ∧ (s.settings.sides.get d).kind = .grade ∧ refValidCount s d < (s.settings.sides.get d).minValid

/-- Outside STARTING the modes that bar AUTO are those in which the machine does not pave. -/
theorem barring_mode_iff {m : Mode} (h : m ≠ .starting) :
    (m = .parked ∨ m = .preheat ∨ m = .ready ∨ m = .standby) ↔ m ≠ .paving ∧ m ≠ .paused := by
  cases m <;> first | contradiction | decide

section
variable {p : Port} {side target : Byte} {d : Side} {g : OperationTarget} {s : State}

/-- SIDE_MODE for a named side and target. -/
theorem serveSideMode_named (hd : side.toNat = sideCode d) (hg : operationOfByte target = some g) (hs : s.mode ≠ .starting) :
    serveSideMode p side target s
      = if holds s p (.grade d) = false then refuse .notHolder s
        else if (s.sides.get d).state = .referencing then refuse .state s
        else if sideOperates (s.sides.get d).state g then done (u8 (sideStateCode (s.sides.get d).state)) s
        else if g ≠ .off ∧ s.estop then refuse .state s
        else if g = .auto ∧ s.mode ≠ .paving ∧ s.mode ≠ .paused then refuse .state s
        else if g = .auto ∧ (s.settings.sides.get d).kind = .grade ∧ refValidCount s d < (s.settings.sides.get d).minValid then
          refuse .config s
        else done (u8 (sideStateCode ((changeSide d g s).sides.get d).state)) (changeSide d g s) := by
  simp only [serveSideMode, sideOfByte_code hd, hg, barring_mode_iff hs]

theorem serveSideMode_notHolder (hd : side.toNat = sideCode d) (hg : operationOfByte target = some g) (hs : s.mode ≠ .starting)
    (h : holds s p (.grade d) = false) : serveSideMode p side target s = refuse .notHolder s := by
  rw [serveSideMode_named hd hg hs, if_pos h]

theorem serveSideMode_referencing (hd : side.toNat = sideCode d) (hg : operationOfByte target = some g) (hs : s.mode ≠ .starting)
    (h : holds s p (.grade d) = true) (hr : (s.sides.get d).state = .referencing) :
    serveSideMode p side target s = refuse .state s := by
  rw [serveSideMode_named hd hg hs, if_neg (by simp [h]), if_pos hr]

theorem serveSideMode_present (hd : side.toNat = sideCode d) (hg : operationOfByte target = some g) (hs : s.mode ≠ .starting)
    (h : holds s p (.grade d) = true) (hr : (s.sides.get d).state ≠ .referencing) (ho : sideOperates (s.sides.get d).state g = true) :
    serveSideMode p side target s = done (u8 (sideStateCode (s.sides.get d).state)) s := by
  rw [serveSideMode_named hd hg hs, if_neg (by simp [h]), if_neg hr, if_pos ho]

theorem serveSideMode_barred (hd : side.toNat = sideCode d) (hg : operationOfByte target = some g) (hs : s.mode ≠ .starting)
    (h : holds s p (.grade d) = true) (hr : (s.sides.get d).state ≠ .referencing) (ho : ¬ sideOperates (s.sides.get d).state g = true)
    (hb : operationBarred s g) : serveSideMode p side target s = refuse .state s := by
  rw [serveSideMode_named hd hg hs, if_neg (by simp [h]), if_neg hr, if_neg ho]
  by_cases latched : g ≠ .off ∧ s.estop = true
  · rw [if_pos latched]
  · rw [if_neg latched, if_pos (hb.resolve_left latched)]

/-- R106: past the checks on the mode, the references decide. -/
theorem serveSideMode_free (hd : side.toNat = sideCode d) (hg : operationOfByte target = some g) (hs : s.mode ≠ .starting)
    (h : holds s p (.grade d) = true) (hr : (s.sides.get d).state ≠ .referencing) (ho : ¬ sideOperates (s.sides.get d).state g = true)
    (hb : ¬ operationBarred s g) :
    (referencesShort s d g → serveSideMode p side target s = refuse .config s)
      ∧ (¬ referencesShort s d g → serveSideMode p side target s
          = done (u8 (sideStateCode ((changeSide d g s).sides.get d).state)) (changeSide d g s)) := by
  obtain ⟨latch, mode⟩ := not_or.mp hb
  rw [serveSideMode_named hd hg hs, if_neg (by simp [h]), if_neg hr, if_neg ho, if_neg latch, if_neg mode]
  exact ⟨fun few => if_pos few, fun enough => if_neg enough⟩

end

/-! ### The change of operation (R103, R105, R107) -/

/-- R103: where AUTO takes a side, in the rule's words. -/
theorem settledAs_run (s : State) (v : Verdict) :
    settledAs (runCondition s) v
      = if s.mode ≠ .paving ∨ s.travel.speed ≤ 0 then .suspended else if v = .short then .hold else .auto := by
  have run : runCondition s = false ↔ s.mode ≠ .paving ∨ s.travel.speed ≤ 0 := by
    simp [runCondition, imp_iff_not_or]
  simp only [settledAs, run]

/-- R105: what a change of operation leaves on record. -/
def operationRecords (s : State) (d : Side) (entered : SideState) : List (Origin × Event) :=
  if entered = .hold then [(.levelling, .sideHold d (holdDetail s d))] else []

theorem changeSide_state (d : Side) (g : OperationTarget) (s : State) :
    ((changeSide d g s).sides.get d).state = operationState (runCondition s) (s.sides.get d).verdict g := by
  rw [changeSide_sides, PerSide.get_set_same]
  rfl

section
variable {d : Side} {g : OperationTarget} {s : State}

/-- Of the operations only AUTO takes a side into HOLD or AUTO, and it is not asked of a side that holds. -/
theorem holds_operated (ho : ¬ sideOperates (s.sides.get d).state g = true) {run : Bool} {v : Verdict}
    (he : sideEngaged (operationState run v g) = true) : (s.sides.get d).state ≠ .hold := by
  intro held
  cases g with
  | off => cases he
  | manual => cases he
  | auto => exact ho (by rw [held]; rfl)

/-- R105, R107: a change of operation turns the side whose jog has ended. -/
theorem changeSide_turned (d : Side) (g : OperationTarget) (s : State) :
    Turned d (gradeJogDone .sideMode (s.sides.get d)) (operatedRec (runCondition s) g (s.sides.get d))
      { s with sides := s.sides.set d (gradeJogDone .sideMode (s.sides.get d)) } (changeSide d g s) := by
  have turned := enterSideState_turned d (operationState (runCondition s) (s.sides.get d).verdict g)
    { s with sides := s.sides.set d (gradeJogDone .sideMode (s.sides.get d)) }
  rw [PerSide.get_set_same] at turned
  rw [changeSide_eq, endGradeJog_eq]
  exact turned

theorem turnRecords_operated (ho : ¬ sideOperates (s.sides.get d).state g = true) (run : Bool) :
    turnRecords s d (gradeJogDone .sideMode (s.sides.get d)) (operatedRec run g (s.sides.get d))
      = operationRecords s d (operationState run (s.sides.get d).verdict g) := by
  have state : (operatedRec run g (s.sides.get d)).state = operationState run (s.sides.get d).verdict g := rfl
  have count : (operatedRec run g (s.sides.get d)).validCount = (s.sides.get d).validCount := by
    unfold operatedRec gradeJogDone
    split <;> rfl
  have cls : (operatedRec run g (s.sides.get d)).verdictClass = (s.sides.get d).verdictClass := by
    unfold operatedRec gradeJogDone
    split <;> rfl
  have other := holds_operated ho (run := run) (v := (s.sides.get d).verdict)
  rw [turnRecords, operationRecords, state, gradeJogDone_state, count, cls, holdDetail]
  by_cases hold : operationState run (s.sides.get d).verdict g = .hold
  · refine (if_pos ⟨hold, other (by rw [hold]; rfl)⟩).trans (Eq.trans ?_ (if_pos hold).symm)
    rfl
  · rw [if_neg (fun k => hold k.1), if_neg hold, if_neg]
    rintro ⟨auto, held⟩
    exact other (by rw [auto]; rfl) held

/-- R105, R107: what an accepted SIDE_MODE writes. -/
theorem changeSide_frame (ho : ¬ sideOperates (s.sides.get d).state g = true) :
    changeSide d g s = { s with
      sides := s.sides.set d (operatedRec (runCondition s) g (s.sides.get d))
      events := eventsAfter s (operationRecords s d (operationState (runCondition s) (s.sides.get d).verdict g))
      profiler := { s.profiler with flags := (changeSide d g s).profiler.flags } } := by
  have records := turnRecords_operated ho (runCondition s)
  refine (changeSide_turned d g s).eq.trans ?_
  rw [← records, PerSide.set_set]
  rfl

/-- R135: the interval flags stand but for an entry to HOLD, which raises the side's. -/
theorem changeSide_flags (ho : ¬ sideOperates (s.sides.get d).state g = true) :
    (operationState (runCondition s) (s.sides.get d).verdict g ≠ .hold → (changeSide d g s).profiler.flags = s.profiler.flags)
      ∧ (operationState (runCondition s) (s.sides.get d).verdict g = .hold → holdFlag (changeSide d g s).profiler.flags d = true) := by
  obtain ⟨-, same, raised, -⟩ := changeSide_turned d g s
  refine ⟨fun h => same fun k => h k.1, fun h => raised ⟨h, ?_⟩⟩
  rw [gradeJogDone_state]
  exact holds_operated ho (by rw [h]; rfl)

end

/-- R107: a side after a change of operation, in the rule's words. -/
theorem operatedRec_eq (run : Bool) (g : OperationTarget) (r : SideRec) :
    operatedRec run g r = { r with
      state := operationState run r.verdict g, duty := 0, dir := .none, jogLeft := 0, jogMs := if r.jogLeft = 0 then r.jogMs else 0
      lastEnd := if r.jogLeft = 0 then r.lastEnd else .sideMode } := by
  unfold operatedRec gradeJogDone
  split <;> simp [*]

end Sys2Proof.Machine

open Sys2Proof Sys2Proof.Machine

/-- Settles O40: the checks of `serveSideMode` in their order, then the side as `changeSide_frame` leaves it. -/
theorem sideModeSetsOperation : Obligations.SideModeSetsOperation := by
  unfold Obligations.SideModeSetsOperation
  intro p tag side target s hp
  obtain ⟨hs, hf, -⟩ := (portOpen_iff s p).mp hp
  refine ⟨fun h => congrArg Host.Outcome.next (takeRequest_refuses hp (serveSideMode_unknown h _)), fun d g hd hg => ?_⟩
  intro r kind present barred few enters
  have operates : present ↔ sideOperates r.state g = true := (sideOperates_iff r.state g).symm
  refine ⟨fun h => ?_, fun h hr => ?_, fun h hr => ⟨fun ho => ?_, fun ho hb => ?_, fun ho hb hk => ?_, fun ho hb hk => ?_⟩⟩
  · exact congrArg Host.Outcome.next (takeRequest_refuses hp
      (serveSideMode_notHolder (s := withOpened p (kindByte .sideMode) tag s) hd hg hs h))
  · exact congrArg Host.Outcome.next (takeRequest_refuses hp
      (serveSideMode_referencing (s := withOpened p (kindByte .sideMode) tag s) hd hg hs h hr))
  · exact congrArg Host.Outcome.next (takeRequest_served hf hs
      (serveSideMode_present (s := withOpened p (kindByte .sideMode) tag s) hd hg hs h hr (operates.mp ho)))
  · exact congrArg Host.Outcome.next (takeRequest_refuses hp
      (serveSideMode_barred (s := withOpened p (kindByte .sideMode) tag s) hd hg hs h hr (mt operates.mpr ho) hb))
  · exact congrArg Host.Outcome.next (takeRequest_refuses hp
      ((serveSideMode_free (s := withOpened p (kindByte .sideMode) tag s) hd hg hs h hr (mt operates.mpr ho) hb).1 hk))
  · have served := (serveSideMode_free (s := withOpened p (kindByte .sideMode) tag s) hd hg hs h hr (mt operates.mpr ho) hb).2 hk
    have frame := changeSide_frame (s := withOpened p (kindByte .sideMode) tag s) (mt operates.mpr ho)
    obtain ⟨same, raised⟩ := changeSide_flags (s := withOpened p (kindByte .sideMode) tag s) (mt operates.mpr ho)
    have entered : enters = operationState (runCondition s) r.verdict g := by
      cases g with
      | off => rfl
      | manual => rfl
      | auto => exact (settledAs_run s r.verdict).symm
    rw [changeSide_state] at served
    rw [operatedRec_eq] at frame
    have ports : (changeSide d g (withOpened p (kindByte .sideMode) tag s)).ports = (withOpened p (kindByte .sideMode) tag s).ports := by
      have e := congrArg State.ports frame; exact e
    rw [entered]
    refine ⟨{ changeSide d g (withOpened p (kindByte .sideMode) tag s) with ports := s.ports },
      congrArg Host.Outcome.next (takeRequest_answered hp served ports),
      congrArg (fun t : State => { t with ports := s.ports }) frame, same, fun hold => ?_⟩
    cases d <;> exact raised hold
end

section
/-! PROOFS. The feed channels: the entries to the holding states, the conversions of a level, and the write of its setpoint (R114 to R116, R119,
R120): O48. -/

namespace Sys2Proof.Machine

open Sys2Proof

/-! ### Entries to the holding states (R119, R120, R135) -/

/-- R120: the states of a channel that stand as the FEED_HOLD condition. -/
def feedHolds (st : FeedState) : Prop := st = .holdLast ∨ st = .sensorHold

theorem feedHolding_of_state {c : FeedChannel} {s : State} (h : feedHolds (s.feed.get c).state) : feedHolding s = true :=
  List.any_eq_true.mpr ⟨c, mem_allFeed c, by simpa [feedHolds] using h⟩

theorem raiseFlags_feedHold {c : FeedChannel} {s : State} (h : feedHolds (s.feed.get c).state) :
    (raiseFlags s).profiler.flags.feedHold = true := by
  change (s.profiler.flags.feedHold || feedHolding s) = true
  rw [feedHolding_of_state h, Bool.or_true]

/-- R120, R135: from `s` to `t` a channel takes a record: event records are appended, an entry to a holding state raises its interval flag, and
nothing else changes. -/
structure FeedTurned (c : FeedChannel) (after : FeedRec) (records : List (Origin × Event)) (s t : State) : Prop where
  eq : t = { s with
    feed := s.feed.set c after, events := eventsAfter s records, profiler := { s.profiler with flags := t.profiler.flags } }
  raised : feedHolds after.state → t.profiler.flags.feedHold = true
  same : ¬ feedHolds after.state → t.profiler.flags = s.profiler.flags

section
variable {c : FeedChannel} {r m : FeedRec} {records : List (Origin × Event)} {s t : State}

theorem FeedTurned.of_set (h : ¬ feedHolds r.state) : FeedTurned c r [] s { s with feed := s.feed.set c r } :=
  ⟨rfl, fun k => absurd k h, fun _ => rfl⟩

/-- What the channel's own record was before plays no part. -/
theorem FeedTurned.of_record (h : FeedTurned c r records { s with feed := s.feed.set c m } t) : FeedTurned c r records s t := by
  obtain ⟨eq, raised, same⟩ := h
  rw [PerFeed.set_set] at eq
  exact ⟨eq, raised, same⟩

theorem FeedTurned.ports (h : FeedTurned c r records s t) : t.ports = s.ports := by
  have e := congrArg State.ports h.eq; exact e

end

/-- R119: the channel's duty is frozen. -/
theorem enterHoldLast_turned (c : FeedChannel) (s : State) :
    FeedTurned c { s.feed.get c with state := .holdLast, hold := 30, holdMs := 0 } [] s (enterHoldLast c s) := by
  refine ⟨rfl, fun _ => raiseFlags_feedHold (c := c) (.inl ?_), fun h => absurd (.inl rfl) h⟩
  rw [setFeed, PerFeed.get_set_same]

/-- R120: the channel stops, with FEED_HOLD on record. -/
theorem enterSensorHold_turned (c : FeedChannel) (frozen : Int) (s : State) :
    FeedTurned c { s.feed.get c with state := .sensorHold, duty := 0, hold := 0, holdMs := 0 }
      [(.feed, .feedHold c (feedLevel s c) frozen)] s (enterSensorHold c frozen s) := by
  unfold enterSensorHold
  rw [appendEvent_eq]
  refine ⟨rfl, fun _ => raiseFlags_feedHold (c := c) (.inr ?_), fun h => absurd (.inr rfl) h⟩
  rw [setFeed, PerFeed.get_set_same]

/-- R119, R120: at its moment the hold time's end stops the channel. -/
theorem exec_feedHoldExpiry {c : FeedChannel} {s : State} (h : (s.feed.get c).state = .holdLast) (k : (s.feed.get c).hold = 1)
    (l : 100 ≤ (s.feed.get c).holdMs) :
    exec (.feedHoldExpiry c) s = .next (enterSensorHold c (s.feed.get c).duty s) :=
  congrArg Host.Outcome.next (if_pos (by simp [holdReached_eq, h, k, l]))

theorem exec_feedHoldExpiry_elsewhere {c : FeedChannel} {s : State} (h : (s.feed.get c).state ≠ .holdLast) :
    exec (.feedHoldExpiry c) s = .next s :=
  congrArg Host.Outcome.next (if_neg (by simp [holdReached_eq, h]))

/-! ### Level conversions (R114, R116, R119, R120) -/

section
variable {c : FeedChannel} {s : State}

theorem feedConversion_lost (hf : feedFault s c = true) (h : (s.feed.get c).state = .auto) :
    feedConversion c s = enterHoldLast c s := by
  rw [feedConversion, if_pos hf, if_pos h]

theorem feedConversion_ignored (hf : feedFault s c = true) (h : (s.feed.get c).state ≠ .auto) : feedConversion c s = s := by
  rw [feedConversion, if_pos hf, if_neg h]

/-- R114: outside AUTO and the holding states a valid level gives the error alone. -/
theorem feedConversion_measured (hf : feedFault s c = false)
    (h : (s.feed.get c).state = .off ∨ (s.feed.get c).state = .manual ∨ (s.feed.get c).state = .suspended) :
    feedConversion c s = { s with feed := s.feed.set c { s.feed.get c with error := levelError s c } } := by
  rw [feedConversion, if_neg (by simp [hf])]
  rcases h with h | h | h <;> simp only [h] <;> rfl

/-- R116: the channel runs on the error just computed. -/
theorem runAuto_measured (c : FeedChannel) (error : Int) (s : State) :
    runAuto c (setFeed c { s.feed.get c with error := error } s)
      = { s with
          feed := s.feed.set c
            { s.feed.get c with
              state := .auto, error := error, duty := autoDuty (s.settings.feed.get c).gain error, hold := 0, holdMs := 0 } } := by
  simp only [runAuto, channelDuty, setFeed, PerFeed.get_set_same, PerFeed.set_set]

/-- R120: the return to AUTO leaves FEED_RESUMED on record. -/
theorem resumeFeed_measured (c : FeedChannel) (error : Int) (s : State) :
    resumeFeed c (setFeed c { s.feed.get c with error := error } s)
      = { s with
          feed := s.feed.set c
            { s.feed.get c with
              state := .auto, error := error, duty := autoDuty (s.settings.feed.get c).gain error, hold := 0, holdMs := 0 }
          events := eventsAfter s
            [(.feed, .feedResumed c (feedLevel s c) (autoDuty (s.settings.feed.get c).gain error))] } := by
  simp only [resumeFeed, runAuto_measured, appendEvent_eq, PerFeed.get_set_same]
  rfl

/-- R116, R119, R120: a valid level runs a channel that runs or holds; the return from SENSOR_HOLD leaves FEED_RESUMED on record. -/
theorem feedConversion_runs (hf : feedFault s c = false) (h : (s.feed.get c).state = .auto ∨ feedHolds (s.feed.get c).state) :
    feedConversion c s
      = { s with
          feed := s.feed.set c
            { s.feed.get c with
              state := .auto, error := levelError s c, duty := autoDuty (s.settings.feed.get c).gain (levelError s c), hold := 0
              holdMs := 0 }
          events := eventsAfter s (if (s.feed.get c).state = .sensorHold then
            [(.feed, .feedResumed c (feedLevel s c) (autoDuty (s.settings.feed.get c).gain (levelError s c)))] else []) } := by
  have run := runAuto_measured c (levelError s c) s
  have resume := resumeFeed_measured c (levelError s c) s
  rw [feedConversion, if_neg (by simp [hf])]
  dsimp only
  generalize setFeed c { s.feed.get c with error := levelError s c } s = measured at run resume ⊢
  rcases h with auto | last | held
  · simp only [auto]
    exact run
  · simp only [last]
    exact run
  · simp only [held]
    exact resume

end

/-! ### The level setpoint (R115) -/

theorem writeLevelSetpoint_eq (c : FeedChannel) (v : Int) (s : State) :
    writeLevelSetpoint c v s
      = { s with
          settings := { s.settings with feed := s.settings.feed.set c { s.settings.feed.get c with setpoint := v } }
          feed := s.feed.set c
            (if (s.feed.get c).state = .auto then
              { s.feed.get c with
                error := v - feedLevel s c, duty := autoDuty (s.settings.feed.get c).gain (v - feedLevel s c), hold := 0, holdMs := 0 }
             else { s.feed.get c with error := v - feedLevel s c }) } := by
  have setting := PerFeed.get_set_same s.settings.feed c { s.settings.feed.get c with setpoint := v }
  have error : levelError (setSettings { s.settings with
      feed := s.settings.feed.set c { s.settings.feed.get c with setpoint := v } } s) c = v - feedLevel s c :=
    congrArg (fun f : FeedSettings => f.setpoint - feedLevel s c) setting
  unfold writeLevelSetpoint
  dsimp only
  rw [error]
  by_cases auto : (s.feed.get c).state = .auto
  · rw [if_pos auto, if_pos auto, runAuto_measured, ← auto]
    have duty := congrArg (fun f : FeedSettings => autoDuty f.gain (v - feedLevel s c)) setting
    dsimp only [setSettings] at duty ⊢
    rw [duty]
  · rw [if_neg auto, if_neg auto]
    rfl

/-- R115, R171: a level setpoint is stored at the nearest bound and answered as stored. -/
theorem serveWrite_levelSetpoint {p : Port} {c : FeedChannel} {s : State} (h : holds s p (.feed (feedSide c)) = true) (v : Word) :
    serveWrite p (.levelSetpoint c) v s
      = (writeLevelSetpoint c (clamp 100 900 v.toInt) s,
          some { status := if clamp 100 900 v.toInt = v.toInt then .ok else .okClamped, payload := numField (clamp 100 900 v.toInt) }) := by
  rw [serveWrite_setpoint rfl rfl h]
  have stored : settingField (writeLevelSetpoint c (clamp 100 900 v.toInt) s) (.levelSetpoint c) = numField (clamp 100 900 v.toInt) := by
    rw [settingField, settingValue, writeLevelSetpoint_eq, PerFeed.get_set_same]
  exact congrArg (fun payload => (writeLevelSetpoint c (clamp 100 900 v.toInt) s,
    some ({ status := if clamp 100 900 v.toInt = v.toInt then .ok else .okClamped, payload := payload } : Answer))) stored

end Sys2Proof.Machine

open Sys2Proof Sys2Proof.Machine

/-- Settles O48: a conversion is `feedConversion` by its cases on the state with the level judged, the hold's end an entry to SENSOR_HOLD, and
the write `writeLevelSetpoint_eq` on the state with the port opened. -/
theorem feedFollowsItsLevel : Obligations.FeedFollowsItsLevel := by
  unfold Obligations.FeedFollowsItsLevel
  intro c s r f law
  refine ⟨fun raw => ?_, exec_feedHoldExpiry_elsewhere, fun h k l => ?_, fun p tag value hp => ?_⟩
  · intro x s1 e
    have level : s1.analog.level.get c = x := PerAnalog.get_set_same s.analog (.level c) x
    have fault : feedFault s1 c = x.fault := congrArg Analog.fault level
    have value : feedLevel s1 c = x.value := congrArg Analog.value level
    have error : levelError s1 c = e := congrArg (f.setpoint - ·) value
    refine ⟨fun hf h => ?_, fun hf h => ?_, fun hf h => ?_, fun hf h => ?_⟩
    · exact congrArg Host.Outcome.next (feedConversion_ignored (s := s1) (fault.trans hf) h)
    · obtain ⟨eq, raised, -⟩ := enterHoldLast_turned c s1
      exact ⟨_, congrArg Host.Outcome.next (feedConversion_lost (s := s1) (fault.trans hf) h), raised (.inl rfl), eq⟩
    · have taken := feedConversion_measured (s := s1) (fault.trans hf) h
      rw [error] at taken
      exact congrArg Host.Outcome.next taken
    · have taken := feedConversion_runs (s := s1) (fault.trans hf) h
      rw [error, value] at taken
      exact congrArg Host.Outcome.next taken
  · obtain ⟨eq, raised, -⟩ := enterSensorHold_turned c r.duty s
    exact ⟨_, exec_feedHoldExpiry h k l, raised (.inr rfl), eq⟩
  · refine ⟨fun h => congrArg Host.Outcome.next (takeRequest_refuses hp ?_), fun h => ?_⟩
    · exact serveWrite_notHolder (s := withOpened p (kindByte .setItem) tag s) rfl rfl h value
    · have served := serveWrite_levelSetpoint (s := withOpened p (kindByte .setItem) tag s) h value
      rw [writeLevelSetpoint_eq] at served
      exact congrArg Host.Outcome.next (takeRequest_answered hp served rfl)
end

section
/-! PROOFS. FEED_MODE (R118, R120, R122, R123): O47. -/

namespace Sys2Proof.Machine

open Sys2Proof

/-! ### The checks in their order (R122) -/

theorem feedOfByte_code {b : Byte} {c : FeedChannel} (h : b.toNat = feedCode c) : feedOfByte b = some c := by
  have named : b = BitVec.ofNat 8 (feedCode c) := by rw [← h, BitVec.ofNat_toNat, BitVec.setWidth_eq]
  subst named
  cases c <;> decide

theorem feedOfByte_unknown {b : Byte} (h : 3 < b.toNat) : feedOfByte b = none := by
  unfold feedOfByte
  rw [if_neg (by bv_omega), if_neg (by bv_omega), if_neg (by bv_omega), if_neg (by bv_omega)]

theorem serveFeedMode_unknown {p : Port} {channel target : Byte} (h : 3 < channel.toNat ∨ 2 < target.toNat) (s : State) :
    serveFeedMode p channel target s = refuse .unknown s := by
  unfold serveFeedMode
  rcases h with h | h
  · rw [feedOfByte_unknown h]
  · rw [operationOfByte_unknown h]
    cases feedOfByte channel <;> rfl

/-- R122 step 4: the target is the operation that stands. -/
theorem feedOperates_iff (st : FeedState) (g : OperationTarget) :
    feedOperates st g = true
      ↔ (g = .off ∧ st = .off) ∨ (g = .manual ∧ st = .manual) ∨ (g = .auto ∧ feedEngaged st = true) := by
  cases g <;> simp [feedOperates]

/-- R122: the e-stop latch bars every operation but OFF, and PARKED bars AUTO. -/
def feedBarred (s : State) (g : OperationTarget) : Prop := (g ≠ .off ∧ s.estop = true) ∨ (g = .auto ∧ s.mode = .parked)

section
variable {p : Port} {channel target : Byte} {c : FeedChannel} {g : OperationTarget} {s : State}

/-- FEED_MODE for a named channel and target. -/
theorem serveFeedMode_named (hc : channel.toNat = feedCode c) (hg : operationOfByte target = some g) :
    serveFeedMode p channel target s
      = if holds s p (.feed (feedSide c)) = false then refuse .notHolder s
        else if feedOperates (s.feed.get c).state g then done (u8 (feedStateCode (s.feed.get c).state)) s
        else if g ≠ .off ∧ s.estop then refuse .state s
        else if g = .auto ∧ s.mode = .parked then refuse .state s
        else done (u8 (feedStateCode ((changeFeed c g s).feed.get c).state)) (changeFeed c g s) := by
  simp only [serveFeedMode, feedOfByte_code hc, hg]

theorem serveFeedMode_notHolder (hc : channel.toNat = feedCode c) (hg : operationOfByte target = some g)
    (h : holds s p (.feed (feedSide c)) = false) : serveFeedMode p channel target s = refuse .notHolder s := by
  rw [serveFeedMode_named hc hg, if_pos h]

theorem serveFeedMode_present (hc : channel.toNat = feedCode c) (hg : operationOfByte target = some g)
    (h : holds s p (.feed (feedSide c)) = true) (ho : feedOperates (s.feed.get c).state g = true) :
    serveFeedMode p channel target s = done (u8 (feedStateCode (s.feed.get c).state)) s := by
  rw [serveFeedMode_named hc hg, if_neg (by simp [h]), if_pos ho]

theorem serveFeedMode_barred (hc : channel.toNat = feedCode c) (hg : operationOfByte target = some g)
    (h : holds s p (.feed (feedSide c)) = true) (ho : ¬ feedOperates (s.feed.get c).state g = true) (hb : feedBarred s g) :
    serveFeedMode p channel target s = refuse .state s := by
  rw [serveFeedMode_named hc hg, if_neg (by simp [h]), if_neg ho]
  by_cases latched : g ≠ .off ∧ s.estop = true
  · rw [if_pos latched]
  · rw [if_neg latched, if_pos (hb.resolve_left latched)]

theorem serveFeedMode_changes (hc : channel.toNat = feedCode c) (hg : operationOfByte target = some g)
    (h : holds s p (.feed (feedSide c)) = true) (ho : ¬ feedOperates (s.feed.get c).state g = true) (hb : ¬ feedBarred s g) :
    serveFeedMode p channel target s
      = done (u8 (feedStateCode ((changeFeed c g s).feed.get c).state)) (changeFeed c g s) := by
  obtain ⟨latch, mode⟩ := not_or.mp hb
  rw [serveFeedMode_named hc hg, if_neg (by simp [h]), if_neg ho, if_neg latch, if_neg mode]

end

/-! ### The change of operation (R118, R120, R123) -/

/-- R118, R123: the state that an operation gives a channel. -/
def feedEnters (s : State) (c : FeedChannel) : OperationTarget → FeedState
  | .off => .off
  | .manual => .manual
  | .auto => if s.mode ≠ .paving then .suspended else if feedFault s c then .sensorHold else .auto

/-- R116, R118, R123: a channel record that has entered a state, driven in AUTO alone. -/
def enteredFeed (entered : FeedState) (gain : Int) (r : FeedRec) : FeedRec :=
  { r with state := entered, duty := if entered = .auto then autoDuty gain r.error else 0, hold := 0, holdMs := 0 }

/-- R120: what a change of operation leaves on record. -/
def feedOperationRecords (s : State) (c : FeedChannel) (entered : FeedState) : List (Origin × Event) :=
  if entered = .sensorHold then [(.feed, .feedHold c (feedLevel s c) 0)] else []

/-- An operation never takes a channel into HOLD_LAST. -/
theorem feedHolds_enters (s : State) (c : FeedChannel) (g : OperationTarget) :
    feedHolds (feedEnters s c g) ↔ feedEnters s c g = .sensorHold := by
  refine ⟨fun h => h.resolve_left ?_, .inr⟩
  cases g with
  | off => nofun
  | manual => nofun
  | auto => dsimp only [feedEnters]; split <;> [nofun; (split <;> nofun)]

/-- R118: a channel being engaged is settled. -/
theorem settleFeed_turned {c : FeedChannel} {s : State} (hn : (s.feed.get c).state ≠ .sensorHold) :
    FeedTurned c (enteredFeed (feedEnters s c .auto) (s.settings.feed.get c).gain (s.feed.get c))
      (feedOperationRecords s c (feedEnters s c .auto)) s (settleFeed c s) := by
  unfold settleFeed feedEnters
  by_cases outside : s.mode ≠ .paving
  · simp only [if_pos outside]
    exact .of_set (by simp [enteredFeed, feedHolds])
  · simp only [if_neg outside]
    by_cases fault : feedFault s c = true
    · simp only [if_pos fault, if_neg hn]
      exact enterSensorHold_turned c 0 s
    · simp only [if_neg fault]
      exact .of_set (by simp [enteredFeed, feedHolds])

/-- R123: a change of operation turns the channel whose jog has ended. -/
theorem changeFeed_turned {c : FeedChannel} {g : OperationTarget} {s : State} (ho : ¬ feedOperates (s.feed.get c).state g = true) :
    FeedTurned c (enteredFeed (feedEnters s c g) (s.settings.feed.get c).gain (jogDone .feedMode (s.feed.get c)))
      (feedOperationRecords s c (feedEnters s c g)) s (changeFeed c g s) := by
  unfold changeFeed
  rw [endFeedJog_eq]
  refine .of_record (m := jogDone .feedMode (s.feed.get c)) ?_
  have record := PerFeed.get_set_same s.feed c (jogDone .feedMode (s.feed.get c))
  cases g with
  | off =>
    dsimp only
    rw [record]
    exact .of_set (by simp [enteredFeed, feedEnters, feedHolds])
  | manual =>
    dsimp only
    rw [record]
    exact .of_set (by simp [enteredFeed, feedEnters, feedHolds])
  | auto =>
    have turned := settleFeed_turned (c := c) (s := { s with feed := s.feed.set c (jogDone .feedMode (s.feed.get c)) }) (by
      rw [record, jogDone_state]
      intro held
      exact ho (by rw [held]; rfl))
    rw [record] at turned
    exact turned

/-- R116, R123: a channel after a change of operation, in the rule's words. -/
theorem enteredFeed_jogDone (entered : FeedState) (gain : Int) (r : FeedRec) :
    enteredFeed entered gain (jogDone .feedMode r)
      = { r with
          state := entered, duty := if entered = .auto ∧ 0 < r.error then min 1000 ((r.error * gain).tdiv 100) else 0
          hold := 0, holdMs := 0, jogDuty := if r.jogLeft = 0 then r.jogDuty else 0, jogLeft := 0
          jogMs := if r.jogLeft = 0 then r.jogMs else 0, lastEnd := if r.jogLeft = 0 then r.lastEnd else .feedMode } := by
  have duty : (if entered = .auto then autoDuty gain r.error else 0)
      = if entered = .auto ∧ 0 < r.error then min 1000 ((r.error * gain).tdiv 100) else 0 := by
    by_cases auto : entered = .auto <;> by_cases positive : 0 < r.error <;> simp [autoDuty, auto, positive]
  unfold enteredFeed jogDone
  split <;> simp [*]

end Sys2Proof.Machine

open Sys2Proof Sys2Proof.Machine

/-- Settles O47: the checks of `serveFeedMode` in their order, then the channel as `changeFeed_turned` leaves it. -/
theorem feedModeSetsOperation : Obligations.FeedModeSetsOperation := by
  unfold Obligations.FeedModeSetsOperation
  intro p tag channel target s hp
  obtain ⟨hs, hf, -⟩ := (portOpen_iff s p).mp hp
  refine ⟨fun h => congrArg Host.Outcome.next (takeRequest_refuses hp (serveFeedMode_unknown h _)), fun c g hc hg => ?_⟩
  intro r present barred enters
  have operates : present ↔ feedOperates r.state g = true := (feedOperates_iff r.state g).symm
  refine ⟨fun h => ?_, fun h => ⟨fun ho => ?_, fun ho hb => ?_, fun ho hb => ?_⟩⟩
  · exact congrArg Host.Outcome.next (takeRequest_refuses hp
      (serveFeedMode_notHolder (s := withOpened p (kindByte .feedMode) tag s) hc hg h))
  · exact congrArg Host.Outcome.next (takeRequest_served hf hs
      (serveFeedMode_present (s := withOpened p (kindByte .feedMode) tag s) hc hg h (operates.mp ho)))
  · exact congrArg Host.Outcome.next (takeRequest_refuses hp
      (serveFeedMode_barred (s := withOpened p (kindByte .feedMode) tag s) hc hg h (mt operates.mpr ho) hb))
  · have served := serveFeedMode_changes (s := withOpened p (kindByte .feedMode) tag s) hc hg h (mt operates.mpr ho) hb
    have turned := changeFeed_turned (s := withOpened p (kindByte .feedMode) tag s) (mt operates.mpr ho)
    have ports := turned.ports
    obtain ⟨frame, raised, same⟩ := turned
    have entered : enters = feedEnters (withOpened p (kindByte .feedMode) tag s) c g := by cases g <;> rfl
    have state : ((changeFeed c g (withOpened p (kindByte .feedMode) tag s)).feed.get c).state = enters := by
      rw [frame, PerFeed.get_set_same, entered]
      rfl
    have holding := feedHolds_enters (withOpened p (kindByte .feedMode) tag s) c g
    rw [enteredFeed_jogDone, ← entered] at frame
    rw [← entered] at holding
    rw [state] at served
    exact ⟨{ changeFeed c g (withOpened p (kindByte .feedMode) tag s) with ports := s.ports },
      congrArg Host.Outcome.next (takeRequest_answered hp served ports),
      congrArg (fun t : State => { t with ports := s.ports }) frame,
      fun h => same (fun k => h (holding.mp (entered ▸ k))), fun h => raised (entered ▸ holding.mpr h)⟩
end

section
/-! PROOFS. The bytes of the sensor line (R185). -/

namespace Sys2Proof.Machine

open Sys2Proof

/-! ### Bytes of a sensor port frame (sections 12.1 and 12.6) -/

theorem byteSum_append_singleton (bs : List Byte) (b : Byte) : byteSum (bs ++ [b]) = byteSum bs + b := by
  simp [byteSum, List.foldl_append]

/-- Section 12.1: the check byte is the one that makes the sum zero. -/
theorem byteSum_append_eq_zero_iff (bs : List Byte) (check : Byte) : byteSum (bs ++ [check]) = 0 ↔ check = checkByte bs := by
  rw [byteSum_append_singleton, checkByte, eq_neg_iff_add_eq_zero, add_comm]

theorem half_halfBytes (h : Half) : half (h.setWidth 8) ((h >>> 8).setWidth 8) = h := by
  refine BitVec.eq_of_toNat_eq ?_
  have small := h.isLt
  simp only [half, BitVec.toNat_append, BitVec.toNat_setWidth, BitVec.toNat_ushiftRight]
  rw [← Nat.shiftLeft_add_eq_or_of_lt (Nat.mod_lt _ (by decide)), Nat.shiftLeft_eq, Nat.shiftRight_eq_div_pow]
  omega

theorem halves_halfBytes (pixels : List Half) : halves (pixels.map halfBytes).flatten = pixels := by
  induction pixels with
  | nil => rfl
  | cons v vs ih =>
    change half _ _ :: halves (vs.map halfBytes).flatten = _
    rw [half_halfBytes, ih]

theorem length_flatten_halfBytes (pixels : List Half) : (pixels.map halfBytes).flatten.length = 2 * pixels.length := by
  induction pixels with
  | nil => rfl
  | cons v vs ih =>
    simp only [List.map_cons, List.flatten_cons, List.length_append, ih, List.length_cons]
    change 2 + _ = _
    omega

/-! ### The receiver, frame by frame (R185) -/

@[simp] theorem receiveSensor_nil (n : Nat) (s : State) : receiveSensor n [] s = s := by cases n <;> rfl

/-- What is no SYNC is skipped. -/
theorem receiveSensor_skip {b : Byte} (h : b ≠ sensorSync) (n : Nat) (rest : List Byte) (s : State) :
    receiveSensor (n + 1) (b :: rest) s = receiveSensor n rest s := by
  simp only [receiveSensor, if_pos h]

/-- A SYNC that ends the bytes is held. -/
theorem receiveSensor_sync (n : Nat) (s : State) : receiveSensor (n + 1) [sensorSync] s = holdSensorFrame [sensorSync] s := by
  simp [receiveSensor]

/-- A kind byte that opens no frame is dropped with its SYNC. -/
theorem receiveSensor_foreign {kind : Byte} (h : sensorFrameRest kind = none) (n : Nat) (more : List Byte) (s : State) :
    receiveSensor (n + 1) (sensorSync :: kind :: more) s = receiveSensor n more s := by
  simp [receiveSensor, h]

section
variable {kind : Byte} {rest : List Byte} {len : Nat}

/-- A frame that the bytes do not end is held. -/
theorem receiveSensor_held (h : sensorFrameRest kind = some len) (short : rest.length < len) (n : Nat) (s : State) :
    receiveSensor (n + 1) (sensorSync :: kind :: rest) s = holdSensorFrame (sensorSync :: kind :: rest) s := by
  simp [receiveSensor, h, short]

/-- A complete frame is taken when its sum is zero, and the hunt goes on behind it. -/
theorem receiveSensor_complete (h : sensorFrameRest kind = some len) (full : rest.length = len) (n : Nat) (more : List Byte)
    (s : State) :
    receiveSensor (n + 1) (sensorSync :: kind :: (rest ++ more)) s
      = receiveSensor n more (if byteSum (kind :: rest) = 0 then takeSensorFrame kind rest s else s) := by
  subst full
  have enough : ¬ (rest ++ more).length < rest.length := by simp
  simp only [receiveSensor, ne_eq, not_true_eq_false, if_false, h, enough, List.take_left, List.drop_left]
  split <;> rfl

/-- A complete frame is taken when its check fits (section 12.1), and dropped when not. -/
theorem receiveSensor_checked {payload : List Byte} (h : sensorFrameRest kind = some (payload.length + 1)) (check : Byte) (n : Nat)
    (more : List Byte) (s : State) :
    receiveSensor (n + 1) (sensorSync :: (kind :: payload ++ [check] ++ more)) s
      = receiveSensor n more (if check = checkByte (kind :: payload) then takeSensorFrame kind (payload ++ [check]) s else s) := by
  refine (receiveSensor_complete (rest := payload ++ [check]) h (by simp) n more s).trans ?_
  simp only [← List.cons_append, byteSum_append_eq_zero_iff]

end

/-- Bytes that are at most as many as the bound are all taken. -/
theorem receiveSensor_enough {n : Nat} {bytes : List Byte} (h : bytes.length ≤ n) (s : State) :
    receiveSensor n bytes s = receiveSensor bytes.length bytes s := by
  suffices same : ∀ (n m : Nat) (bytes : List Byte) (s : State), bytes.length ≤ n → bytes.length ≤ m →
      receiveSensor n bytes s = receiveSensor m bytes s from same n bytes.length bytes s h le_rfl
  intro n
  induction n with
  | zero =>
    intro m bytes s hn _
    rw [List.length_eq_zero_iff.mp (Nat.le_zero.mp hn), receiveSensor_nil, receiveSensor_nil]
  | succ n ih =>
    intro m bytes s hn hm
    match m, bytes with
    | _, [] => rw [receiveSensor_nil, receiveSensor_nil]
    | 0, _ :: _ => cases hm
    | m + 1, b :: rest =>
      simp only [List.length_cons, Nat.add_le_add_iff_right] at hn hm
      unfold receiveSensor
      split
      · exact ih m rest s hn hm
      · split
        · rfl
        case h_2 kind more =>
          simp only [List.length_cons] at hn hm
          split
          · exact ih m more s (by omega) (by omega)
          case h_2 len _ =>
            have dropped : (more.drop len).length ≤ more.length := by simp
            split
            · rfl
            · split <;> exact ih m _ _ (by omega) (by omega)

/-- R185: bytes without a SYNC are skipped. -/
theorem receiveSensor_noSync (n : Nat) {bytes : List Byte} (h : sensorSync ∉ bytes) (s : State) : receiveSensor n bytes s = s := by
  induction bytes generalizing n with
  | nil => exact receiveSensor_nil n s
  | cons b rest ih =>
    obtain ⟨first, others⟩ := List.ne_and_not_mem_of_not_mem_cons h
    cases n with
    | zero => rfl
    | succ n => rw [receiveSensor_skip (Ne.symm first), ih n others]

/-! ### The frames that the line carries (section 12.6) -/

/-- The bytes of a frame from its kind to before its CHECK, the payload of the length of its kind. -/
def FrameBody (body : List Byte) : Prop :=
  ∃ kind payload, body = kind :: payload ∧ sensorFrameRest kind = some (payload.length + 1)

theorem frameBody_poll (address status : Byte) (reading : Half) : FrameBody ([0x02, address, status] ++ halfBytes reading) :=
  ⟨_, _, rfl, rfl⟩

/-- Section 12.6: a line of 120 pixels fills the frame of its kind. -/
theorem sensorFrameRest_line (counter : Half) {pixels : List Half} (h : pixels.length = 120) :
    sensorFrameRest 0x03 = some ((halfBytes counter ++ (pixels.map halfBytes).flatten).length + 1) := by
  rw [List.length_append, length_flatten_halfBytes, h]
  rfl

theorem frameBody_line (counter : Half) {pixels : List Half} (h : pixels.length = 120) :
    FrameBody ([0x03] ++ halfBytes counter ++ (pixels.map halfBytes).flatten) :=
  ⟨0x03, _, rfl, sensorFrameRest_line counter h⟩

section
variable {body : List Byte}

/-- R185: a frame that breaks off before its CHECK is held. -/
theorem receiveSensor_broken (h : FrameBody body) (k n : Nat) (s : State) :
    receiveSensor (n + 1) (sensorSync :: body.take k) s = holdSensorFrame (sensorSync :: body.take k) s := by
  obtain ⟨kind, payload, rfl, rest⟩ := h
  cases k with
  | zero => exact receiveSensor_sync n s
  | succ k => exact receiveSensor_held rest (Nat.lt_succ_of_le (by simp)) n s

/-- R185: a complete frame whose check is wrong is discarded. -/
theorem receiveSensor_badCheck (h : FrameBody body) {check : Byte} (bad : check ≠ checkByte body) (n : Nat) (more : List Byte)
    (s : State) : receiveSensor (n + 1) (sensorSync :: (body ++ [check] ++ more)) s = receiveSensor n more s := by
  obtain ⟨kind, payload, rfl, rest⟩ := h
  rw [receiveSensor_checked rest, if_neg bad]

end

/-- R185: a complete frame with its check is taken. -/
theorem receiveSensor_goodCheck {kind : Byte} {payload : List Byte} (h : sensorFrameRest kind = some (payload.length + 1)) (n : Nat)
    (s : State) :
    receiveSensor (n + 1) (sensorSync :: (kind :: payload ++ [checkByte (kind :: payload)])) s
      = takeSensorFrame kind (payload ++ [checkByte (kind :: payload)]) s := by
  have checked := receiveSensor_checked h (checkByte (kind :: payload)) n [] s
  rwa [if_pos rfl, receiveSensor_nil, List.append_nil] at checked

/-- R81: a frame of kind 0x02 is the poll reply it spells. -/
theorem takeSensorFrame_poll (address status : Byte) (reading : Half) (check : Byte) (s : State) :
    takeSensorFrame 0x02 ([address, status] ++ halfBytes reading ++ [check]) s = takePollReply address status reading s := by
  change takePollReply address status (half _ _) s = _
  rw [half_halfBytes]

/-- R130: a frame of kind 0x03 is the scan line it spells. -/
theorem takeSensorFrame_line (counter : Half) (pixels : List Half) (check : Byte) (s : State) :
    takeSensorFrame 0x03 (halfBytes counter ++ (pixels.map halfBytes).flatten ++ [check]) s = takeScanLine counter pixels s := by
  change takeScanLine (half _ _) (halves ((pixels.map halfBytes).flatten ++ [check]).dropLast) s = _
  rw [half_halfBytes, List.dropLast_concat, halves_halfBytes]

/-! ### The receiver in its state (R185) -/

/-- R185: bytes that reach a receiver which hunts, or whose frame a gap has ended, are hunted from the first. -/
theorem receiveSensorBytes_afresh {bytes : List Byte} {s : State}
    (h : s.sensorReceiver = .hunting ∨ ∃ taken gap, s.sensorReceiver = .inFrame taken gap ∧ 2 < gap) (hb : bytes ≠ []) :
    receiveSensorBytes bytes s = receiveSensor bytes.length bytes (hearSensor s) := by
  rcases h with hunting | ⟨taken, gap, held, late⟩
  · rw [receiveSensorBytes_hunting hunting, hearSensor_hunting hunting]
  · simp only [receiveSensorBytes, held, if_neg hb, if_neg (Nat.not_lt.mpr late)]
    rfl

/-- R185: bytes that come within 2 ms go on with the frame. -/
theorem receiveSensorBytes_goesOn {taken bytes : List Byte} {gap : Nat} {s : State} (h : s.sensorReceiver = .inFrame taken gap)
    (hg : gap ≤ 2) (hb : bytes ≠ []) : receiveSensorBytes bytes s = receiveSensorBytes (taken ++ bytes) (hearSensor s) := by
  rw [receiveSensorBytes_hunting (s := hearSensor s) rfl]
  simp only [receiveSensorBytes, h, if_neg hb, if_pos (Nat.lt_succ_of_le hg)]
  rfl

end Sys2Proof.Machine
end

section
/-! PROOFS. Scan lines and the SCANNER condition (R130, R131, R134, R185): O49. -/

namespace Sys2Proof.Machine

open Sys2Proof

/-! ### Scan lines (R130, R134) -/

/-- The profiler that has heard a scan line (R130). -/
def heardLine (counter : Half) (p : Profiler) : Profiler := { p with lastCounter := counter.toNat, lineSilence := 0, scanner := false }

/-- R134: the profiler that has accumulated the pixels of a line. -/
def accumulated (pixels : List Half) (p : Profiler) : Profiler :=
  { p with pixels := List.zipWith addPixel p.pixels pixels, lines := min 65535 (p.lines + 1) }

section
variable {counter : Half} {pixels : List Half} {s : State}

/-- R130: a line that is not accumulated is only heard. -/
theorem exec_scanLine_heard (hl : pixels.length = 120) (h : ¬ (s.mode = .paving ∧ s.travel.station = s.travel.highWater)) :
    exec (.scanLine counter pixels) s
      = .next { s with sensorReceiver := .hunting, profiler := heardLine counter s.profiler } :=
  congrArg Host.Outcome.next ((if_pos hl).trans (if_neg h))

/-- R134: in PAVING at the high-water station it is accumulated. -/
theorem exec_scanLine_accumulated (hl : pixels.length = 120) (h : s.mode = .paving ∧ s.travel.station = s.travel.highWater) :
    exec (.scanLine counter pixels) s
      = .next { s with sensorReceiver := .hunting, profiler := accumulated pixels (heardLine counter s.profiler) } :=
  congrArg Host.Outcome.next ((if_pos hl).trans (if_pos h))

end

/-- R134: each pixel of a line goes to its own accumulator. -/
theorem accumulated_pixel {pixels : List Half} {p : Profiler} {k : Nat} {x : Pixel} {v : Half} (hx : p.pixels[k]? = some x)
    (hv : pixels[k]? = some v) : (accumulated pixels p).pixels[k]? = some (addPixel x v) := by
  rw [accumulated, List.getElem?_zipWith, hx, hv]

/-! ### The SCANNER condition (R131) -/

theorem scannerReached_iff (s : State) :
    scannerReached s = true ↔ s.mode = .paving ∧ s.profiler.scanner = false ∧ 2000 ≤ s.profiler.lineSilence := by
  simp [scannerReached, and_assoc]

theorem raiseScanner_eq (s : State) :
    raiseScanner s = { s with
      profiler := { s.profiler with scanner := true }
      events := eventsAfter s [(.profiler, .scanner s.profiler.lastCounter s.profiler.lineSilence s.travel.highWater)] } := by
  rw [raiseScanner, appendEvent_eq, eventsAfter_congr (s := s) _ rfl rfl rfl rfl rfl]
  rfl

theorem exec_scanner_raised {s : State} (h : scannerReached s = true) : exec .scanner s = .next (raiseScanner s) :=
  congrArg Host.Outcome.next (if_pos h)

theorem exec_scanner_quiet {s : State} (h : ¬ scannerReached s = true) : exec .scanner s = .next s :=
  congrArg Host.Outcome.next (if_neg h)

/-! ### The end of a gap (R185) -/

theorem exec_sensorFrameGapExpiry (s : State) :
    exec .sensorFrameGapExpiry s = .next (if gapReached s.sensorReceiver then hearSensor s else s) := rfl

/-! ### Frames given byte by byte (R185) -/

section
variable {s : State} (afresh : s.sensorReceiver = .hunting ∨ ∃ taken gap, s.sensorReceiver = .inFrame taken gap ∧ 2 < gap)
include afresh

/-- R185: a good frame of kind 0x02 is a poll reply. -/
theorem exec_sensorFrameDiscard_poll (address status : Byte) (reading : Half) :
    let body : List Byte := [0x02, address, status] ++ halfBytes reading
    exec (.sensorFrameDiscard ([sensorSync] ++ body ++ [checkByte body])) s = exec (.pollReply address status reading) s := by
  intro body
  refine congrArg Host.Outcome.next ((receiveSensorBytes_afresh afresh (List.cons_ne_nil _ _)).trans ?_)
  exact (receiveSensor_goodCheck (kind := 0x02) rfl _ _).trans (takeSensorFrame_poll address status reading _ _)

/-- R185: a good frame of kind 0x03 is a scan line. -/
theorem exec_sensorFrameDiscard_line (counter : Half) {pixels : List Half} (h : pixels.length = 120) :
    let body : List Byte := [0x03] ++ halfBytes counter ++ (pixels.map halfBytes).flatten
    exec (.sensorFrameDiscard ([sensorSync] ++ body ++ [checkByte body])) s = exec (.scanLine counter pixels) s := by
  intro body
  refine congrArg Host.Outcome.next ((receiveSensorBytes_afresh afresh (List.cons_ne_nil _ _)).trans ?_)
  exact (receiveSensor_goodCheck (sensorFrameRest_line counter h) _ _).trans (takeSensorFrame_line counter pixels _ _)

end

section
variable {s : State} (hunting : s.sensorReceiver = .hunting)
include hunting

theorem exec_sensorFrameDiscard_hunting (bytes : List Byte) :
    exec (.sensorFrameDiscard bytes) s = .next (receiveSensor bytes.length bytes s) :=
  congrArg Host.Outcome.next (receiveSensorBytes_hunting hunting)

/-- R185: a kind byte other than 0x02 and 0x03 ends its frame. -/
theorem exec_sensorFrameDiscard_foreign {kind : Byte} (poll : kind ≠ 0x02) (line : kind ≠ 0x03) (bytes : List Byte) :
    exec (.sensorFrameDiscard (sensorSync :: kind :: bytes)) s = exec (.sensorFrameDiscard bytes) s := by
  have foreign : sensorFrameRest kind = none := by rw [sensorFrameRest, if_neg poll, if_neg line]
  rw [exec_sensorFrameDiscard_hunting hunting, exec_sensorFrameDiscard_hunting hunting, List.length_cons,
    receiveSensor_foreign foreign, receiveSensor_enough (by simp)]

/-- R185: a complete frame with a wrong check is dropped, and the hunt goes on behind it. -/
theorem exec_sensorFrameDiscard_badCheck {body : List Byte} (h : FrameBody body) {check : Byte} (bad : check ≠ checkByte body)
    (more : List Byte) :
    exec (.sensorFrameDiscard ([sensorSync] ++ body ++ [check] ++ more)) s = exec (.sensorFrameDiscard more) s := by
  rw [exec_sensorFrameDiscard_hunting hunting, exec_sensorFrameDiscard_hunting hunting]
  have fewer : more.length ≤ (body ++ [check] ++ more).length := by simp only [List.length_append]; omega
  exact congrArg Host.Outcome.next ((receiveSensor_badCheck h bad _ more s).trans (receiveSensor_enough fewer s))

/-- R185: a frame that breaks off is held. -/
theorem exec_sensorFrameDiscard_broken {body : List Byte} (h : FrameBody body) (n : Nat) :
    exec (.sensorFrameDiscard ([sensorSync] ++ body.take n)) s
      = .next { s with sensorReceiver := .inFrame ([sensorSync] ++ body.take n) 0 } := by
  rw [exec_sensorFrameDiscard_hunting hunting]
  exact congrArg Host.Outcome.next (receiveSensor_broken h n _ s)

end

end Sys2Proof.Machine

open Sys2Proof Sys2Proof.Machine

/-- Settles O49: a scan line by its two cases, the SCANNER moment by `scannerReached_iff`, and the sensor line by the lemmas on its
receiver. -/
theorem scanLinesAreAccumulated : Obligations.ScanLinesAreAccumulated := by
  unfold Obligations.ScanLinesAreAccumulated
  intro s
  refine ⟨fun counter pixels hl => ⟨exec_scanLine_heard hl, fun hm hs => ?_⟩, fun hm hn ht => ?_, fun h => ?_, fun taken gap hr => ?_,
    fun hunting => ?_,
    fun afresh => ⟨exec_sensorFrameDiscard_poll afresh, fun counter pixels hl => exec_sensorFrameDiscard_line afresh counter hl⟩⟩
  · exact ⟨_, exec_scanLine_accumulated hl ⟨hm, hs⟩, rfl, fun k x v hx hv => accumulated_pixel hx hv⟩
  · rw [exec_scanner_raised ((scannerReached_iff s).mpr ⟨hm, hn, ht⟩), raiseScanner_eq]
  · refine exec_scanner_quiet fun reached => ?_
    obtain ⟨paving, quiet, -⟩ := (scannerReached_iff s).mp reached
    exact h.elim (fun other => other paving) (fun standing => by simp [quiet] at standing)
  · have reached : gapReached s.sensorReceiver = decide (2 < gap) := by rw [hr, gapReached_eq]
    rw [exec_sensorFrameGapExpiry, reached]
    refine ⟨fun hg => ⟨?_, fun bytes hb => congrArg Host.Outcome.next (receiveSensorBytes_goesOn hr hg hb)⟩,
      fun hg => ⟨?_, fun bytes hb => ?_⟩⟩
    · rw [if_neg (by simpa using hg)]
    · rw [if_pos (by simpa using hg)]
      rfl
    · refine congrArg Host.Outcome.next ((receiveSensorBytes_afresh (.inr ⟨taken, gap, hr, hg⟩) hb).trans ?_)
      exact (receiveSensorBytes_hunting (s := hearSensor s) rfl).symm
  · refine ⟨?_, fun bytes hb => ?_, fun kind bytes poll line => exec_sensorFrameDiscard_foreign hunting poll line bytes,
      fun body spelled => ?_⟩
    · rw [exec_sensorFrameGapExpiry, hunting]
      rfl
    · rw [exec_sensorFrameDiscard_hunting hunting, receiveSensor_noSync _ hb]
    · have framed : FrameBody body := by
        rcases spelled with ⟨address, status, reading, rfl⟩ | ⟨counter, pixels, hl, rfl⟩
        · exact frameBody_poll address status reading
        · exact frameBody_line counter hl
      exact ⟨fun check more bad => exec_sensorFrameDiscard_badCheck hunting framed bad more,
        fun n _ => exec_sensorFrameDiscard_broken hunting framed n⟩
end

section
/-! PROOFS. MARK (R143): O50. -/

namespace Sys2Proof.Machine

open Sys2Proof

section
variable {p : Port} {code : Byte} {s : State}

theorem serveMark_notPermitted (h : p = .ru) : serveMark p code s = refuse .notPermitted s := if_pos h

theorem serveMark_unknown (h : p ≠ .ru) (hc : code = 0) : serveMark p code s = refuse .unknown s := by
  rw [serveMark, if_neg h, if_pos hc]

theorem serveMark_state (h : p ≠ .ru) (hc : code ≠ 0) (hm : s.mode ≠ .paving ∧ s.mode ≠ .paused) :
    serveMark p code s = refuse .state s := by
  rw [serveMark, if_neg h, if_neg hc, if_pos hm]

theorem serveMark_full (h : p ≠ .ru) (hc : code ≠ 0) (hm : s.mode = .paving ∨ s.mode = .paused)
    (full : 2 ≤ s.profiler.marks.length) : serveMark p code s = refuse .full s := by
  rw [serveMark, if_neg h, if_neg hc, if_neg (by tauto), if_pos full]

/-- R143: an accepted MARK joins the interval's marks. -/
theorem serveMark_taken (h : p ≠ .ru) (hc : code ≠ 0) (hm : s.mode = .paving ∨ s.mode = .paused)
    (free : s.profiler.marks.length < 2) :
    serveMark p code s
      = done (markReply (s.profiler.marks.length + 1) s.profiler.nextMark)
          (setProfiler { s.profiler with marks := s.profiler.marks ++ [{ code := code, port := p }] } s) := by
  rw [serveMark, if_neg h, if_neg hc, if_neg (by tauto), if_neg (Nat.not_le.mpr free)]

end

/-- Section 12.2: the slot stands first in the reply, before the next mark and its validity byte. -/
theorem markReply_eq (slot : Nat) (mark : Option Int) :
    markReply slot mark
      = u8 slot ++ (match mark with | some m => i32 m ++ [0] | none => [0xFF, 0xFF, 0xFF, 0xFF, 0xFF]) := by
  cases mark with
  | none => rfl
  | some m => exact List.append_assoc _ _ _

end Sys2Proof.Machine

open Sys2Proof Sys2Proof.Machine

/-- Settles O50: the checks of `serveMark` in their order, each on the state with the port opened. -/
theorem markTakesASlot : Obligations.MarkTakesASlot := by
  unfold Obligations.MarkTakesASlot
  intro p tag code s hp refusal
  obtain ⟨hs, hf, -⟩ := (portOpen_iff s p).mp hp
  have refused {status : Status} (h : serveMark p code (withOpened p (kindByte .mark) tag s)
      = refuse status (withOpened p (kindByte .mark) tag s)) : exec (.mark p tag code) s = refusal status :=
    congrArg Host.Outcome.next (takeRequest_refuses hp h)
  refine ⟨fun h => refused (serveMark_notPermitted h), fun h hc => refused (serveMark_unknown h hc),
    fun h hc ho hd => refused (serveMark_state h hc ⟨ho, hd⟩), fun h hc hm => ?_⟩
  refine ⟨fun full => refused (serveMark_full h hc hm full), fun free => ?_⟩
  have served := serveMark_taken (s := withOpened p (kindByte .mark) tag s) h hc hm free
  rw [markReply_eq] at served
  exact congrArg Host.Outcome.next (takeRequest_served hf hs served)
end

section
/-! PROOFS. The reduction of an interval and its profile record (R138 to R142): O52. -/

namespace Sys2Proof.Machine

open Sys2Proof

/-! ### The mean of whole numbers (R140) -/

/-- A mean rounded half up is no less than a common lower bound. -/
theorem le_meanHalfUp {xs : List Nat} {lo : Nat} (hx : xs ≠ []) (h : ∀ x ∈ xs, lo ≤ x) : lo ≤ meanHalfUp xs := by
  have positive : 0 < xs.length := List.length_pos_of_ne_nil hx
  have sum : xs.length * lo ≤ xs.sum := by simpa using List.card_nsmul_le_sum xs lo h
  rw [meanHalfUp, divHalfUp_eq _ positive, Nat.le_div_iff_mul_le (by omega)]
  calc lo * (2 * xs.length) = 2 * (xs.length * lo) := by ring
    _ ≤ 2 * xs.sum + xs.length := by omega

/-- A mean rounded half up is no more than a common upper bound. -/
theorem meanHalfUp_le {xs : List Nat} {hi : Nat} (hx : xs ≠ []) (h : ∀ x ∈ xs, x ≤ hi) : meanHalfUp xs ≤ hi := by
  have positive : 0 < xs.length := List.length_pos_of_ne_nil hx
  have sum : xs.sum ≤ xs.length * hi := by simpa using List.sum_le_card_nsmul xs hi h
  rw [meanHalfUp, divHalfUp_eq _ positive, ← Nat.lt_succ_iff, Nat.div_lt_iff_lt_mul (by omega)]
  calc 2 * xs.sum + xs.length < 2 * (xs.length * hi) + 2 * xs.length := by omega
    _ = (hi + 1) * (2 * xs.length) := by ring

/-! ### The valid pixels (R138) -/

/-- R138: a valid mean stands at the centre of a pixel within the edges less the margin. -/
theorem validMeans_within {s : State} {m : Int × Nat} (h : m ∈ validMeans s) :
    edgeL s + s.settings.edgeMargin ≤ m.1 ∧ m.1 ≤ edgeR s - s.settings.edgeMargin := by
  obtain ⟨⟨k, p⟩, -, kept⟩ := List.mem_filterMap.mp h
  dsimp only at kept
  split at kept
  case isTrue valid =>
    cases kept
    simp only [pixelValid, Bool.and_eq_true, decide_eq_true_eq] at valid
    exact ⟨valid.1.2, valid.2⟩
  case isFalse => cases kept

theorem validMeans_length_le (s : State) : (validMeans s).length ≤ 120 := by
  refine (List.length_filterMap_le _ _).trans ?_
  rw [List.length_zip, List.length_range]
  exact min_le_left _ _

/-! ### The reduction (R139 to R141) -/

theorem segmentCount_le (s : State) : segmentCount s ≤ 16 := min_le_left _ _

/-- R141: without a line or a valid pixel there are no figures. -/
theorem reduce_stale {s : State} (h : s.profiler.lines = 0 ∨ validMeans s = []) : reduce s = staleReduction := by
  unfold reduce
  dsimp only
  split
  · rfl
  case h_2 means =>
    refine if_pos (h.resolve_right fun empty => ?_)
    rw [empty] at means
    cases means

/-- R140: the figures of valid means with their least and greatest. -/
def figures (s : State) (lo hi : Nat) : Reduced :=
  let values := (validMeans s).map (·.2)
  let cold := (values.filter fun m => decide (m < s.settings.coldLimit)).length
  { matMin := lo
    matMax := hi
    matMean := meanHalfUp values
    cold := cold
    flags := (if 0 < cold then 64 else 0) + (if s.settings.diffLimit ≤ hi - lo then 128 else 0)
    segments := (List.range (segmentCount s)).map (segmentValue s (validMeans s)) }

/-- R139, R140: with a line and a valid pixel the figures are those of the least and the greatest mean. -/
theorem reduce_figures {s : State} (hl : s.profiler.lines ≠ 0) (hm : validMeans s ≠ []) :
    ∃ lo hi, ((validMeans s).map (·.2)).min? = some lo ∧ ((validMeans s).map (·.2)).max? = some hi ∧ reduce s = figures s lo hi := by
  unfold reduce figures
  dsimp only
  split
  case h_1 empty => exact absurd (List.map_eq_nil_iff.mp empty) hm
  case h_2 v vs values =>
    rw [values]
    exact ⟨vs.foldl min v, vs.foldl max v, rfl, rfl, if_neg hl⟩

/-- R140: the cold count of the means is that of the pixels that carry them. -/
theorem figures_cold (s : State) (lo hi : Nat) :
    (figures s lo hi).cold = ((validMeans s).filter (fun m => m.2 < s.settings.coldLimit)).length := by
  change ((_ : List Nat).filter _).length = _
  rw [List.filter_map, List.length_map]
  rfl

theorem figures_cold_le (s : State) (lo hi : Nat) : (figures s lo hi).cold ≤ 120 := by
  rw [figures_cold]
  exact (List.length_filter_le _ _).trans (validMeans_length_le s)

theorem figures_segments_length (s : State) (lo hi : Nat) : (figures s lo hi).segments.length = segmentCount s := by
  simp [figures]

/-- R139: a record carries at most 16 segments. -/
theorem reduce_segments_length_le (s : State) : (reduce s).segments.length ≤ 16 := by
  by_cases stale : s.profiler.lines = 0 ∨ validMeans s = []
  · rw [reduce_stale stale]
    exact Nat.zero_le _
  · obtain ⟨lined, valid⟩ := not_or.mp stale
    obtain ⟨lo, hi, -, -, figured⟩ := reduce_figures lined valid
    rw [figured, figures_segments_length]
    exact segmentCount_le s

end Sys2Proof.Machine

open Sys2Proof Sys2Proof.Machine

/-- Settles O52: `reduce_stale` without a line or a valid pixel, and `reduce_figures` with both; the mean lies between the least and the
greatest value, which are values themselves. -/
theorem reductionOrdersFigures : Obligations.ReductionOrdersFigures := by
  unfold Obligations.ReductionOrdersFigures
  intro s n rec0 means stale
  have staleMeans : stale = true ↔ s.profiler.lines = 0 ∨ validMeans s = [] := by simp [stale, means]
  refine ⟨reduce_segments_length_le s, fun h => ?_, fun h => ?_, fun m hm => validMeans_within hm,
    rfl, rfl, rfl, rfl, rfl, rfl, rfl, rfl, rfl, fun d => ?_, fun c => ?_, fun z => ?_⟩
  · have reduced := reduce_stale (staleMeans.mp h)
    simp [rec0, buildProfile, reduced, staleReduction]
  · obtain ⟨lined, valid⟩ := not_or.mp (mt staleMeans.mpr (by simp [h]))
    obtain ⟨lo, hi, least, greatest, reduced⟩ := reduce_figures lined valid
    obtain ⟨loMem, loLe⟩ := List.min?_eq_some_iff.mp least
    obtain ⟨hiMem, leHi⟩ := List.max?_eq_some_iff.mp greatest
    have values : (validMeans s).map (·.2) ≠ [] := mt List.map_eq_nil_iff.mp valid
    have built : rec0 = { buildProfile s n with
        flags := flagMask s.profiler.flags + (figures s lo hi).flags, matMin := lo, matMax := hi
        matMean := meanHalfUp ((validMeans s).map (·.2)), cold := (figures s lo hi).cold
        segments := (figures s lo hi).segments } := by
      simp only [rec0, buildProfile, reduced, figures]
    rw [built]
    exact ⟨figures_segments_length s lo hi, le_meanHalfUp values loLe, meanHalfUp_le values leHi,
      List.mem_map.mp loMem, List.mem_map.mp hiMem,
      fun m hm => ⟨loLe _ (List.mem_map_of_mem hm), leHi _ (List.mem_map_of_mem hm)⟩,
      figures_cold s lo hi, figures_cold_le s lo hi, (Nat.add_assoc _ _ _).symm⟩
  · cases d <;> exact ⟨rfl, rfl⟩
  · cases c <;> rfl
  · cases z <;> rfl
end

section
/-! PROOFS. One record area: an append, an acknowledgment and an emptying keep it within its capacity, numbered without a gap, with
sound ack point and counts (R145 to R148, R153, R155). -/

namespace Sys2Proof.Machine

open Sys2Proof

section
variable {α : Type} {capacity : Nat} {a : Area α}

/-! ### The rules of an area -/

/-- R146: numbers without a gap are a range. -/
theorem numberedFrom_iff (n : Nat) (numbers : List Nat) :
    numberedFrom n numbers = true ↔ numbers = List.range' n numbers.length := by
  induction numbers generalizing n with
  | nil => simp [numberedFrom]
  | cons k rest ih => simp [numberedFrom, ih, List.range'_succ]

/-- R146, R148: what holds of an area whose records carry `numbers`. -/
structure AreaFits (capacity : Nat) (numbers : List Nat) (a : Area α) : Prop where
  within : a.held.length ≤ capacity
  given : a.held.length ≤ a.newest
  top : a.newest ≤ top32
  numbered : numbers = List.range' (oldestOf a) numbers.length
  oldest : oldestOf a ≤ a.ackPoint + 1
  acked : a.ackPoint ≤ a.newest
  appended : a.appended = a.held.length + a.overwritten
  counted : a.appended ≤ a.newest
  lost : a.lost ≤ a.overwritten
  lostAtAck : a.lostAtAck ≤ a.lost

theorem areaSound_iff (capacity : Nat) (numbers : List Nat) (a : Area α) :
    areaSound capacity numbers a = true ↔ AreaFits capacity numbers a := by
  simp only [areaSound, Bool.and_eq_true, decide_eq_true_eq, numberedFrom_iff]
  constructor
  · rintro ⟨⟨⟨⟨⟨⟨⟨⟨⟨within, given⟩, top⟩, numbered⟩, oldest⟩, acked⟩, appended⟩, counted⟩, lost⟩, lostAtAck⟩
    exact ⟨within, given, top, numbered, oldest, acked, appended, counted, lost, lostAtAck⟩
  · rintro ⟨within, given, top, numbered, oldest, acked, appended, counted, lost, lostAtAck⟩
    exact ⟨⟨⟨⟨⟨⟨⟨⟨⟨within, given⟩, top⟩, numbered⟩, oldest⟩, acked⟩, appended⟩, counted⟩, lost⟩, lostAtAck⟩

/-! ### An append (R147, R148) -/

theorem appendTo_free {build : Nat → α} (h : areaExhausted a = false) (free : a.held.length < capacity) :
    appendTo capacity build a
      = { a with
          held := a.held ++ [build (a.newest + 1)], newest := a.newest + 1, appended := satInc top32 a.appended } := by
  simp [appendTo, h, not_le.mpr free]

/-- R148: an append to a full area leaves the ack point at or above the record it overwrites; what it moves up counts as lost. -/
theorem appendTo_full {build : Nat → α} (h : areaExhausted a = false) (full : capacity ≤ a.held.length) :
    ∃ lost, (lost = a.lost ∨ lost = satInc top32 a.lost)
      ∧ appendTo capacity build a
        = { a with
            held := a.held.drop 1 ++ [build (a.newest + 1)], newest := a.newest + 1
            appended := satInc top32 a.appended, overwritten := satInc top32 a.overwritten, lost := lost
            ackPoint := max a.ackPoint (oldestOf a) } := by
  by_cases below : a.ackPoint < oldestOf a
  · exact ⟨_, .inr rfl, by simp [appendTo, appendLoses, h, full, below, max_eq_right below.le]⟩
  · exact ⟨_, .inl rfl, by simp [appendTo, appendLoses, h, full, below, max_eq_left (not_lt.mp below)]⟩

/-- The oldest number is the newest of what no longer stands, plus one. -/
theorem oldestOf_add (h : a.held.length ≤ a.newest) : oldestOf a + a.held.length = a.newest + 1 := by
  unfold oldestOf
  omega

section
variable {build : Nat → α} {sequence : α → Nat}

/-- R146: a record with the next number goes on with a range. -/
theorem map_append_range {held : List α} {first n : Nat} (h : held.map sequence = List.range' first (held.map sequence).length)
    (last : first + held.length = n) (numbers : ∀ n, sequence (build n) = n) :
    (held ++ [build n]).map sequence = List.range' first ((held ++ [build n]).map sequence).length := by
  rw [List.length_map, List.length_append, List.length_singleton, List.range'_concat, List.map_append, h, List.map_singleton,
    numbers, List.length_map, one_mul, last]

/-- An append that finds a place free. -/
theorem AreaFits.append_free (h : AreaFits capacity (a.held.map sequence) a) (room : areaExhausted a = false)
    (free : a.held.length < capacity) (numbers : ∀ n, sequence (build n) = n) :
    AreaFits capacity ((appendTo capacity build a).held.map sequence) (appendTo capacity build a) := by
  obtain ⟨-, given, -, numbered, oldest, acked, appended, counted, lost, lostAtAck⟩ := h
  have stands := oldestOf_add given
  rw [appendTo_free room free]
  simp only [areaExhausted, decide_eq_false_iff_not, not_le] at room
  rw [satInc_of_lt (by omega : a.appended < top32)]
  have same : oldestOf (α := α) { a with
      held := a.held ++ [build (a.newest + 1)], newest := a.newest + 1, appended := a.appended + 1 } = oldestOf a := by
    simp only [oldestOf, List.length_append, List.length_singleton]
    omega
  constructor
  case numbered => exact same ▸ map_append_range numbered stands numbers
  all_goals
    simp only [same, List.length_append, List.length_singleton]
    omega

/-- An append that overwrites the oldest record. -/
theorem AreaFits.append_full (h : AreaFits capacity (a.held.map sequence) a) (room : areaExhausted a = false)
    (full : capacity ≤ a.held.length) (positive : 0 < capacity) (numbers : ∀ n, sequence (build n) = n) :
    AreaFits capacity ((appendTo capacity build a).held.map sequence) (appendTo capacity build a) := by
  obtain ⟨within, given, -, numbered, oldest, acked, appended, counted, lost, lostAtAck⟩ := h
  have stands := oldestOf_add given
  obtain ⟨lostNow, loss, after⟩ := appendTo_full (build := build) room full
  simp only [areaExhausted, decide_eq_false_iff_not, not_le] at room
  rw [satInc_of_lt (by omega : a.lost < top32)] at loss
  rw [after, satInc_of_lt (by omega : a.appended < top32), satInc_of_lt (by omega : a.overwritten < top32)]
  obtain ⟨first, rest, held⟩ := List.exists_cons_of_length_pos (positive.trans_le full)
  have length : a.held.length = rest.length + 1 := by rw [held]; rfl
  have tail : rest.map sequence = List.range' (oldestOf a + 1) (rest.map sequence).length := by
    rw [held, List.map_cons, List.length_cons, List.range'_succ] at numbered
    exact (List.cons.inj numbered).2
  rw [show a.held.drop 1 = rest by rw [held]; rfl]
  have next : oldestOf (α := α) { a with
      held := rest ++ [build (a.newest + 1)], newest := a.newest + 1, appended := a.appended + 1
      overwritten := a.overwritten + 1, lost := lostNow, ackPoint := max a.ackPoint (oldestOf a) } = oldestOf a + 1 := by
    simp only [oldestOf, List.length_append, List.length_singleton]
    omega
  constructor
  case numbered => exact next ▸ map_append_range tail (by omega) numbers
  all_goals
    simp only [next, List.length_append, List.length_singleton]
    omega

/-- R147, R148: an append keeps the rules of an area. -/
theorem AreaFits.append (h : AreaFits capacity (a.held.map sequence) a) (positive : 0 < capacity)
    (numbers : ∀ n, sequence (build n) = n) :
    AreaFits capacity ((appendTo capacity build a).held.map sequence) (appendTo capacity build a) := by
  cases room : areaExhausted a
  · rcases lt_or_ge a.held.length capacity with free | full
    · exact h.append_free room free numbers
    · exact h.append_full room full positive numbers
  · rwa [appendTo_exhausted room]

end

/-! ### The other operations of an area (R153, R155) -/

/-- R149, R153: the ack point moved up, the lost count taken, and the loss run ended below the capacity. -/
theorem acknowledge_eq (capacity sequence : Nat) (a : Area α) :
    acknowledge capacity sequence a
      = { a with
          ackPoint := max a.ackPoint sequence, lostAtAck := a.lost
          firstLost := if a.newest - max a.ackPoint sequence < capacity then none else a.firstLost } := by
  by_cases below : a.newest - max a.ackPoint sequence < capacity
  · simp [acknowledge, endLossRun, ackArea, unacked, below]
  · simp [acknowledge, endLossRun, ackArea, unacked, below]

/-- R153: an acknowledgment of a number that was given. -/
theorem AreaFits.acknowledge {numbers : List Nat} {sequence : Nat} (h : AreaFits capacity numbers a)
    (given : sequence ≤ a.newest) : AreaFits capacity numbers (acknowledge capacity sequence a) := by
  obtain ⟨within, held, top, numbered, oldest, acked, appended, counted, lost, -⟩ := h
  rw [acknowledge_eq]
  exact ⟨within, held, top, numbered, oldest.trans (Nat.succ_le_succ (le_max_left _ _)), max_le acked given, appended, counted, lost,
    le_refl _⟩

/-- R155: an emptied area, whatever its capacity. -/
theorem clearArea_fits (capacity : Nat) (top : a.newest ≤ top32) : AreaFits capacity [] (clearArea a) where
  within := Nat.zero_le _
  given := Nat.zero_le _
  top := top
  numbered := rfl
  oldest := le_refl _
  acked := le_refl _
  appended := rfl
  counted := Nat.zero_le _
  lost := le_refl _
  lostAtAck := le_refl _

theorem areaUnopened_iff (a : Area α) : areaUnopened a = true ↔ a.held = [] ∧ a.newest = 0 := by
  simp [areaUnopened]

/-- R147: an area that took no append fits any capacity. -/
theorem AreaFits.recapacitated {numbers : List Nat} (h : AreaFits capacity numbers a) (unopened : areaUnopened a = true)
    (new : Nat) : AreaFits new numbers a := by
  obtain ⟨-, given, top, numbered, oldest, acked, appended, counted, lost, lostAtAck⟩ := h
  obtain ⟨empty, -⟩ := (areaUnopened_iff a).mp unopened
  exact ⟨by simp [empty], given, top, numbered, oldest, acked, appended, counted, lost, lostAtAck⟩

end

end Sys2Proof.Machine
end

section
/-! PROOFS. What the rules of the record memory read of the state (`memoryView`), and what every block leaves of them: event records are
appended behind those that stand, and little else writes the memory (R145 to R149). -/

namespace Sys2Proof.Machine

open Sys2Proof

/-! ### The rules of the record memory -/

/-- R145 to R148: the rules of both areas, the mode apart. -/
structure MemoryFits (s : State) : Prop where
  capacity : capacityGood s.settings = true
  array : arrayGood s.store.array = true
  snapshot : snapshotGood s.store.state = true
  mat : AreaFits (capacityOf s .mat) (s.mat.held.map (·.sequence)) s.mat
  events : AreaFits (capacityOf s .event) (s.events.held.map (·.sequence)) s.events
  unopened : s.recordsOpen = false → areaUnopened s.mat = true ∧ areaUnopened s.events = true

theorem recordsSound_iff (s : State) :
    recordsSound s = true ↔ MemoryFits s ∧ (s.mode = .starting → s.recordsOpen = false) := by
  have opened : (s.recordsOpen = true ∨ areaUnopened s.mat = true ∧ areaUnopened s.events = true)
      ↔ (s.recordsOpen = false → areaUnopened s.mat = true ∧ areaUnopened s.events = true) := by
    cases s.recordsOpen <;> simp
  have closed : (s.mode ≠ .starting ∨ s.recordsOpen = false) ↔ (s.mode = .starting → s.recordsOpen = false) := by
    rw [ne_eq, ← imp_iff_not_or]
  simp only [recordsSound, Bool.and_eq_true, Bool.or_eq_true, areaSound_iff, Bool.not_eq_true', decide_eq_true_eq, opened, closed]
  constructor
  · rintro ⟨⟨⟨⟨⟨⟨capacity, array⟩, snapshot⟩, mat⟩, events⟩, unopened⟩, mode⟩
    exact ⟨⟨capacity, array, snapshot, mat, events, unopened⟩, mode⟩
  · rintro ⟨⟨capacity, array, snapshot, mat, events, unopened⟩, mode⟩
    exact ⟨⟨⟨⟨⟨⟨capacity, array⟩, snapshot⟩, mat⟩, events⟩, unopened⟩, mode⟩

/-- R145: both areas have places. -/
theorem MemoryFits.places {s : State} (h : MemoryFits s) : 0 < capacityOf s .mat ∧ 0 < capacityOf s .event := by
  have range := h.capacity
  simp only [capacityGood, Bool.and_eq_true, decide_eq_true_eq] at range
  simp only [capacityOf]
  omega

/-! ### Records appended (R147, R149) -/

/-- R147: an event record is appended, or discarded while the memory is not open. -/
theorem MemoryFits.appendEvent {s : State} (h : MemoryFits s) (o : Origin) (e : Event) : MemoryFits (appendEvent o e s) := by
  unfold Machine.appendEvent
  split
  · next opened =>
    have places := h.places.2
    obtain ⟨capacity, array, snapshot, mat, events, -⟩ := h
    exact ⟨capacity, array, snapshot, mat, events.append places fun _ => rfl, fun closed => by cases opened.symm.trans closed⟩
  · exact h

/-- Records handed on one after another. -/
theorem MemoryFits.eventsAfter {s : State} (h : MemoryFits s) (later : List (Origin × Event)) :
    MemoryFits { s with events := eventsAfter s later } := by
  induction later using List.reverseRecOn with
  | nil => exact h
  | append_singleton xs x ih =>
    rw [eventsAfter_append, ← appendEvent_events]
    exact (appendEvent_eq x.1 x.2 _ ▸ ih.appendEvent x.1 x.2)

/-- R149: the first loss of a run is noted in the MAT area's own field, with an event record. -/
theorem MemoryFits.noteMatLoss {s : State} (h : MemoryFits s) (before : Area ProfileRecord) : MemoryFits (noteMatLoss before s) := by
  unfold Machine.noteMatLoss
  split
  · refine MemoryFits.appendEvent ?_ _ _
    obtain ⟨capacity, array, snapshot, mat, events, unopened⟩ := h
    obtain ⟨within, given, top, numbered, oldest, acked, appended, counted, lost, lostAtAck⟩ := mat
    exact ⟨capacity, array, snapshot, ⟨within, given, top, numbered, oldest, acked, appended, counted, lost, lostAtAck⟩, events,
      unopened⟩
  · exact h

/-- R147: a profile record with the number it is given. -/
theorem MemoryFits.appendProfile {s : State} (h : MemoryFits s) {build : Nat → ProfileRecord}
    (numbers : ∀ n, (build n).sequence = n) : MemoryFits (appendProfile build s) := by
  unfold Machine.appendProfile
  split
  · next opened =>
    refine MemoryFits.noteMatLoss ?_ _
    have places := h.places.1
    obtain ⟨capacity, array, snapshot, mat, events, -⟩ := h
    exact ⟨capacity, array, snapshot, mat.append places numbers, events, fun closed => by cases opened.symm.trans closed⟩
  · exact h

/-! ### What the rules read -/

/-- What the rules of the record memory read: both areas, the boundary, the store, whether the memory is open, and the mode. Every other
field stands at its reset value. -/
def memoryView (s : State) : State :=
  { State.reset with
    mode := s.mode, mat := s.mat, events := s.events, recordsOpen := s.recordsOpen, store := s.store
    settings := { defaultSettings with matCapacity := s.settings.matCapacity } }

theorem memoryView_congr {s t : State} (mode : t.mode = s.mode) (mat : t.mat = s.mat) (events : t.events = s.events)
    (opened : t.recordsOpen = s.recordsOpen) (store : t.store = s.store)
    (boundary : t.settings.matCapacity = s.settings.matCapacity) : memoryView t = memoryView s := by
  simp only [memoryView, mode, mat, events, opened, store, boundary]

/-- What is left of the view where event records are appended under one boundary: the MAT area and the store. -/
def bankView (s : State) : State := { State.reset with mat := s.mat, store := s.store }

/-- The rules of the areas read both areas, the store, the boundary and whether the memory is open. -/
theorem MemoryFits.of_parts {s t : State} (h : MemoryFits s) (mat : t.mat = s.mat) (events : t.events = s.events)
    (opened : t.recordsOpen = s.recordsOpen) (store : t.store = s.store)
    (boundary : t.settings.matCapacity = s.settings.matCapacity) : MemoryFits t where
  capacity := by simpa only [capacityGood, boundary] using h.capacity
  array := store ▸ h.array
  snapshot := store ▸ h.snapshot
  mat := by simpa only [capacityOf, boundary, mat] using h.mat
  events := by simpa only [capacityOf, boundary, events] using h.events
  unopened := by simpa only [opened, mat, events] using h.unopened

/-- R147: where event records are all that reached the memory, its rules stand. -/
theorem MemoryFits.of_appends {s t : State} (h : MemoryFits s) (a : Appends s t) (e : bankView t = bankView s) : MemoryFits t := by
  obtain ⟨⟨-, -, boundary, opened⟩, later, records⟩ := a
  have mat : t.mat = s.mat := by have k := congrArg State.mat e; exact k
  have store : t.store = s.store := by have k := congrArg State.store e; exact k
  exact (h.eventsAfter later).of_parts mat records opened store boundary

/-! ### What an operation owes -/

/-- From `s` to `t` the rules of the record memory are kept. -/
def RecordsKept (s t : State) : Prop := recordsSound s = true → recordsSound t = true

theorem RecordsKept.refl (s : State) : RecordsKept s s := id

theorem RecordsKept.of_eq {s t : State} (e : t = s) : RecordsKept s t := e ▸ .refl s

theorem RecordsKept.trans {s t u : State} (h : RecordsKept s t) (k : RecordsKept t u) : RecordsKept s u := fun sound => k (h sound)

theorem RecordsKept.of_view {s t : State} (e : memoryView t = memoryView s) : RecordsKept s t := (congrArg recordsSound e).trans

/-- An operation taken after one that the rules do not see. -/
theorem RecordsKept.after {s t u : State} (h : RecordsKept t u) (e : memoryView t = memoryView s) : RecordsKept s u :=
  (RecordsKept.of_view e).trans h

/-- Where the rules of the areas are kept and STARTING is not entered, all are. -/
theorem RecordsKept.of_fits {s t : State} (fits : MemoryFits s → MemoryFits t) (mode : t.mode = .starting → s.mode = .starting)
    (opened : t.recordsOpen = s.recordsOpen) : RecordsKept s t := by
  intro sound
  rw [recordsSound_iff] at sound ⊢
  exact ⟨fits sound.1, fun starting => opened ▸ sound.2 (mode starting)⟩

/-- Event records are all that reaches the memory. -/
theorem RecordsKept.logged {s t : State} (a : Appends s t) (e : bankView t = bankView s)
    (mode : t.mode = .starting → s.mode = .starting) : RecordsKept s t := by
  obtain ⟨-, -, -, opened⟩ := a.stamp
  exact .of_fits (fun h => h.of_appends a e) mode opened

theorem RecordsKept.heated {s t : State} (a : Appends s t) (h : hideHeat t = hideHeat s) : RecordsKept s t := by
  have bank := congrArg bankView h
  have mode := congrArg State.mode h
  exact .logged a bank mode.symm.trans

theorem RecordsKept.sided {s t : State} (a : Appends s t) (h : hideSides t = hideSides s) : RecordsKept s t := by
  have bank := congrArg bankView h
  have mode := congrArg State.mode h
  exact .logged a bank mode.symm.trans

theorem RecordsKept.reacted {s t : State} (a : Appends s t) (h : hideReaction t = hideReaction s)
    (mode : t.mode = .starting → s.mode = .starting) : RecordsKept s t := by
  have bank := congrArg bankView h
  exact .logged a bank mode

theorem memoryView_of_ports {s t : State} (h : hidePorts t = hidePorts s) : memoryView t = memoryView s := by
  have e := congrArg memoryView h; exact e

theorem appendEvent_records (o : Origin) (e : Event) (s : State) : RecordsKept s (appendEvent o e s) :=
  .of_fits (·.appendEvent o e) (by rw [appendEvent_eq]; exact id) (by rw [appendEvent_eq])

/-- An event record handed on after writes that the rules do not see. -/
theorem RecordsKept.noted {s t : State} {o : Origin} {e : Event} (view : memoryView t = memoryView s) :
    RecordsKept s (appendEvent o e t) :=
  (appendEvent_records o e t).after view

/-- The interval flags are no matter of the record memory. -/
theorem RecordsKept.raised {s t : State} (h : RecordsKept s t) : RecordsKept s (raiseFlags t) := h.trans (.of_view rfl)

end Sys2Proof.Machine
end

section
/-! PROOFS. What each block leaves of the record memory: the mode controller, the heating controller, the geometry unit, the sides, the
sensor rounds, the feed channels, the odometer with the profiler, and the settings store. -/

namespace Sys2Proof.Machine

open Sys2Proof

/-! ### Mode changes and readiness evaluations (R2, R7) -/

theorem settleReadiness_records (s : State) : RecordsKept s (settleReadiness s) := by
  refine .reacted (appends_settleReadiness s) (hideReaction_settleReadiness s) fun starting => ?_
  by_contra running
  rw [(settleReadiness_modes running).1] at starting
  exact chained_ne_starting running starting

theorem blocksSee_records (old : Mode) (run e : Bool) (s : State) : RecordsKept s (blocksSee old run e s) :=
  .reacted (appends_blocksSee old run e s) (hideReaction_blocksSee old run e s) (by rw [blocksSee_mode]; exact id)

theorem changeMode_records {m : Mode} (hm : m ≠ .starting) (c : ModeCause) (o : Origin) (s : State) :
    RecordsKept s (changeMode m c o s) :=
  .reacted (appends_changeMode m c o s) (hideReaction_changeMode m c o s) fun k => absurd ((changeMode_mode m c o s).symm.trans k) hm

theorem readinessChain_records (s : State) : RecordsKept s (readinessChain s) := by
  refine .reacted (appends_readinessChain s) (hideReaction_readinessChain s) fun starting => ?_
  by_contra running
  rw [readinessChain_mode] at starting
  exact chained_ne_starting running starting

theorem takeModeChange_records {m : Mode} (hm : m ≠ .starting) (c : ModeCause) (o : Origin) (e : Bool) (s : State) :
    RecordsKept s (takeModeChange m c o e s) :=
  (((changeMode_records hm c o s).trans (readinessChain_records _)).trans (blocksSee_records _ _ e _)).trans
    (settleReadiness_records _)

theorem modeFreed_records (s : State) : RecordsKept s (modeFreed s) := by
  unfold modeFreed
  dsimp only
  split
  · exact (takeModeChange_records (by decide) _ _ _ _).after rfl
  · exact .of_view rfl

theorem goEffect_records {p : Port} {g : GoTarget} {s t : State} (h : goEffect p g s = some t) : RecordsKept s t := by
  have started : memoryView (goStart g s) = memoryView s := by
    unfold goStart
    repeat' split
    all_goals rfl
  match hk : goEntry g s.mode with
  | none => rw [goEffect_none p hk] at h; cases h
  | some (some m) =>
    rw [goEffect_entry p hk] at h
    exact Option.some.inj h ▸ (takeModeChange_records (goEntry_ne_starting hk) _ _ _ _).after started
  | some none =>
    rcases goEffect_stay p hk with ⟨-, -, e⟩ | ⟨-, -, e⟩ | ⟨-, -, e⟩ | ⟨-, -, e⟩
      <;> rw [e] at h <;> rw [← Option.some.inj h]
    · exact .of_view rfl
    · exact (settleReadiness_records _).after rfl
    · exact .refl s
    · exact .refl s

theorem endWindow_records (s : State) : RecordsKept s (endWindow s) := by
  have resumed : RecordsKept s (if (closeWindow s).mode = .paused ∧ 0 < (closeWindow s).travel.windowChange then
      changeMode .paving .resume .modeController (closeWindow s) else closeWindow s) := by
    split
    · exact (changeMode_records (by decide) _ _ _).after rfl
    · exact .of_view rfl
  exact (resumed.trans (blocksSee_records _ _ _ _)).trans (settleReadiness_records _)

theorem matchStop_records (s : State) : RecordsKept s (matchStop s) := by
  unfold matchStop
  dsimp only
  split
  · exact .of_view rfl
  · have changed : RecordsKept s (changeMode .standby .timer .modeController (markMatched s)) :=
      (changeMode_records (by decide) _ _ _).after rfl
    exact ((changed.trans (appendEvent_records _ _ _)).trans (blocksSee_records _ _ _ _)).trans (settleReadiness_records _)

/-! ### The heating controller -/

theorem appends_elementFail (z : Zone) (s : State) : Appends s (elementFail z s) :=
  (((appends_leaveTo z .fault s).trans (appends_setZone z _ _)).trans (appends_noteFault z .element _)).trans
    (appends_appendEvent _ _ _)

theorem appends_checkDelayEnd (z : Zone) (s : State) : Appends s (checkDelayEnd z s) := by
  unfold checkDelayEnd
  split
  · exact appends_setZone z _ s
  · exact appends_elementFail z s

theorem appends_feedbackChange (z : Zone) (s : State) : Appends s (feedbackChange z s) := by
  unfold feedbackChange
  dsimp only
  split
  · exact appends_elementFail z s
  · exact .refl s

theorem appends_zoneConversion (z : Zone) (s : State) : Appends s (zoneConversion z s) := by
  have tracked : Appends s (trackMaximum z s) := by
    unfold trackMaximum
    dsimp only
    split
    · exact .refl s
    · exact .same ⟨rfl, rfl, rfl, rfl⟩ rfl
  exact tracked.trans (appends_evaluateZone z _)

theorem appends_expireSlice (z : Zone) (s : State) : Appends s (expireSlice z s) := by
  unfold expireSlice rotateGrant
  dsimp only
  repeat' split
  · exact .same ⟨rfl, rfl, rfl, rfl⟩ rfl
  · exact appends_allocate ⟨rfl, rfl, rfl, rfl⟩ rfl
  · exact appends_allocate ⟨rfl, rfl, rfl, rfl⟩ rfl

theorem appends_clearLatch (z : Zone) (p : Port) (s : State) : Appends s (clearLatch z p s) := by
  have cleared : Appends s (appendEvent (.port p) (.zoneCleared z (zoneTemp s z)) (setLatch z false s)) :=
    (appends_setZone z _ s).trans (appends_appendEvent _ _ _)
  unfold clearLatch
  dsimp only
  split
  · exact (cleared.trans (appends_leaveTo z .satisfied _)).trans (appends_evaluateZone z _)
  · exact cleared

theorem reselect_records (z : Zone) (s : State) : RecordsKept s (reselect z s) := .heated (appends_reselect z s) (hideHeat_reselect z s)

theorem feedbackChange_records (z : Zone) (s : State) : RecordsKept s (settleReadiness (feedbackChange z s)) :=
  (RecordsKept.heated (appends_feedbackChange z s) (hideHeat_feedbackChange z s)).trans (settleReadiness_records _)

theorem clearHealthOf_records (z : Option Zone) (p : Port) (s : State) : RecordsKept s (clearHealthOf z p s) :=
  .noted (by cases z <;> rfl)

theorem excludeZone_records (z : Zone) (s : State) : RecordsKept s (excludeZone z s) := by
  have off (t : State) : memoryView (setZone z (zoneOff (t.zones.get z)) t) = memoryView t := rfl
  unfold excludeZone
  dsimp only
  split
  · exact .refl s
  · exact (RecordsKept.heated (appends_leaveTo z .off s) (hideHeat_leaveTo z .off s)).trans (.of_view (off _))

theorem writeExclude_records (z : Zone) (flag : Bool) (s : State) : RecordsKept s (writeExclude z flag s) := by
  unfold writeExclude
  dsimp only
  repeat' split
  · exact .refl s
  · exact (excludeZone_records z _).after rfl
  · exact (RecordsKept.heated (appends_enterHeating z _) (hideHeat_enterHeating z _)).after rfl
  · exact .of_view rfl

/-! ### The geometry unit -/

theorem memoryView_endWidthJog (k : WidthEnd) (d : Side) (s : State) : memoryView (endWidthJog k d s) = memoryView s := by
  rw [endWidthJog_eq]
  rfl

theorem memoryView_startWidthJog (d : Side) (dir : WidthDir) (n : Nat) (s : State) :
    memoryView (startWidthJog d dir n s) = memoryView s := by
  rw [startWidthJog_eq]
  rfl

theorem extConversion_records (d : Side) (s : State) : RecordsKept s (extConversion d s) := by
  have ended (k : WidthEnd) (t : State) : RecordsKept t (endWidthJog k d t) := .of_view (memoryView_endWidthJog k d t)
  have written (r : Extension) (t : State) : memoryView (setExtension d r t) = memoryView t := rfl
  unfold extConversion becomeStale
  dsimp only
  repeat' split
  · exact ended .fault s
  · exact (ended .fault s).trans (RecordsKept.noted (written _ _)).raised
  · exact ((ended .limit _).after (written _ _)).trans (reselect_records _ _)
  · exact (reselect_records _ _).after (written _ _)

/-! ### The levelling sides and the sensor rounds -/

theorem Turned.records {d : Side} {before after : SideRec} {s t : State} (h : Turned d before after s t) : RecordsKept s t := by
  have frame := h.eq
  generalize t.profiler.flags = flags at frame
  subst frame
  exact .logged ⟨⟨rfl, rfl, rfl, rfl⟩, _, rfl⟩ rfl id

theorem memoryView_endGradeJog (d : Side) (k : GradeEnd) (s : State) : memoryView (endGradeJog d k s) = memoryView s := by
  rw [endGradeJog_eq]
  rfl

theorem memoryView_startGradeJog (d : Side) (dir : GradeDir) (n : Nat) (s : State) :
    memoryView (startGradeJog d dir n s) = memoryView s :=
  Eq.trans (b := memoryView (endGradeJog d .replaced s)) rfl (memoryView_endGradeJog d .replaced s)

theorem changeSide_records (d : Side) (g : OperationTarget) (s : State) : RecordsKept s (changeSide d g s) := by
  cases g <;> exact (enterSideState_turned d _ _).records.after (memoryView_endGradeJog d .sideMode s)

theorem memoryView_capturedState (d : Side) (s : State) : memoryView (capturedState d s) = memoryView s := by
  rw [capturedState_eq]
  rfl

theorem completeCapture_records (d : Side) (s : State) : RecordsKept s (completeCapture d s) := by
  have answered (p : Port) (a : Answer) : memoryView (answerPort p a (capturedState d s)) = memoryView s :=
    (memoryView_of_ports (hidePorts_answerPort p a _)).trans (memoryView_capturedState d s)
  unfold completeCapture
  dsimp only
  repeat' split
  · exact .of_view (answered _ _)
  · exact .noted (answered _ _)
  · exact .refl s

theorem watchLink_records (fresh polled : Bool) (s : State) : RecordsKept s (watchLink fresh polled s) := by
  unfold watchLink
  dsimp only
  split
  · exact .noted rfl
  · exact .of_view rfl

theorem endRound_records (fresh polled : Bool) (s : State) : RecordsKept s (endRound fresh polled s) := by
  have captured := ((watchLink_records fresh polled s).trans (completeCapture_records .left _)).trans
    (completeCapture_records .right _)
  have counted (u : State) : memoryView (countValid .right (countValid .left u)) = memoryView u := rfl
  unfold endRound
  dsimp only
  exact (captured.trans ((evaluateSide_turned .left _).records.after (counted _))).trans (evaluateSide_turned .right _).records

theorem pollNext_records (slots : List Slot) (fresh polled : Bool) (s : State) : RecordsKept s (pollNext slots fresh polled s) := by
  unfold pollNext
  split
  · exact .of_view rfl
  · exact endRound_records fresh polled s

theorem startRound_records (s : State) : RecordsKept s (startRound s) := by
  unfold startRound
  split
  · exact .refl s
  · exact (pollNext_records _ _ _ _).after (memoryView_congr rfl rfl rfl rfl rfl rfl)

theorem completePoll_records (reply : Option FreshReply) (s : State) : RecordsKept s (completePoll reply s) := by
  unfold completePoll
  split
  · exact .refl s
  · refine (pollNext_records _ _ _ _).after ?_
    split
    · unfold judgeSlot
      split <;> rfl
    · rfl

/-! ### The feed channels -/

theorem memoryView_setFeed (c : FeedChannel) (r : FeedRec) (s : State) : memoryView (setFeed c r s) = memoryView s := rfl

theorem memoryView_endFeedJog (k : FeedEnd) (c : FeedChannel) (s : State) : memoryView (endFeedJog k c s) = memoryView s := by
  rw [endFeedJog_eq]
  rfl

theorem memoryView_startFeedJog (c : FeedChannel) (n : Nat) (s : State) : memoryView (startFeedJog c n s) = memoryView s :=
  Eq.trans (b := memoryView (endFeedJog .replaced c s)) rfl (memoryView_endFeedJog .replaced c s)

theorem enterSensorHold_records (c : FeedChannel) (frozen : Int) (s : State) : RecordsKept s (enterSensorHold c frozen s) :=
  (RecordsKept.noted (memoryView_setFeed c _ s)).raised

theorem changeFeed_records (c : FeedChannel) (g : OperationTarget) (s : State) : RecordsKept s (changeFeed c g s) := by
  have ended := memoryView_endFeedJog .feedMode c s
  unfold changeFeed settleFeed
  cases g with
  | off | manual => exact .of_view (Eq.trans (b := memoryView (endFeedJog .feedMode c s)) rfl ended)
  | auto =>
    refine RecordsKept.trans (.of_view ended) ?_
    dsimp only
    repeat' split
    · exact .of_view rfl
    · exact .refl _
    · exact enterSensorHold_records c 0 _
    · exact .of_view rfl

theorem feedConversion_records (c : FeedChannel) (s : State) : RecordsKept s (feedConversion c s) := by
  unfold feedConversion
  dsimp only
  repeat' split
  case isTrue.isFalse => exact .refl s
  all_goals first | exact .of_view rfl | exact .noted rfl

/-! ### The e-stop latch -/

theorem memoryView_latched (s : State) : memoryView (endWidthJogs .eStop { s with estop := true }) = memoryView s :=
  (memoryView_endWidthJog .eStop .right _).trans (memoryView_endWidthJog .eStop .left _)

theorem assertEstop_records (s : State) : RecordsKept s (assertEstop s) := by
  have latched := memoryView_latched s
  unfold assertEstop
  dsimp only
  split
  · exact .of_view latched
  · rw [eachFeed_forceFeedOff, forceSidesOff_eq]
    exact .of_view (Eq.trans (b := memoryView (endWidthJogs .eStop { s with estop := true })) rfl latched)
  · exact (takeModeChange_records (by decide) _ _ _ _).after
      (Eq.trans (b := memoryView (endWidthJogs .eStop { s with estop := true })) rfl latched)

/-! ### The odometer and the profiler -/

theorem appendProfile_records {build : Nat → ProfileRecord} (numbers : ∀ n, (build n).sequence = n) (s : State) :
    RecordsKept s (appendProfile build s) :=
  .of_fits (·.appendProfile numbers) (by rw [appendProfile_frame]; exact id) (by rw [appendProfile_frame])

theorem closeInterval_records (s : State) : RecordsKept s (closeInterval s) := by
  unfold closeInterval
  split
  · exact (appendProfile_records (fun _ => rfl) s).trans (.of_view rfl)
  · exact .of_view rfl

theorem moveStation_records (s : State) : RecordsKept s (moveStation s) := by
  unfold moveStation highWaterRose
  dsimp only
  repeat' split
  · exact .of_view rfl
  · exact (closeInterval_records _).after rfl
  · exact .of_view rfl
  · exact .of_view rfl

theorem memoryView_takeScanLine (n : Half) (px : List Half) (s : State) : memoryView (takeScanLine n px s) = memoryView s := by
  unfold takeScanLine accumulate
  repeat' split
  all_goals rfl

/-- R157: a job begins with its JOB_STARTED record. -/
theorem beginJob_records (p : Port) (road : List Byte) (lane : Nat) (layer : Layer) (start : Int) (s : State) :
    RecordsKept s (beginJob p road lane layer start s) := .noted rfl

/-! ### The areas' own requests (R153, R155) -/

theorem acknowledge_held {α : Type} (capacity sequence : Nat) (a : Area α) : (acknowledge capacity sequence a).held = a.held := by
  rw [acknowledge_eq]

theorem areaUnopened_acknowledge {α : Type} (capacity sequence : Nat) (a : Area α) :
    areaUnopened (acknowledge capacity sequence a) = areaUnopened a := by
  rw [acknowledge_eq]
  rfl

theorem acknowledgeMat_records {s : State} {sequence : Nat} (given : sequence ≤ s.mat.newest) :
    RecordsKept s { s with mat := acknowledge (capacityOf s .mat) sequence s.mat } := by
  refine .of_fits (fun ⟨capacity, array, snapshot, mat, events, unopened⟩ => ⟨capacity, array, snapshot, ?_, events, ?_⟩) id rfl
  · exact (acknowledge_held _ _ s.mat).symm ▸ mat.acknowledge given
  · exact (areaUnopened_acknowledge _ _ s.mat).symm ▸ unopened

theorem acknowledgeEvents_records {s : State} {sequence : Nat} (given : sequence ≤ s.events.newest) :
    RecordsKept s { s with events := acknowledge (capacityOf s .event) sequence s.events } := by
  refine .of_fits (fun ⟨capacity, array, snapshot, mat, events, unopened⟩ => ⟨capacity, array, snapshot, mat, ?_, ?_⟩) id rfl
  · exact (acknowledge_held _ _ s.events).symm ▸ events.acknowledge given
  · exact (areaUnopened_acknowledge _ _ s.events).symm ▸ unopened

theorem serveAckRecords_records (p : Port) (area : Byte) (sequence : Word) (s : State) :
    RecordsKept s (serveAckRecords p area sequence s).1 := by
  unfold serveAckRecords
  repeat' split
  case h_2.isFalse given => exact acknowledgeMat_records (not_lt.mp given)
  case h_3.isFalse given => exact acknowledgeEvents_records (not_lt.mp given)
  all_goals exact .refl s

/-- R155: the state with a new boundary and both areas emptied. -/
def emptied (capacity : Nat) (s : State) : State :=
  { s with
    settings := { s.settings with matCapacity := capacity }, mat := clearArea s.mat, events := clearArea s.events }

theorem MemoryFits.emptied {s : State} (h : MemoryFits s) {capacity : Nat} (low : 64 ≤ capacity) (high : capacity ≤ 1984) :
    MemoryFits (emptied capacity s) where
  capacity := by simp [Machine.emptied, capacityGood, low, high]
  array := h.array
  snapshot := h.snapshot
  mat := clearArea_fits _ h.mat.top
  events := clearArea_fits _ h.events.top
  unopened closed := by
    obtain ⟨mat, events⟩ := h.unopened closed
    rw [areaUnopened_iff] at mat events ⊢
    rw [areaUnopened_iff]
    exact ⟨⟨rfl, mat.2⟩, ⟨rfl, events.2⟩⟩

theorem changeBoundary_new {capacity : Nat} {s : State} (h : capacity ≠ s.settings.matCapacity) :
    changeBoundary capacity s
      = appendEvent .recordMemory (.areasCleared s.mat.newest s.events.newest capacity) (emptied capacity s) := if_neg h

/-- R155: the boundary within its range. -/
theorem changeBoundary_records {capacity : Nat} (low : 64 ≤ capacity) (high : capacity ≤ 1984) (s : State) :
    RecordsKept s (changeBoundary capacity s) := by
  by_cases h : capacity = s.settings.matCapacity
  · exact .of_eq (if_pos h)
  · have moved : RecordsKept s (emptied capacity s) := .of_fits (·.emptied low high) id rfl
    rw [changeBoundary_new h]
    exact moved.trans (appendEvent_records _ _ _)

/-! ### Writes of items (R171) -/

theorem memoryView_storeOnly {x : Setting} (h : x ≠ .matCapacity) (v : Int) (s : State) :
    memoryView (storeOnly x v s) = memoryView s := by
  refine memoryView_congr rfl rfl rfl rfl rfl ?_
  cases x with
  | matCapacity => exact absurd rfl h
  | zoneSetpoint z k => cases k <;> rfl
  | sideSetpoint d k => cases k <;> rfl
  | gain k p => cases k <;> rfl
  | slotParam k p => cases k <;> cases p <;> rfl
  | screed k => cases k <;> rfl
  | input i p => cases p <;> rfl
  | _ => rfl

theorem bounds_of_inRange {x : Setting} {v : Int} (h : inRange x v = true) : (boundsOf x).1 ≤ v ∧ v ≤ (boundsOf x).2 := by
  simp only [inRange, Bool.and_eq_true, decide_eq_true_eq] at h
  exact h.1

/-- R171: a write; that of the MAT capacity within its range. -/
theorem applySetting_records {x : Setting} {v : Int} (range : x = .matCapacity → inRange x v = true) (s : State) :
    RecordsKept s (applySetting x v s) := by
  have stored {y : Setting} (h : y ≠ .matCapacity) : RecordsKept s (storeOnly y v s) := .of_view (memoryView_storeOnly h v s)
  cases x with
  | readinessBand | extThreshold | screed _ => exact (stored (by simp)).trans (settleReadiness_records _)
  | zoneSetpoint z k =>
    simp only [applySetting, writeZoneSetpoint]
    split
    · exact .refl s
    · exact ((stored (by simp)).trans (reselect_records z _)).trans (settleReadiness_records _)
  | exclude z =>
    simp only [applySetting, writeExcludeFlag]
    split
    · exact .refl s
    · exact (writeExclude_records z _ s).trans (settleReadiness_records _)
  | slotParam k p =>
    simp only [applySetting, writeSlotParam]
    split
    · exact .refl s
    · cases k
      · exact (stored (by simp)).trans (.of_view rfl)
      · exact stored (by simp)
  | levelSetpoint c =>
    simp only [applySetting, writeLevelSetpoint]
    split <;> exact .of_view (memoryView_congr rfl rfl rfl rfl rfl rfl)
  | pulsesPerMetre => exact ((stored (by simp)).trans (moveStation_records _)).trans (.of_view rfl)
  | standbyCode =>
    simp only [applySetting, writeStandbyCode]
    split <;> exact .of_view rfl
  | recordInterval => exact (stored (by simp)).trans (.of_view rfl)
  | matCapacity =>
    obtain ⟨low, high⟩ : 64 ≤ v ∧ v ≤ 1984 := bounds_of_inRange (range rfl)
    exact changeBoundary_records (by omega) (by omega) s
  | input i p =>
    cases p with
    | debounce => exact stored (by simp)
    | mode =>
      cases i with
      | feedback z => exact (stored (by simp)).trans (feedbackChange_records z _)
      | travelPulse | travelDir | estop => exact stored (by simp)
  | _ => exact stored (by simp)

/-! ### The settings store (R5, R6, R180 to R182) -/

/-- The store written with a good array and a good snapshot. -/
theorem RecordsKept.stored {s : State} {store : Store}
    (good : MemoryFits s → arrayGood store.array = true ∧ snapshotGood store.state = true) : RecordsKept s { s with store := store } :=
  .of_fits (fun fits => ⟨fits.capacity, (good fits).1, (good fits).2, fits.mat, fits.events, fits.unopened⟩) id rfl

theorem serveStoreSettings_records (p : Port) (s : State) : RecordsKept s (serveStoreSettings p s).1 := by
  unfold serveStoreSettings
  repeat' split
  · exact .refl s
  · exact .refl s
  · exact .stored fun fits => ⟨fits.array, fits.capacity⟩

theorem endStoreWrite_records (equal good : Bool) (s : State) : RecordsKept s (endStoreWrite equal good s) := by
  have answered (a : Answer) (t : State) : RecordsKept t (answerPort .oc a t) := .of_view (memoryView_of_ports (hidePorts_answerPort _ _ _))
  unfold endStoreWrite
  split
  · exact .refl s
  · next image writing =>
    have snapshot (fits : MemoryFits s) : capacityGood image.settings = true := by
      have := fits.snapshot
      rwa [writing] at this
    split
    · exact (RecordsKept.stored fun fits => ⟨by exact snapshot fits, rfl⟩).trans (answered _ _)
    · refine ((RecordsKept.stored fun fits => ⟨?_, rfl⟩).trans (answered _ _)).trans (appendEvent_records _ _ _)
      cases good
      · rfl
      · exact snapshot fits

/-- R3: a reset empties both areas. -/
theorem resetFrom_records (s : State) : RecordsKept s (resetFrom s) := by
  have empty {α : Type} (capacity : Nat) : AreaFits capacity [] (resetArea : Area α) :=
    clearArea_fits capacity (a := resetArea) (Nat.zero_le _)
  intro sound
  obtain ⟨fits, -⟩ := (recordsSound_iff s).mp sound
  refine (recordsSound_iff _).mpr ⟨⟨rfl, ?_, rfl, empty _, empty _, fun _ => ⟨rfl, rfl⟩⟩, fun _ => rfl⟩
  change arrayGood (arrayAfterReset s.store) = true
  unfold arrayAfterReset
  split
  · exact fits.array
  · rfl

/-- R180: an image that is found good has a MAT capacity in its range. -/
theorem loadedImage_good {array : NvArray} {b : Bool} {image : SettingsImage} (h : arrayGood array = true)
    (loaded : loadedImage b array = some image) : capacityGood image.settings = true := by
  unfold loadedImage at loaded
  split at loaded
  · cases loaded
  · split at loaded <;> cases loaded
    exact h

/-- R6: the outcome of a load is noted, and the memory opens empty. -/
theorem MemoryFits.noteOutcome {s : State} (h : MemoryFits s) (closed : s.recordsOpen = false) (b : Bool) :
    MemoryFits (noteOutcome (loadedImage b s.store.array) s) := by
  obtain ⟨capacity, array, snapshot, mat, events, unopened⟩ := h
  obtain ⟨hm, he⟩ := unopened closed
  cases loaded : loadedImage b s.store.array with
  | none =>
    have opened : MemoryFits { s with store := { s.store with loadOutcome := .defaulted, defaulted := true }, recordsOpen := true } :=
      ⟨capacity, array, snapshot, mat, events, fun _ => ⟨hm, he⟩⟩
    exact opened.appendEvent _ _
  | some image =>
    have opened : MemoryFits { s with
        settings := image.settings, store := { s.store with loadOutcome := .good, defaulted := false }, recordsOpen := true } :=
      ⟨loadedImage_good array loaded, array, snapshot, mat.recapacitated hm _, events.recapacitated he _, fun _ => ⟨hm, he⟩⟩
    exact opened.of_parts rfl rfl rfl rfl rfl

theorem MemoryFits.numberJob {s : State} (h : MemoryFits s) (last : Nat) : MemoryFits (numberJob last s) := by
  have headed : MemoryFits { s with job := { s.job with number := nextJobNumber last } } := h.of_parts rfl rfl rfl rfl rfl
  exact headed.appendEvent _ _

/-- R5, R6: the memory once a load's outcome is noted and its job numbered, before the blocks see PARKED. -/
theorem MemoryFits.loadJudged {s : State} (h : MemoryFits s) (closed : s.recordsOpen = false) (b : Bool) :
    MemoryFits (loadJudged b s) :=
  ((h.noteOutcome closed b).numberJob _).of_parts rfl rfl rfl rfl rfl

theorem completeLoad_records (b : Bool) (s : State) : RecordsKept s (completeLoad b s) := by
  by_cases starting : s.mode = .starting
  · intro sound
    obtain ⟨fits, closed⟩ := (recordsSound_iff s).mp sound
    have judged := fits.loadJudged (closed starting) b
    have parked : recordsSound (changeMode .parked .start .modeController (loadJudged b s)) = true :=
      (recordsSound_iff _).mpr ⟨judged.of_appends (appends_changeMode _ _ _ _) (by rw [changeMode_eq]; rfl),
        fun k => absurd ((changeMode_mode _ _ _ _).symm.trans k) (by decide)⟩
    rw [completeLoad_starting starting]
    exact (blocksSee_records _ _ _ _).trans (startRound_records _) parked
  · exact .of_eq (if_neg starting)

end Sys2Proof.Machine
end

section
/-! PROOFS. The walk over the commands for the rules of the record memory: each service, line, pin and timed event keeps them (`RecordsKept`),
and so does every step. O9. -/

namespace Sys2Proof.Machine

open Sys2Proof

/-! ### Writes (R171) -/

theorem serveWrite_records (p : Port) (x : Setting) (v : Word) (s : State) : RecordsKept s (serveWrite p x v s).1 := by
  unfold serveWrite
  split
  · exact .refl s
  · split
    · next owner named =>
      unfold serveSetpoint
      split
      · exact .refl s
      · exact applySetting_records (fun e => by rw [e] at named; cases named) s
    · unfold serveConfiguration
      split
      · exact .refl s
      · split
        · exact .refl s
        · split
          · exact .refl s
          · next range =>
            split
            · exact .refl s
            · exact applySetting_records (fun _ => by simpa using range) s

theorem serveSlotWrite_records (p : Port) (slot : Slot) (param : SlotParam) (v : Word) (s : State) :
    RecordsKept s (serveSlotWrite p slot param v s).1 := by
  unfold serveSlotWrite
  split
  · exact .refl s
  · exact serveWrite_records p _ v s

theorem serveSetItem_records (p : Port) (group : Byte) (index : Half) (v : Word) (s : State) :
    RecordsKept s (serveSetItem p group index v s).1 := by
  unfold serveSetItem
  repeat' split
  all_goals first | exact .refl s | exact serveWrite_records p _ v s

/-! ### Authority (R166 to R169) -/

/-- R167, R168, R169: a function that changes hands, with the jogs that run under it, is no matter of the record memory. -/
theorem memoryView_handedOver (f : Function) (holder : Option Port) (s : State) :
    memoryView (endJogsUnder f (setHolder f holder s)) = memoryView s := by
  refine Eq.trans (b := memoryView (setHolder f holder s)) ?_ rfl
  generalize setHolder f holder s = t
  cases f with
  | grade d => exact memoryView_endGradeJog d .authority t
  | feed d => cases d <;> exact (memoryView_endFeedJog .authority _ _).trans (memoryView_endFeedJog .authority _ t)
  | width d => exact memoryView_endWidthJog .authority d t
  | mode | heat | records => rfl

theorem serveTake_records (p : Port) (function override : Byte) (s : State) : RecordsKept s (serveTake p function override s).1 := by
  unfold serveTake takeOver
  repeat' split
  all_goals first | exact .refl s | exact .of_view rfl | exact .noted (memoryView_handedOver _ _ s)

theorem serveRelease_records (p : Port) (function : Byte) (s : State) : RecordsKept s (serveRelease p function s).1 := by
  unfold serveRelease
  split
  · exact .refl s
  · next f _ =>
    split
    · exact .refl s
    · dsimp only [done]
      split
      · exact (modeFreed_records _).after (memoryView_handedOver f none s)
      · exact .of_view (memoryView_handedOver f none s)

theorem loseFunction_records (p : Port) (s : State) (f : Function) : RecordsKept s (loseFunction p s f) := by
  unfold loseFunction
  split
  · exact .noted (memoryView_handedOver f none s)
  · exact .refl s

theorem loseEach_records (p : Port) (fs : List Function) (s : State) : RecordsKept s (fs.foldl (loseFunction p) s) := by
  induction fs generalizing s with
  | nil => exact .refl s
  | cons f fs ih => exact (loseFunction_records p s f).trans (ih _)

theorem linkSilent_records (p : Port) (s : State) : RecordsKept s (linkSilent p s) := by
  have lost : RecordsKept s (allFunctions.foldl (loseFunction p) (setPort p { s.ports.get p with up := false } s)) :=
    (loseEach_records p allFunctions _).after rfl
  unfold linkSilent loseAll
  dsimp only
  split
  · exact lost.trans (modeFreed_records _)
  · exact lost

/-! ### Requests -/

theorem serveGo_records (p : Port) (target : Byte) (s : State) : RecordsKept s (serveGo p target s).1 := by
  unfold serveGo
  repeat' split
  all_goals first | exact .refl s | exact goEffect_records (by assumption)

theorem serveSideMode_records (p : Port) (side target : Byte) (s : State) : RecordsKept s (serveSideMode p side target s).1 := by
  unfold serveSideMode
  dsimp only
  repeat' split
  all_goals first | exact .refl s | exact changeSide_records _ _ s

theorem memoryView_serveSetReference (p : Port) (side : Byte) (s : State) :
    memoryView (serveSetReference p side s).1 = memoryView s := by
  unfold serveSetReference
  dsimp only
  repeat' split
  all_goals rfl

theorem memoryView_serveJogGrade (p : Port) (d : Side) (direction duration : Byte) (s : State) :
    memoryView (serveJogGrade p d direction duration s).1 = memoryView s := by
  unfold serveJogGrade
  repeat' split
  all_goals first | rfl | exact memoryView_startGradeJog _ _ _ s

theorem memoryView_serveJogFeed (p : Port) (c : FeedChannel) (duration : Byte) (s : State) :
    memoryView (serveJogFeed p c duration s).1 = memoryView s := by
  unfold serveJogFeed
  repeat' split
  all_goals first | rfl | exact memoryView_startFeedJog _ _ s

theorem memoryView_serveJogWidth (p : Port) (d : Side) (direction duration : Byte) (s : State) :
    memoryView (serveJogWidth p d direction duration s).1 = memoryView s := by
  unfold serveJogWidth
  repeat' split
  all_goals first | rfl | exact memoryView_startWidthJog _ _ _ s

/-- R34, R110, R126: no jog reaches the record memory. -/
theorem memoryView_serveJog (p : Port) (target direction duration : Byte) (s : State) :
    memoryView (serveJog p target direction duration s).1 = memoryView s := by
  unfold serveJog
  split
  · exact memoryView_serveJogGrade p .left direction duration s
  · exact memoryView_serveJogGrade p .right direction duration s
  · exact memoryView_serveJogFeed p .convL duration s
  · exact memoryView_serveJogFeed p .convR duration s
  · exact memoryView_serveJogFeed p .augL duration s
  · exact memoryView_serveJogFeed p .augR duration s
  · exact memoryView_serveJogWidth p .left direction duration s
  · exact memoryView_serveJogWidth p .right direction duration s
  · rfl

theorem serveFeedMode_records (p : Port) (channel target : Byte) (s : State) : RecordsKept s (serveFeedMode p channel target s).1 := by
  unfold serveFeedMode
  dsimp only
  repeat' split
  all_goals first | exact .refl s | exact changeFeed_records _ _ s

theorem serveClearFault_records (p : Port) (zone : Byte) (s : State) : RecordsKept s (serveClearFault p zone s).1 := by
  have cleared (z : Zone) : RecordsKept s (clearLatch z p s) := .heated (appends_clearLatch z p s) (hideHeat_clearLatch z p s)
  unfold serveClearFault
  repeat' split
  all_goals first | exact .refl s | exact (cleared _).trans (settleReadiness_records _)

theorem serveClearHealth_records (p : Port) (zone : Byte) (s : State) : RecordsKept s (serveClearHealth p zone s).1 := by
  unfold serveClearHealth
  repeat' split
  all_goals first | exact .refl s | exact clearHealthOf_records _ p s

theorem memoryView_serveMark (p : Port) (code : Byte) (s : State) : memoryView (serveMark p code s).1 = memoryView s := by
  unfold serveMark
  repeat' split
  all_goals rfl

theorem serveRoadJob_records (p : Port) (road : List Byte) (lane layer : Byte) (start : Word) (s : State) :
    RecordsKept s (serveRoadJob p road lane layer start s).1 := by
  unfold serveRoadJob serveWriteJob
  repeat' split
  all_goals first | exact .refl s | exact beginJob_records p road _ _ _ s

theorem serveSetClock_records (p : Port) (day : Half) (hour minute second : Byte) (s : State) :
    RecordsKept s (serveSetClock p day hour minute second s).1 := by
  unfold serveSetClock
  split
  · exact .refl s
  · exact .noted rfl

theorem serveRequest_records (p : Port) (q : Request) (s : State) : RecordsKept s (serveRequest p q s).1 := by
  cases q with
  | status => exact .refl s
  | readItem g f n => exact .of_eq (serveReadItem_state g f n s)
  | setItem g i v => exact serveSetItem_records p g i v s
  | take f o => exact serveTake_records p f o s
  | release f => exact serveRelease_records p f s
  | go g => exact serveGo_records p g s
  | sideMode d g => exact serveSideMode_records p d g s
  | setReference d => exact .of_view (memoryView_serveSetReference p d s)
  | jog g d n => exact .of_view (memoryView_serveJog p g d n s)
  | feedMode c g => exact serveFeedMode_records p c g s
  | clearFault z => exact serveClearFault_records p z s
  | clearHealth z => exact serveClearHealth_records p z s
  | mark c => exact .of_view (memoryView_serveMark p c s)
  | writeJob r l y n => exact serveRoadJob_records p r l y n s
  | readRecords a n c => exact .of_eq (serveReadRecords_state a n c s)
  | ackRecords a n => exact serveAckRecords_records p a n s
  | setClock a b c d => exact serveSetClock_records p a b c d s
  | storeSettings => exact serveStoreSettings_records p s

/-! ### Lines -/

/-- A frame taken by a port keeps what its service keeps. -/
theorem takeFrame_records {p : Port} {kind tag : Byte} {serve : State → Served} (hs : ∀ s, RecordsKept s (serve s).1) (s : State) :
    RecordsKept s (takeFrame p kind tag serve s) := by
  rcases hidePorts_takeFrame p kind tag serve s with e | e
  · exact .of_view (memoryView_of_ports e)
  · have opened : RecordsKept s (openRequest p kind tag (hearFrame p s)) := .of_view rfl
    exact (opened.trans (hs _)).trans (.of_view (memoryView_of_ports e))

theorem takeRawFrame_records (p : Port) (kind tag : Byte) (payload : List Byte) (s : State) :
    RecordsKept s (takeRawFrame p kind tag payload s) := by
  refine takeFrame_records (fun s => ?_) s
  unfold serveFrame
  split
  · exact .refl s
  · exact serveRequest_records p _ s

theorem takeFrameBytes_records (p : Port) (body : List Byte) (s : State) : RecordsKept s (takeFrameBytes p body s) := by
  unfold takeFrameBytes
  split
  · exact takeRawFrame_records p _ _ _ s
  · exact .refl s

/-- R161: the receiver of a port, whatever frames its bytes make. -/
theorem receive_records (p : Port) (n : Nat) (bytes : List Byte) (s : State) : RecordsKept s (receive p n bytes s) := by
  have counted (t : State) : memoryView (countFrameError p t) = memoryView t := rfl
  have held (taken : List Byte) (t : State) : memoryView (holdFrame p taken t) = memoryView t := rfl
  induction n generalizing bytes s with
  | zero => exact .refl s
  | succ n ih =>
    cases bytes with
    | nil => exact .refl s
    | cons b rest =>
      unfold receive
      split
      · exact ih _ s
      · split
        · dsimp only
          split
          · exact (ih _ _).after (counted s)
          · split
            · exact .of_view (held _ s)
            · split
              · exact (takeFrameBytes_records p _ s).trans (ih _ _)
              · exact (ih _ _).after (counted s)
        · exact .of_view (held _ s)

theorem receiveBytes_records (p : Port) (bytes : List Byte) (s : State) : RecordsKept s (receiveBytes p bytes s) := by
  unfold receiveBytes
  dsimp only
  repeat' split
  all_goals first | exact .refl s | exact (receive_records p _ _ _).after rfl

theorem takePollReply_records (address status : Byte) (reading : Half) (s : State) :
    RecordsKept s (takePollReply address status reading s) := by
  unfold takePollReply
  repeat' split
  all_goals first | exact .refl s | exact completePoll_records _ s

theorem takeSensorFrame_records (kind : Byte) (body : List Byte) (s : State) : RecordsKept s (takeSensorFrame kind body s) := by
  unfold takeSensorFrame
  repeat' split
  all_goals first | exact .refl s | exact .of_view (memoryView_takeScanLine _ _ s) | exact takePollReply_records _ _ _ s

/-- R185: the receiver of the sensor line. -/
theorem receiveSensor_records (n : Nat) (bytes : List Byte) (s : State) : RecordsKept s (receiveSensor n bytes s) := by
  induction n generalizing bytes s with
  | zero => exact .refl s
  | succ n ih =>
    cases bytes with
    | nil => exact .refl s
    | cons b rest =>
      unfold receiveSensor
      split
      · exact ih _ s
      · split
        · exact .of_view rfl
        · split
          · exact ih _ s
          · split
            · exact .of_view rfl
            · split
              · exact (takeSensorFrame_records _ _ s).trans (ih _ _)
              · exact ih _ s

theorem receiveSensorBytes_records (bytes : List Byte) (s : State) : RecordsKept s (receiveSensorBytes bytes s) := by
  unfold receiveSensorBytes
  repeat' split
  all_goals first | exact .refl s | exact (receiveSensor_records _ _ _).after rfl

/-! ### Events -/

/-- A timed command keeps what its act keeps at its moment. -/
theorem atMoment_records {b : Bool} {act : State → State} {s : State} (h : RecordsKept s (act s)) :
    RecordsKept s (atMoment b act s) := by
  cases b
  · exact .refl s
  · exact h

theorem convert_records (a : AnalogChannel) (raw : BitVec 12) (s : State) : RecordsKept s (convert a raw s) := by
  have heated (z : Zone) (t : State) : RecordsKept t (zoneConversion z t) :=
    .heated (appends_zoneConversion z t) (hideHeat_zoneConversion z t)
  cases a with
  | temp z => exact ((heated z _).trans (settleReadiness_records _)).after rfl
  | ext d => exact ((extConversion_records d _).trans (settleReadiness_records _)).after rfl
  | level c => exact (feedConversion_records c _).after rfl

theorem consumeLevel_records (i : DigitalInput) (level : Bool) (s : State) : RecordsKept s (consumeLevel i level s) := by
  cases i with
  | travelPulse =>
    simp only [consumeLevel]
    split
    · exact (moveStation_records (edgeCounted s)).after rfl
    · exact .refl s
  | travelDir => exact .refl s
  | estop =>
    simp only [consumeLevel]
    split
    · exact assertEstop_records s
    · exact .of_view rfl
  | feedback z => exact feedbackChange_records z s

theorem takeLevel_records (i : DigitalInput) (s : State) : RecordsKept s (takeLevel i s) := by
  unfold takeLevel
  dsimp only
  split
  · exact .of_view rfl
  · exact (consumeLevel_records i _ _).after rfl

theorem changePin_records (i : DigitalInput) (level : Bool) (s : State) : RecordsKept s (changePin i level s) := by
  unfold changePin
  dsimp only
  repeat' split
  · exact .refl s
  · exact (takeLevel_records i _).after rfl
  · exact .of_view rfl

/-! ### Every command, every step -/

theorem exec_records {c : Instr} {s t : State} (e : exec c s = .next t) : RecordsKept s t := by
  have request {p k tag} {serve : State → Served} (hs : ∀ s, RecordsKept s (serve s).1) (e : takeRequest p k tag serve s = t) :
      RecordsKept s t :=
    e ▸ takeFrame_records hs s
  have unseen {p k tag} {serve : State → Served} (hs : ∀ s, memoryView (serve s).1 = memoryView s)
      (e : takeRequest p k tag serve s = t) : RecordsKept s t :=
    request (fun s => .of_view (hs s)) e
  have write {p tag x v} (e : takeRequest p .setItem tag (serveWrite p x v) s = t) : RecordsKept s t :=
    request (serveWrite_records p x v) e
  have timed {b : Bool} {act : State → State} (e : atMoment b act s = t) (h : RecordsKept s (act s)) : RecordsKept s t :=
    e ▸ atMoment_records h
  have viewed {u : State} (e : u = t) (h : memoryView u = memoryView s) : RecordsKept s t := e ▸ .of_view h
  have heated {u : State} (a : Appends s u) (h : hideHeat u = hideHeat s) : RecordsKept s (settleReadiness u) :=
    (RecordsKept.heated a h).trans (settleReadiness_records u)
  cases c <;> (injection e with e)
  case reset => exact e ▸ resetFrom_records s
  case settingsLoadComplete b => exact e ▸ completeLoad_records b s
  case frameError p bytes => exact e ▸ receiveBytes_records p bytes s
  case frameGapExpiry p => exact timed e (.of_view rfl)
  case linkDown p => exact timed e (linkSilent_records p s)
  case busy p kind tag payload => exact e ▸ takeRawFrame_records p kind tag payload s
  case unknownRequest p kind tag payload => exact e ▸ takeRawFrame_records p kind tag payload s
  case replySent p => exact viewed e rfl
  case status p tag => exact request (fun s => .refl s) e
  case readItem p tag g f n => exact request (fun s => .of_eq (serveReadItem_state g f n s)) e
  case setItem p tag g i v => exact request (serveSetItem_records p g i v) e
  case setSlotAddressWeight p tag x a v => exact request (serveSlotWrite_records p x a v) e
  case take p tag f o => exact request (serveTake_records p f o) e
  case release p tag f => exact request (serveRelease_records p f) e
  case go p tag g => exact request (serveGo_records p g) e
  case sideMode p tag d g => exact request (serveSideMode_records p d g) e
  case setReference p tag d => exact unseen (memoryView_serveSetReference p d) e
  case jogGrade p tag d a n => exact unseen (memoryView_serveJogGrade p d a n) e
  case jogFeed p tag c a n => exact unseen (memoryView_serveJogFeed p c n) e
  case jogWidth p tag d a n => exact unseen (memoryView_serveJogWidth p d a n) e
  case feedMode p tag c g => exact request (serveFeedMode_records p c g) e
  case clearFault p tag z => exact request (serveClearFault_records p z) e
  case clearHealth p tag z => exact request (serveClearHealth_records p z) e
  case mark p tag n => exact unseen (memoryView_serveMark p n) e
  case writeJob p tag r l y n => exact request (serveRoadJob_records p r l y n) e
  case readRecords p tag a n k => exact request (fun s => .of_eq (serveReadRecords_state a n k s)) e
  case ackRecords p tag a n => exact request (serveAckRecords_records p a n) e
  case setClock p tag a b c d => exact request (serveSetClock_records p a b c d) e
  case storeSettings p tag => exact request (serveStoreSettings_records p) e
  case storeWriteEnd a b => exact e ▸ endStoreWrite_records a b s
  case analogConversion a raw => exact e ▸ convert_records a raw s
  case feedHoldExpiry c => exact timed e (enterSensorHold_records c _ s)
  case pinChange i l => exact e ▸ changePin_records i l s
  case debounceExpiry i => exact timed e (takeLevel_records i s)
  case elementCheckDelayEnd z => exact timed e (heated (appends_checkDelayEnd z s) (hideHeat_checkDelayEnd z s))
  case sliceExpiry z => exact timed e (heated (appends_expireSlice z s) (hideHeat_expireSlice z s))
  case speedWindowEnd => exact timed e (endWindow_records s)
  case pauseDetectorFire => exact timed e (takeModeChange_records (by decide) _ _ _ s)
  case stopTimerMatch => exact timed e (matchStop_records s)
  case clockStep => exact timed e (.of_view rfl)
  case widthJogExpiry d => exact timed e (.of_view (memoryView_endWidthJog _ d s))
  case gradeJogExpiry d => exact timed e (.of_view (memoryView_endGradeJog d _ s))
  case feedJogExpiry c => exact timed e (.of_view (memoryView_endFeedJog _ c s))
  case sensorRoundStart => exact timed e (startRound_records s)
  case pollReply a b n => exact e ▸ (takePollReply_records a b n _).after rfl
  case pollTimeout => exact timed e (completePoll_records _ s)
  case sensorFrameDiscard bytes => exact e ▸ receiveSensorBytes_records bytes s
  case sensorFrameGapExpiry => exact timed e (.of_view rfl)
  case scanLine n px => exact viewed e ((memoryView_takeScanLine n px _).trans rfl)
  case scanner => exact timed e (.noted rfl)
  case heatingMinute z => exact timed e (.of_view rfl)
  all_goals exact write e

/-- Every step keeps the rules of the record memory. -/
theorem step_records {s t : State} (e : step s = .next t) : RecordsKept s t := by
  unfold step at e
  split at e
  · injection e with e
    exact e ▸ .of_view rfl
  · next c rest _ => exact RecordsKept.trans (t := { s with pending := rest }) (.of_view rfl) (exec_records e)

end Sys2Proof.Machine

open Sys2Proof Sys2Proof.Machine

/-- Settles O9: a step keeps the rules of both areas. -/
theorem recordAreaRulesKept : Obligations.RecordAreaRulesKept := by
  unfold Obligations.RecordAreaRulesKept
  exact fun _ _ sound e => step_records e sound
end

section
/-! PROOFS. WRITE_JOB (R157): O53. -/

namespace Sys2Proof.Machine

open Sys2Proof

/-! ### The checks in their order -/

theorem layerOfByte_unknown {b : Byte} (h : 2 < b.toNat) : layerOfByte b = none := by
  have other (c : Byte) (hc : c.toNat ≤ 2) : b ≠ c := by rintro rfl; omega
  rw [layerOfByte, if_neg (other 0 (by decide)), if_neg (other 1 (by decide)), if_neg (other 2 (by decide))]

theorem layerOfByte_code {b : Byte} {k : Layer} (h : b.toNat = layerCode k) : layerOfByte b = some k := by
  cases k
  · rw [show b = 0 from BitVec.eq_of_toNat_eq h]; rfl
  · rw [show b = 1 from BitVec.eq_of_toNat_eq h]; rfl
  · rw [show b = 2 from BitVec.eq_of_toNat_eq h]; rfl

section
variable {p : Port} {road : List Byte} {lane layer : Byte} {start : Word} {s : State}

theorem serveRoadJob_notHolder (hl : road.length = 16) (h : holds s p .mode = false) :
    serveRoadJob p road lane layer start s = refuse .notHolder s := by
  simp [serveRoadJob, serveWriteJob, hl, h]

theorem serveRoadJob_state (hl : road.length = 16) (h : holds s p .mode = true) (hm : s.mode = .paving ∨ s.mode = .paused) :
    serveRoadJob p road lane layer start s = refuse .state s := by
  simp [serveRoadJob, serveWriteJob, hl, h, hm]

theorem serveRoadJob_unknown (hl : road.length = 16) (h : holds s p .mode = true) (hm : ¬ (s.mode = .paving ∨ s.mode = .paused))
    (hk : 2 < layer.toNat) : serveRoadJob p road lane layer start s = refuse .unknown s := by
  simp [serveRoadJob, serveWriteJob, hl, h, hm, layerOfByte_unknown hk]

theorem serveRoadJob_layer {k : Layer} (hl : road.length = 16) (h : holds s p .mode = true)
    (hm : ¬ (s.mode = .paving ∨ s.mode = .paused)) (hk : layerOfByte layer = some k) :
    serveRoadJob p road lane layer start s
      = if 15 < lane.toNat then refuse .range s
        else done (u16 (nextJobNumber s.job.number)) (beginJob p road lane.toNat k start.toInt s) := by
  have number : (beginJob p road lane.toNat k start.toInt s).job.number = nextJobNumber s.job.number := by
    unfold beginJob recordJob
    rw [appendEvent_eq]
    rfl
  simp [serveRoadJob, serveWriteJob, hl, h, hm, hk, number]

end

/-! ### The job begun -/

/-- R157 steps 1 and 2: the header written and the odometer restarted. -/
def jobWritten (header : JobHeader) (s : State) : State :=
  { s with
    job := header
    travel := { s.travel with
      pulseCount := 0, station := header.start, highWater := header.start
      windowStart := s.travel.windowStart + (header.start - s.travel.station) } }

/-- R132: from a job's start station the next mark is one record interval on. -/
theorem nextMarkOf_start (start interval : Int) :
    nextMarkOf start start interval = if maxS32 < start + interval then none else some (start + interval) := by
  simp [nextMarkOf]

/-- R157: the header and the odometer, an interval begun without a record, and JOB_STARTED under the new station. -/
def jobBegun (p : Port) (header : JobHeader) (s : State) : State :=
  { jobWritten header s with
    profiler := { s.profiler with
      pixels := List.replicate 120 { sum := 0, count := 0 }, lines := 0, marks := [], flags := standingFlags s
      nextMark :=
        if maxS32 < header.start + s.settings.recordInterval then none else some (header.start + s.settings.recordInterval) }
    events := eventsAfter (jobWritten header s)
      [(.port p, .jobStarted header.number header.lane header.layer header.start)] }

theorem beginJob_eq (p : Port) (road : List Byte) (lane : Nat) (layer : Layer) (start : Int) (s : State) :
    beginJob p road lane layer start s
      = jobBegun p { number := nextJobNumber s.job.number, road := road, lane := lane, layer := layer, start := start } s := by
  unfold beginJob recordJob jobBegun
  rw [appendEvent_eq, ← nextMarkOf_start]
  rfl

/-- R156: after 65535 comes 0. -/
theorem nextJobNumber_eq {n : Nat} (h : n ≤ 65535) : nextJobNumber n = if n = 65535 then 0 else n + 1 := by
  unfold nextJobNumber
  split <;> omega

end Sys2Proof.Machine

open Sys2Proof Sys2Proof.Machine

/-- Settles O53: the checks of `serveWriteJob` in their order, then `beginJob_eq` on the state with the port opened. -/
theorem writeJobBeginsAJob : Obligations.WriteJobBeginsAJob := by
  unfold Obligations.WriteJobBeginsAJob
  intro p tag road lane layer start s hp hl refusal
  obtain ⟨free, -⟩ : (s.ports.get p).inFlight = none ∧ (s.ports.get p).sending = none := by simpa [portIdle] using hp
  have refused {status : Status} (hm : s.mode ≠ .starting)
      (h : serveRoadJob p road lane layer start (withOpened p (kindByte .writeJob) tag s)
        = refuse status (withOpened p (kindByte .writeJob) tag s)) :
      exec (.writeJob p tag road lane layer start) s = refusal status :=
    congrArg Host.Outcome.next (takeRequest_refused free hm h)
  refine ⟨fun hm => ?_, fun hm hh => ?_, fun hh hm => ?_, fun hh hs hp hq => ⟨fun hk => ?_, fun hk hn => ?_, fun k hk hn => ?_⟩⟩
  · exact congrArg Host.Outcome.next (takeFrame_notReady free hm (by decide))
  · exact refused hm (serveRoadJob_notHolder hl hh)
  · exact refused (by rcases hm with hm | hm <;> simp [hm]) (serveRoadJob_state hl hh hm)
  · exact refused hs (serveRoadJob_unknown hl hh (not_or.mpr ⟨hp, hq⟩) hk)
  · obtain ⟨k, named⟩ : ∃ k : Layer, layer.toNat = layerCode k := by
      interval_cases layer.toNat
      exacts [⟨.base, rfl⟩, ⟨.binder, rfl⟩, ⟨.surface, rfl⟩]
    have served := serveRoadJob_layer (lane := lane) (start := start) (s := withOpened p (kindByte .writeJob) tag s) hl hh
      (not_or.mpr ⟨hp, hq⟩) (layerOfByte_code named)
    exact refused hs (served.trans (if_pos hn))
  · intro number jobbed hnumber
    have next : nextJobNumber s.job.number = number := nextJobNumber_eq hnumber
    refine congrArg Host.Outcome.next (takeRequest_served free hs (t := jobBegun p jobbed.job s) ?_)
    refine (serveRoadJob_layer (s := withOpened p (kindByte .writeJob) tag s) hl hh (not_or.mpr ⟨hp, hq⟩)
      (layerOfByte_code hk)).trans ((if_neg (not_lt.mpr hn)).trans ?_)
    rw [beginJob_eq]
    change done (u16 (nextJobNumber s.job.number)) (jobBegun p { jobbed.job with number := nextJobNumber s.job.number } _) = _
    rw [next]
    rfl
end

section
/-! PROOFS. READ_RECORDS and ACK_RECORDS (R151, R153): O54. -/

namespace Sys2Proof.Machine

open Sys2Proof

/-! ### READ_RECORDS (R151) -/

theorem areaOfByte_unknown {b : Byte} (h : 1 < b.toNat) : areaOfByte b = none := by
  have zero : b ≠ 0 := by rintro rfl; exact absurd h (by decide)
  have one : b ≠ 1 := by rintro rfl; exact absurd h (by decide)
  rw [areaOfByte, if_neg zero, if_neg one]

theorem areaOfByte_known {b : Byte} (h : b.toNat ≤ 1) : ∃ k, areaOfByte b = some k := by
  have named : b = 0 ∨ b = 1 := by bv_omega
  rcases named with rfl | rfl
  · exact ⟨.mat, rfl⟩
  · exact ⟨.event, rfl⟩

section
variable {area count : Byte} {number : Word} {s : State}

theorem serveReadRecords_unknown (h : 1 < area.toNat) : serveReadRecords area number count s = refuse .unknown s := by
  simp [serveReadRecords, areaOfByte_unknown h]

theorem serveReadRecords_range (h : area.toNat ≤ 1) (hc : 8 < count.toNat) :
    serveReadRecords area number count s = refuse .range s := by
  obtain ⟨k, named⟩ := areaOfByte_known h
  simp [serveReadRecords, named, hc]

/-- R151: the count asked for, 0 taken as 8. -/
def askedOf (count : Byte) : Nat := if count = 0 then 8 else count.toNat

theorem serveReadRecords_mat (hc : count.toNat ≤ 8) :
    serveReadRecords 0 number count s = (s, some (readReply s.mat profileBytes number.toNat (askedOf count))) := by
  simp [serveReadRecords, areaOfByte, not_lt.mpr hc, askedOf]

theorem serveReadRecords_event (hc : count.toNat ≤ 8) :
    serveReadRecords 1 number count s = (s, some (readReply s.events eventBytes number.toNat (askedOf count))) := by
  simp [serveReadRecords, areaOfByte, not_lt.mpr hc, askedOf]

end

/-- R146: a sequence number within 32 bits is carried as it stands. -/
theorem sequenceField_eq {n : Nat} (h : n ≤ 4294967295) : sequenceField n = u32 n := if_pos h

section
variable {α : Type} {a : Area α} {encode : α → List Byte} {first asked : Nat}

theorem readReply_gone (ho : oldestOf a ≤ 4294967295) (h : first < oldestOf a) :
    readReply a encode first asked = { status := .gone, payload := u32 (oldestOf a) } := by
  simp [readReply, sequenceField_eq ho, h]

theorem readReply_beyond (ho : oldestOf a ≤ 4294967295) (h : a.newest < first) (k : oldestOf a ≤ first) :
    readReply a encode first asked = okAnswer (u32 (oldestOf a)) := by
  simp [readReply, sequenceField_eq ho, h, not_lt.mpr k, okAnswer]

/-- R151: from a held record on, as many as are asked for and held. -/
theorem readReply_held (ho : oldestOf a ≤ 4294967295) (held : a.held.length ≤ a.newest) (h : oldestOf a ≤ first)
    (k : first ≤ a.newest) :
    readReply a encode first asked
      = { status := if asked ≤ a.newest + 1 - first then .ok else .partialOk
          payload := u32 (oldestOf a) ++ (((a.held.map encode).drop (first - oldestOf a)).take asked).flatten } := by
  have stands := oldestOf_add held
  have count : (readFrom a first asked).length = asked ↔ asked ≤ a.newest + 1 - first := by
    rw [readFrom, List.length_take, List.length_drop]
    omega
  have bytes : (readFrom a first asked).map encode = ((a.held.map encode).drop (first - oldestOf a)).take asked := by
    rw [readFrom, List.map_take, List.map_drop]
  simp [readReply, sequenceField_eq ho, not_lt.mpr h, not_lt.mpr k, count, bytes]

end

/-! ### ACK_RECORDS (R153) -/

section
variable {p : Port} {area : Byte} {number : Word} {s : State}

theorem serveAckRecords_notHolder (h : holds s p .records = false) : serveAckRecords p area number s = refuse .notHolder s := by
  simp [serveAckRecords, h]

theorem serveAckRecords_unknown (h : holds s p .records = true) (ha : 1 < area.toNat) :
    serveAckRecords p area number s = refuse .unknown s := by
  simp [serveAckRecords, h, areaOfByte_unknown ha]

theorem serveAckRecords_mat (h : holds s p .records = true) :
    serveAckRecords p 0 number s
      = if s.mat.newest < number.toNat then refuse .range s
        else done (ackPayload (acknowledge (capacityOf s .mat) number.toNat s.mat))
          { s with mat := acknowledge (capacityOf s .mat) number.toNat s.mat } := by
  simp [serveAckRecords, h, areaOfByte]

theorem serveAckRecords_event (h : holds s p .records = true) :
    serveAckRecords p 1 number s
      = if s.events.newest < number.toNat then refuse .range s
        else done (ackPayload (acknowledge (capacityOf s .event) number.toNat s.events))
          { s with events := acknowledge (capacityOf s .event) number.toNat s.events } := by
  simp [serveAckRecords, h, areaOfByte]

end

/-- R153: the ack point and what is left above it. -/
theorem ackPayload_acknowledge {α : Type} (capacity sequence : Nat) (a : Area α) :
    ackPayload (acknowledge capacity sequence a)
      = u32 (max a.ackPoint sequence) ++ u32 (a.newest - max a.ackPoint sequence) := by
  rw [acknowledge_eq]
  rfl

end Sys2Proof.Machine

open Sys2Proof Sys2Proof.Machine

/-- Settles O54: READ_RECORDS by the cases of `readReply`, ACK_RECORDS by `acknowledge_eq`. -/
theorem recordsAreReadAndAcknowledged : Obligations.RecordsAreReadAndAcknowledged := by
  unfold Obligations.RecordsAreReadAndAcknowledged
  intro p tag area count number s hp read ack readReply ackRefusal
  obtain ⟨free, -⟩ : (s.ports.get p).inFlight = none ∧ (s.ports.get p).sending = none := by simpa [portIdle] using hp
  have reads {a : Answer} (hm : s.mode ≠ .starting) (h : ∀ t : State, t.mat = s.mat → t.events = s.events →
      serveReadRecords area number count t = (t, some a)) : read = readReply a :=
    congrArg Host.Outcome.next (takeRequest_served free hm (h (withOpened p (kindByte .readRecords) tag s) rfl rfl))
  have answered {α : Type} {a : Area α} {encode : α → List Byte}
      (served : read = readReply (Machine.readReply a encode number.toNat (askedOf count))) (ho : oldestOf a ≤ 4294967295)
      (held : a.held.length ≤ a.newest) :=
    And.intro (fun h => served.trans (congrArg readReply (readReply_gone ho h)))
      (And.intro (fun h k => served.trans (congrArg readReply (readReply_beyond ho h k)))
        fun h k => served.trans (congrArg readReply (readReply_held ho held h k)))
  have refused {status : Status} (hm : s.mode ≠ .starting)
      (h : serveAckRecords p area number (withOpened p (kindByte .ackRecords) tag s)
        = refuse status (withOpened p (kindByte .ackRecords) tag s)) : ack = ackRefusal status :=
    congrArg Host.Outcome.next (takeRequest_refused free hm h)
  refine ⟨fun hm => ⟨?_, ?_⟩, fun hm ha => reads hm fun t _ _ => serveReadRecords_unknown ha,
    fun hm ha hc => reads hm fun t _ _ => serveReadRecords_range ha hc, fun hm hh => refused hm (serveAckRecords_notHolder hh),
    fun hm hh ha => refused hm (serveAckRecords_unknown hh ha), fun hm => ⟨?_, ?_⟩, fun hm hh => ⟨?_, ?_, ?_, ?_⟩⟩
  · exact congrArg Host.Outcome.next (takeFrame_notReady free hm (by decide))
  · exact congrArg Host.Outcome.next (takeFrame_notReady free hm (by decide))
  · rintro rfl held ho hc
    exact answered (reads hm fun t ht _ => ht ▸ serveReadRecords_mat hc) ho held
  · rintro rfl held ho hc
    exact answered (reads hm fun t _ ht => ht ▸ serveReadRecords_event hc) ho held
  · rintro rfl hn
    exact refused hm ((serveAckRecords_mat (s := withOpened p (kindByte .ackRecords) tag s) hh).trans (if_pos hn))
  · rintro rfl hn
    exact refused hm ((serveAckRecords_event (s := withOpened p (kindByte .ackRecords) tag s) hh).trans (if_pos hn))
  · rintro rfl hn point
    refine congrArg Host.Outcome.next (takeRequest_served free hm ?_)
    refine (serveAckRecords_mat (s := withOpened p (kindByte .ackRecords) tag s) hh).trans ((if_neg (not_lt.mpr hn)).trans ?_)
    rw [ackPayload_acknowledge, acknowledge_eq]
    rfl
  · rintro rfl hn hf point
    refine congrArg Host.Outcome.next (takeRequest_served free hm ?_)
    refine (serveAckRecords_event (s := withOpened p (kindByte .ackRecords) tag s) hh).trans ((if_neg (not_lt.mpr hn)).trans ?_)
    have kept : acknowledge (capacityOf s .event) number.toNat s.events
        = { s.events with ackPoint := point, lostAtAck := s.events.lost } := by
      rw [acknowledge_eq, hf, ite_self, ← hf]
    change done (ackPayload (acknowledge (capacityOf s .event) number.toNat s.events))
      (withOpened p (kindByte .ackRecords) tag
        { s with events := acknowledge (capacityOf s .event) number.toNat s.events }) = _
    rw [ackPayload_acknowledge, kept]
    rfl
end

section
/-! PROOFS. The boundary between the two areas (R155): O55. -/

namespace Sys2Proof.Machine

open Sys2Proof

/-- R171: a configuration parameter beyond its range. -/
theorem serveWrite_range {p : Port} {x : Setting} {s : State} {v : Word} (hr : readOnlySetting x = false)
    (hx : setpointOwner x = none) (h : holds s p .mode = true) (hm : s.mode = .parked) (hv : inRange x v.toInt = false) :
    serveWrite p x v s = refuse .range s := by
  simp [serveWrite, hr, hx, serveConfiguration, h, hm, hv]

theorem inRange_matCapacity (v : Int) : inRange .matCapacity v = true ↔ 64 ≤ v ∧ v ≤ 1984 := by
  simp only [inRange, finerRange, Bool.and_true, Bool.and_eq_true, decide_eq_true_eq]
  rfl

section
variable {p : Port} {tag : Byte} {value : Word} {s : State}

theorem setMatCapacity_range (hp : portOpen s p = true) (hh : holds s p .mode = true) (hm : s.mode = .parked)
    (h : value.toInt < 64 ∨ 1984 < value.toInt) :
    exec (.setMatCapacity p tag value) s = .next (withReply p (kindByte .setItem) tag (bareAnswer .range) s) := by
  have beyond : inRange .matCapacity value.toInt = false := by
    rw [Bool.eq_false_iff, ne_eq, inRange_matCapacity]
    omega
  exact congrArg Host.Outcome.next
    (takeRequest_refuses hp (serveWrite_range (s := withOpened p (kindByte .setItem) tag s) rfl rfl hh hm beyond))

/-- An accepted capacity, whatever the boundary's change leaves of the state: `t` holds the new capacity. -/
theorem setMatCapacity_accepted {n : Nat} {t : State} (hp : portOpen s p = true) (hh : holds s p .mode = true) (hm : s.mode = .parked)
    (hv : value.toInt = n) (low : 64 ≤ n) (high : n ≤ 1984)
    (changed : changeBoundary n (withOpened p (kindByte .setItem) tag s) = withOpened p (kindByte .setItem) tag t)
    (stored : t.settings.matCapacity = n) :
    exec (.setMatCapacity p tag value) s = .next (withReply p (kindByte .setItem) tag (okAnswer (natField n)) t) := by
  obtain ⟨free, ready, -⟩ := (portOpen_iff s p).mp hp
  have within : inRange .matCapacity value.toInt = true := by
    rw [inRange_matCapacity]
    omega
  refine congrArg Host.Outcome.next (takeRequest_served ready free ?_)
  refine (serveWrite_configuration (s := withOpened p (kindByte .setItem) tag s) rfl rfl hh hm within rfl).trans ?_
  have reply : settingField (withOpened p (kindByte .setItem) tag t) .matCapacity = natField n := by
    rw [← numField_natCast, ← stored]
    rfl
  rw [applySetting, hv, Int.toNat_natCast, changed, written, reply]
  rfl

end

end Sys2Proof.Machine

open Sys2Proof Sys2Proof.Machine

/-- Settles O55: the write is a configuration parameter's, and its effect is `changeBoundary`. -/
theorem boundaryChangeEmptiesAreas : Obligations.BoundaryChangeEmptiesAreas := by
  unfold Obligations.BoundaryChangeEmptiesAreas
  intro p tag value s hp hh hm answered
  refine ⟨setMatCapacity_range hp hh hm, fun n hv low high => ⟨fun present => ?_, fun new => ?_⟩⟩
  · exact setMatCapacity_accepted hp hh hm hv low high (if_pos present) present.symm
  · refine setMatCapacity_accepted hp hh hm hv low high ?_ rfl
    rw [changeBoundary_new (s := withOpened p (kindByte .setItem) tag s) new, appendEvent_eq]
    rfl
end

section
/-! PROOFS. What the rules of the links read of the state (`linkView`), and the walk over the commands: a command leaves the queue of
waiting commands alone, a holder keeps a permitted station with its link UP, and the BUSY queues stay within four (R160, R163, R165,
R174): O2 and O7. -/

namespace Sys2Proof.Machine

open Sys2Proof

-- One walk at a time: elaborated side by side, these proofs hold more memory than they need.
set_option Elab.async false

/-! ### The view, and what a change keeps -/

/-- What the rules of the links read: the ports and the authority table; with them the waiting commands. Every other field stands at its
reset value. -/
def linkView (s : State) : State := { State.reset with ports := s.ports, authority := s.authority, pending := s.pending }

/-- A change leaves what `linkView` shows when the fields it writes are hidden from the view. -/
theorem linkView_of_hidden {hide : State → State} {s t : State} (h : hide t = hide s)
    (blind : ∀ u, linkView (hide u) = linkView u := by exact fun _ => rfl) : linkView t = linkView s := by
  rw [← blind t, h, blind]

/-- What a command keeps: the waiting commands as they stand, and the rules of the authority table and of the ports. -/
structure LinksKept (s t : State) : Prop where
  pending : t.pending = s.pending
  authority : authoritySound s = true → authoritySound t = true
  ports : portsSound s = true → portsSound t = true

theorem LinksKept.refl (s : State) : LinksKept s s := ⟨rfl, id, id⟩

theorem LinksKept.trans {s t u : State} (h : LinksKept s t) (k : LinksKept t u) : LinksKept s u :=
  ⟨k.pending.trans h.pending, k.authority ∘ h.authority, k.ports ∘ h.ports⟩

theorem LinksKept.of_view {s t : State} (h : linkView t = linkView s) : LinksKept s t :=
  ⟨(congrArg State.pending h :), (congrArg authoritySound h).trans, (congrArg portsSound h).trans⟩

theorem LinksKept.of_hidden {hide : State → State} {s t : State} (h : hide t = hide s)
    (blind : ∀ u, linkView (hide u) = linkView u := by exact fun _ => rfl) : LinksKept s t :=
  .of_view (linkView_of_hidden h blind)

theorem LinksKept.of_eq {s t : State} (h : t = s) : LinksKept s t := h ▸ .refl s

/-- A change the view does not see, after one that keeps the rules. -/
theorem LinksKept.unseen {s t u : State} (h : LinksKept s t) (k : linkView u = linkView t) : LinksKept s u := h.trans (.of_view k)

/-- A change the view does not see, before one that keeps the rules. -/
theorem LinksKept.after {s t u : State} (h : LinksKept t u) (k : linkView t = linkView s) : LinksKept s u := (LinksKept.of_view k).trans h

@[simp] theorem linkView_appendEvent (o : Origin) (e : Event) (s : State) : linkView (appendEvent o e s) = linkView s :=
  linkView_of_hidden (hideEvents_appendEvent o e s)

/-! ### One port (R160, R163) -/

theorem portSound_iff (r : PortState) : portSound r = true ↔ (busyQueue r).length ≤ 4 ∧ (r.sending = none → r.waiting = []) := by
  unfold portSound
  cases r.sending <;> simp

theorem portsSound_iff (s : State) : portsSound s = true ↔ ∀ p, portSound (s.ports.get p) = true := by
  unfold portsSound
  rw [List.all_eq_true]
  exact ⟨fun h p => h p (by cases p <;> decide), fun h p _ => h p⟩

/-- The rules of a port are those of its transmitter and of the replies that wait. -/
theorem portSound_congr {r r' : PortState} (hs : r'.sending = r.sending) (hw : r'.waiting = r.waiting) : portSound r' = portSound r := by
  unfold portSound busyQueue
  rw [hs, hw]

theorem portSound_transmit {reply : Reply} {r : PortState} (h : portSound r = true)
    (room : reply.status = .busy → (busyQueue r).length < 4) : portSound (transmit reply r) = true := by
  obtain ⟨queue, free⟩ := (portSound_iff r).mp h
  rw [portSound_iff]
  cases hs : r.sending with
  | none =>
    rw [transmit_idle hs]
    exact ⟨queue, fun k => by cases k⟩
  | some sent =>
    rw [transmit_waits hs]
    refine ⟨?_, fun k => by cases hs.symm.trans k⟩
    have longer : (busyQueue { r with waiting := r.waiting ++ [reply] }).length
        = (busyQueue r).length + if reply.status = .busy then 1 else 0 := by
      by_cases hb : reply.status = .busy <;> simp [busyQueue, List.filter_append, hb]
    rw [longer]
    split
    · exact room ‹_›
    · exact queue

theorem portSound_finishReply {r : PortState} (h : portSound r = true) : portSound (finishReply r) = true := by
  obtain ⟨queue, -⟩ := (portSound_iff r).mp h
  cases hs : r.sending with
  | none => rwa [finishReply_idle hs]
  | some sent =>
    rw [finishReply_sent hs, portSound_iff]
    unfold busyQueue at queue ⊢
    cases hw : r.waiting with
    | nil => simp
    | cons first rest =>
      rw [hw] at queue
      exact ⟨(((List.sublist_cons_self first rest).filter _).length_le).trans queue, fun k => by cases k⟩

theorem finishReply_up (r : PortState) : (finishReply r).up = r.up := by
  unfold finishReply
  split <;> rfl

theorem transmit_up (reply : Reply) (r : PortState) : (transmit reply r).up = r.up := by
  unfold transmit
  split <;> rfl

theorem dropFrame_up (r : PortState) : (dropFrame r).up = r.up := by
  unfold dropFrame
  split <;> rfl

theorem portSound_dropFrame (r : PortState) : portSound (dropFrame r) = portSound r := by
  unfold dropFrame
  split <;> rfl

/-! ### The authority table (R165) -/

theorem authoritySound_iff (s : State) :
    authoritySound s = true ↔ ∀ f p, holderOf s.authority f = some p → permitted p f = true ∧ (s.ports.get p).up = true := by
  unfold authoritySound
  rw [List.all_eq_true]
  refine ⟨fun h f p hf => ?_, fun h f _ => ?_⟩
  · have held := h f (mem_allFunctions f)
    rw [holderSound, hf] at held
    exact (Bool.and_eq_true _ _).mp held
  · unfold holderSound
    split
    · rfl
    · exact (Bool.and_eq_true _ _).mpr (h f _ ‹_›)

/-- A port written with its link left UP and its rules kept. -/
theorem setPort_links {p : Port} {r : PortState} {s : State} (up : (s.ports.get p).up = true → r.up = true)
    (sound : portSound (s.ports.get p) = true → portSound r = true) : LinksKept s (setPort p r s) := by
  refine ⟨rfl, fun h => ?_, fun h => ?_⟩
  · rw [authoritySound_iff] at h ⊢
    intro f q hf
    obtain ⟨allowed, linked⟩ := h f q hf
    refine ⟨allowed, ?_⟩
    rw [setPort_ports, PerPort.get_set]
    split
    · next same => exact up (same ▸ linked)
    · exact linked
  · rw [portsSound_iff] at h ⊢
    intro q
    rw [setPort_ports, PerPort.get_set]
    split
    · exact sound (h p)
    · exact h q

/-- A function given to a permitted station with its link UP, or made free. -/
theorem setHolder_links {f : Function} {holder : Option Port} {s : State}
    (fits : ∀ p, holder = some p → permitted p f = true ∧ (s.ports.get p).up = true) : LinksKept s (setHolder f holder s) := by
  refine ⟨rfl, fun h => ?_, id⟩
  rw [authoritySound_iff] at h ⊢
  intro g q hg
  rw [setHolder_authority, holderOf_setHolderIn] at hg
  split at hg
  · next same => exact same ▸ fits q hg
  · exact h g q hg

theorem setHolder_free (f : Function) (s : State) : LinksKept s (setHolder f none s) := setHolder_links fun _ h => by cases h

theorem linkView_endJogsUnder (f : Function) (s : State) : linkView (endJogsUnder f s) = linkView s := by
  rw [(endJogsUnder_eq f s).1]
  rfl

/-! ### Frames and replies -/

theorem answerPort_links {p : Port} {a : Answer} (h : a.status ≠ .busy) (s : State) : LinksKept s (answerPort p a s) := by
  cases hf : (s.ports.get p).inFlight with
  | none => exact .of_eq (by simp [answerPort, hf])
  | some f =>
    rw [answerPort_of_inFlight hf]
    exact setPort_links (fun up => (transmit_up _ _).trans up) fun sound => portSound_transmit sound fun k => absurd k h

theorem countFrameError_links (p : Port) (s : State) : LinksKept s (countFrameError p s) := setPort_links id id

theorem holdFrame_links (p : Port) (taken : List Byte) (s : State) : LinksKept s (holdFrame p taken s) := setPort_links id id

theorem openRequest_links (p : Port) (kind tag : Byte) (s : State) : LinksKept s (openRequest p kind tag s) := setPort_links id id

theorem endFrame_links (p : Port) (s : State) : LinksKept s (endFrame p s) :=
  setPort_links (dropFrame_up _).trans (portSound_dropFrame _).trans

theorem hearFrame_links (p : Port) (s : State) : LinksKept s (hearFrame p s) :=
  setPort_links (fun _ => rfl) (portSound_congr (heardBy_sending _) (heardBy_waiting _)).trans

theorem answerBusy_links (p : Port) (kind tag : Byte) (s : State) : LinksKept s (answerBusy p kind tag s) := by
  unfold answerBusy
  dsimp only
  split
  · exact setPort_links (transmit_up _ _).trans fun sound => portSound_transmit sound fun _ => ‹_›
  · exact countFrameError_links p s

/-! ### Serving a request -/

/-- What the block that owns a request keeps, and that it never answers BUSY itself. -/
structure ServedKept (s : State) (r : Served) : Prop where
  links : LinksKept s r.1
  status : ∀ a, r.2 = some a → a.status ≠ .busy

theorem ServedKept.answered {s t : State} {a : Answer} (h : LinksKept s t) (k : a.status ≠ .busy) : ServedKept s (t, some a) :=
  ⟨h, fun _ e => Option.some.inj e ▸ k⟩

theorem ServedKept.delayed {s t : State} (h : LinksKept s t) : ServedKept s (t, none) := ⟨h, fun _ e => by cases e⟩

theorem ServedKept.refused {status : Status} (s : State) (k : status ≠ .busy := by decide) : ServedKept s (refuse status s) :=
  .answered (.refl s) k

theorem ServedKept.done {s t : State} (payload : List Byte) (h : LinksKept s t) : ServedKept s (done payload t) :=
  .answered h (by simp)

/-- R163: a frame taken by a port, its link UP when its block serves it. -/
theorem takeFrame_links {p : Port} {kind tag : Byte} {serve : State → Served}
    (hs : ∀ s, (s.ports.get p).up = true → ServedKept s (serve s)) (s : State) : LinksKept s (takeFrame p kind tag serve s) := by
  have heard := hearFrame_links p s
  have opened := heard.trans (openRequest_links p kind tag (hearFrame p s))
  unfold takeFrame acceptFrame
  dsimp only
  split
  · exact heard.trans (answerBusy_links p kind tag _)
  · split
    · exact opened.trans (answerPort_links (by simp) _)
    · have up : ((openRequest p kind tag (hearFrame p s)).ports.get p).up = true := by simp [openRequest, hearFrame, heardBy]
      have served := hs _ up
      unfold deliver
      split
      · exact opened.trans served.links
      · next a ha => exact (opened.trans served.links).trans (answerPort_links (served.status a ha) _)

/-! ### Mode changes and rounds -/

@[simp] theorem linkView_settleReadiness (s : State) : linkView (settleReadiness s) = linkView s :=
  linkView_of_hidden (hideReaction_settleReadiness s)

theorem linkView_takeModeChange (m : Mode) (c : ModeCause) (o : Origin) (e : Bool) (s : State) :
    linkView (takeModeChange m c o e s) = linkView s := linkView_of_hidden (hideReaction_takeModeChange m c o e s)

theorem linkView_blocksSee (old : Mode) (run e : Bool) (s : State) : linkView (blocksSee old run e s) = linkView s :=
  linkView_of_hidden (hideReaction_blocksSee old run e s)

theorem linkView_changeMode (m : Mode) (c : ModeCause) (o : Origin) (s : State) : linkView (changeMode m c o s) = linkView s :=
  linkView_of_hidden (hideReaction_changeMode m c o s)

theorem linkView_modeFreed (s : State) : linkView (modeFreed s) = linkView s := by
  unfold modeFreed
  dsimp only
  split
  · exact (linkView_takeModeChange _ _ _ _ _).trans rfl
  · rfl

theorem linkView_goEffect {p : Port} {g : GoTarget} {s t : State} (h : goEffect p g s = some t) : linkView t = linkView s := by
  have started : linkView (goStart g s) = linkView s := by
    rw [goStart_eq]
    rfl
  match hk : goEntry g s.mode with
  | none => rw [goEffect_none p hk] at h; cases h
  | some (some m) =>
    rw [goEffect_entry p hk] at h
    rw [← Option.some.inj h, goTo, linkView_takeModeChange, started]
  | some none =>
    rcases goEffect_stay p hk with ⟨-, -, e⟩ | ⟨-, -, e⟩ | ⟨-, -, e⟩ | ⟨-, -, e⟩
    all_goals
      rw [e] at h
      rw [← Option.some.inj h]
    · rfl
    · exact (linkView_settleReadiness _).trans rfl

theorem linkView_endWindow (s : State) : linkView (endWindow s) = linkView s := by
  unfold endWindow
  dsimp only
  rw [linkView_settleReadiness, linkView_blocksSee]
  split
  · exact (linkView_changeMode _ _ _ _).trans rfl
  · rfl

theorem linkView_matchStop (s : State) : linkView (matchStop s) = linkView s := by
  unfold matchStop
  dsimp only
  split
  · rfl
  · rw [linkView_settleReadiness, linkView_blocksSee, linkView_appendEvent, linkView_changeMode]
    rfl

theorem completeCapture_links (d : Side) (s : State) : LinksKept s (completeCapture d s) := by
  have captured (ks : List GradePlace) : linkView (returnSide d (ks.foldl (captureSlot d) s)) = linkView s := by
    have slots : linkView (ks.foldl (captureSlot d) s) = linkView s := by
      induction ks generalizing s with
      | nil => rfl
      | cons k ks ih => exact (ih _).trans rfl
    exact slots
  unfold completeCapture
  dsimp only
  split
  · split
    · exact (answerPort_links (by simp) _).after (captured _)
    · exact ((answerPort_links (by simp) _).after (captured _)).unseen (linkView_appendEvent _ _ _)
  · exact .refl s

theorem endRound_links (fresh polled : Bool) (s : State) : LinksKept s (endRound fresh polled s) := by
  have watched : linkView (watchLink fresh polled s) = linkView s := by
    unfold watchLink
    dsimp only
    split
    · exact (linkView_appendEvent _ _ _).trans rfl
    · rfl
  have evaluated (t : State) :
      linkView (evaluateSide .right (evaluateSide .left (countValid .right (countValid .left t)))) = linkView t :=
    (linkView_of_hidden (hideSides_evaluateSide _ _)).trans ((linkView_of_hidden (hideSides_evaluateSide _ _)).trans rfl)
  exact (((completeCapture_links .left _).trans (completeCapture_links .right _)).after watched).unseen (evaluated _)

theorem pollNext_links (slots : List Slot) (fresh polled : Bool) (s : State) : LinksKept s (pollNext slots fresh polled s) := by
  unfold pollNext
  split
  · exact .of_view rfl
  · exact endRound_links _ _ s

theorem startRound_links (s : State) : LinksKept s (startRound s) := by
  unfold startRound
  split
  · exact .refl s
  · have armed : linkView (armCapture .right (armCapture .left (markUnused s))) = linkView s := rfl
    exact (pollNext_links _ _ _ _).after armed

theorem completePoll_links (reply : Option FreshReply) (s : State) : LinksKept s (completePoll reply s) := by
  have judged (x : Slot) : linkView (judgeSlot x reply s) = linkView s := by cases x <;> rfl
  unfold completePoll
  split
  · exact .refl s
  · refine (pollNext_links _ _ _ _).after ?_
    split
    · exact judged _
    · rfl

/-! ### Writes (R171) -/

theorem linkView_applySetting (x : Setting) (v : Int) (s : State) : linkView (applySetting x v s) = linkView s := by
  cases x with
  | readinessBand | extThreshold | screed _ => exact (linkView_settleReadiness _).trans rfl
  | zoneSetpoint z k =>
    simp only [applySetting, writeZoneSetpoint]
    split
    · rfl
    · exact (linkView_settleReadiness _).trans ((linkView_of_hidden (hideHeat_reselect _ _)).trans rfl)
  | exclude z =>
    simp only [applySetting, writeExcludeFlag]
    split
    · rfl
    · rw [linkView_settleReadiness]
      unfold writeExclude excludeZone
      dsimp only
      repeat' split
      · rfl
      · rfl
      · exact (linkView_of_hidden ((hideHeat_setZone _ _ _).trans (hideHeat_leaveTo _ _ _))).trans rfl
      · exact (linkView_of_hidden (hideHeat_enterHeating z _)).trans rfl
      · rfl
  | slotParam k p =>
    simp only [applySetting, writeSlotParam]
    split
    · rfl
    · cases k <;> rfl
  | levelSetpoint c =>
    simp only [applySetting, writeLevelSetpoint]
    split <;> rfl
  | pulsesPerMetre =>
    simp only [applySetting, writePulsesPerMetre]
    rw [linkView_of_hidden (hideTravel_moveWindow _ _), linkView_of_hidden (hideTravel_moveStation _)]
    rfl
  | standbyCode =>
    simp only [applySetting, writeStandbyCode]
    split <;> rfl
  | matCapacity =>
    simp only [applySetting, changeBoundary]
    split
    · rfl
    · exact (linkView_appendEvent _ _ _).trans rfl
  | input i p =>
    cases p with
    | debounce => rfl
    | mode =>
      cases i with
      | feedback z => exact (linkView_settleReadiness _).trans ((linkView_of_hidden (hideHeat_feedbackChange z _)).trans rfl)
      | travelPulse | travelDir | estop => rfl
  | _ => rfl

theorem furtherCheck_status {s : State} {x : Setting} {v : Int} {status : Status} (h : furtherCheck s x v = some status) :
    status = .config ∨ status = .state := by
  have config {fits : Bool} (h : configUnless fits = some status) : status = .config ∨ status = .state := by
    cases fits <;> cases h
    exact .inl rfl
  have held {b fits : Bool} (h : (if b = true then some .state else configUnless fits) = some status) :
      status = .config ∨ status = .state := by
    split at h
    · cases h
      exact .inr rfl
    · exact config h
  cases x with
  | generatorLimit | rating _ | minValid _ | scaling _ _ => exact config h
  | slotParam _ _ | refKind _ => exact held h
  | input i p =>
    cases p with
    | mode => exact config h
    | debounce => cases h
  | _ => cases h

theorem serveWrite_links (p : Port) (x : Setting) (v : Word) (s : State) : ServedKept s (serveWrite p x v s) := by
  have wrote (v : Int) {status : Status} (h : status ≠ .busy) : ServedKept s (written x status (applySetting x v s)) :=
    .answered (.of_view (linkView_applySetting x v s)) h
  unfold serveWrite serveSetpoint serveConfiguration
  split
  · exact .refused s
  · split
    · split
      · exact .refused s
      · refine wrote _ ?_
        split <;> decide
    · split
      · exact .refused s
      · split
        · exact .refused s
        · split
          · exact .refused s
          · split
            · next hc => exact .refused s (by rcases furtherCheck_status hc with rfl | rfl <;> decide)
            · exact wrote _ (by decide)

theorem serveSlotWrite_links (p : Port) (slot : Slot) (param : SlotParam) (v : Word) (s : State) :
    ServedKept s (serveSlotWrite p slot param v s) := by
  unfold serveSlotWrite
  split
  · exact .refused s
  · exact serveWrite_links p _ v s

theorem serveSetItem_links (p : Port) (group : Byte) (index : Half) (v : Word) (s : State) :
    ServedKept s (serveSetItem p group index v s) := by
  unfold serveSetItem
  split
  · exact .refused s
  · split
    · exact serveWrite_links p _ v s
    · split <;> exact .refused s

/-! ### Authority (R166 to R169) -/

theorem takeOver_links (f : Function) (q : Port) {s : State} (up : (s.ports.get .oc).up = true) : LinksKept s (takeOver f q s) := by
  have given : LinksKept s (setHolder f (some .oc) s) := setHolder_links fun p h => by
    cases h
    exact ⟨rfl, up⟩
  exact (given.unseen (linkView_endJogsUnder f _)).unseen (linkView_appendEvent _ _ _)

theorem serveTake_links (p : Port) (function override : Byte) {s : State} (up : (s.ports.get p).up = true) :
    ServedKept s (serveTake p function override s) := by
  unfold serveTake
  split
  · exact .refused s
  · next f _ =>
    split
    · exact .refused s
    · next allowed =>
      split
      · refine .done _ (setHolder_links fun q h => ?_)
        cases h
        exact ⟨by simpa using allowed, up⟩
      · split
        · exact .done _ (.refl s)
        · split
          · next taken =>
            obtain ⟨rfl, -⟩ := taken
            exact .done _ (takeOver_links f _ up)
          · exact .refused s

theorem serveRelease_links (p : Port) (function : Byte) (s : State) : ServedKept s (serveRelease p function s) := by
  unfold serveRelease
  split
  · exact .refused s
  · next f _ =>
    have freed := (setHolder_free f s).unseen (linkView_endJogsUnder f _)
    split
    · exact .refused s
    · refine .done _ ?_
      split
      · exact freed.unseen (linkView_modeFreed _)
      · exact freed

/-- R169: a silent station holds nothing when its link is DOWN. -/
theorem silenced_links (p : Port) (s : State) : LinksKept s (silenced p s) := by
  obtain ⟨frame, -, holder, -, -, -⟩ := silenced_lost p s
  have ports : (silenced p s).ports = s.ports.set p { s.ports.get p with up := false } := by rw [frame]; rfl
  refine ⟨by rw [frame]; rfl, fun h => ?_, fun h => ?_⟩
  · rw [authoritySound_iff] at h ⊢
    intro f q hq
    rw [holder f] at hq
    split at hq
    · cases hq
    · next kept =>
      have other : q ≠ p := by
        rintro rfl
        exact kept ⟨mem_allFunctions f, decide_eq_true hq⟩
      rw [ports, PerPort.get_set_other _ _ _ _ other]
      exact h f q hq
  · rw [portsSound_iff] at h ⊢
    intro q
    rw [ports, PerPort.get_set]
    split
    · exact h p
    · exact h q

theorem linkSilent_links (p : Port) (s : State) : LinksKept s (linkSilent p s) := by
  rw [linkSilent_eq]
  split
  · exact (silenced_links p s).unseen (linkView_modeFreed _)
  · exact silenced_links p s

/-! ### Requests -/

theorem serveReadItem_links (group : Byte) (first : Half) (count : Byte) (s : State) :
    ServedKept s (serveReadItem group first count s) := by
  unfold serveReadItem
  repeat' split
  all_goals first | exact .refused s | exact .done _ (.refl s)

theorem serveGo_links (p : Port) (target : Byte) (s : State) : ServedKept s (serveGo p target s) := by
  unfold serveGo
  repeat' split
  all_goals first | exact .refused s | exact .done _ (.of_view (linkView_goEffect (by assumption)))

theorem serveSideMode_links (p : Port) (side target : Byte) (s : State) : ServedKept s (serveSideMode p side target s) := by
  unfold serveSideMode
  dsimp only
  repeat' split
  all_goals first | exact .refused s | exact .done _ (.refl s) | exact .done _ (.of_hidden (hideSides_changeSide _ _ s))

theorem serveSetReference_links (p : Port) (side : Byte) (s : State) : ServedKept s (serveSetReference p side s) := by
  unfold serveSetReference
  dsimp only
  repeat' split
  all_goals first | exact .refused s | exact .answered (.refl s) (by decide) | exact .delayed (.of_view rfl)

theorem jogStatus_ne_busy (top : Nat) (b : Byte) : jogStatus top b ≠ .busy := by
  unfold jogStatus
  split <;> decide

theorem serveJogGrade_links (p : Port) (d : Side) (direction duration : Byte) (s : State) :
    ServedKept s (serveJogGrade p d direction duration s) := by
  unfold serveJogGrade
  repeat' split
  all_goals first | exact .refused s | exact .answered (.of_hidden (hideSides_startGradeJog _ _ _ s)) (jogStatus_ne_busy _ _)

theorem serveJogFeed_links (p : Port) (c : FeedChannel) (duration : Byte) (s : State) :
    ServedKept s (serveJogFeed p c duration s) := by
  unfold serveJogFeed
  repeat' split
  all_goals first | exact .refused s | exact .answered (.of_hidden (hideFeeds_startFeedJog _ _ s)) (jogStatus_ne_busy _ _)

theorem serveJogWidth_links (p : Port) (d : Side) (direction duration : Byte) (s : State) :
    ServedKept s (serveJogWidth p d direction duration s) := by
  unfold serveJogWidth
  repeat' split
  all_goals first | exact .refused s | exact .answered (.of_hidden (hideGeometry_startWidthJog _ _ _ s)) (jogStatus_ne_busy _ _)

theorem serveJog_links (p : Port) (target direction duration : Byte) (s : State) :
    ServedKept s (serveJog p target direction duration s) := by
  unfold serveJog
  split
  · exact serveJogGrade_links p .left direction duration s
  · exact serveJogGrade_links p .right direction duration s
  · exact serveJogFeed_links p .convL duration s
  · exact serveJogFeed_links p .convR duration s
  · exact serveJogFeed_links p .augL duration s
  · exact serveJogFeed_links p .augR duration s
  · exact serveJogWidth_links p .left direction duration s
  · exact serveJogWidth_links p .right direction duration s
  · exact .refused s

theorem serveFeedMode_links (p : Port) (channel target : Byte) (s : State) : ServedKept s (serveFeedMode p channel target s) := by
  unfold serveFeedMode
  dsimp only
  repeat' split
  all_goals first | exact .refused s | exact .done _ (.refl s) | exact .done _ (.of_hidden (hideFeeds_changeFeed _ _ s))

theorem serveClearFault_links (p : Port) (zone : Byte) (s : State) : ServedKept s (serveClearFault p zone s) := by
  have cleared (z : Zone) : linkView (settleReadiness (clearLatch z p s)) = linkView s :=
    (linkView_settleReadiness _).trans (linkView_of_hidden (hideHeat_clearLatch z p s))
  unfold serveClearFault
  repeat' split
  all_goals first | exact .refused s | exact .done _ (.of_view (cleared _))

theorem serveClearHealth_links (p : Port) (zone : Byte) (s : State) : ServedKept s (serveClearHealth p zone s) := by
  unfold serveClearHealth
  repeat' split
  all_goals first | exact .refused s | exact .done _ (.of_hidden (hideHeat_clearHealthOf _ p s))

theorem serveMark_links (p : Port) (code : Byte) (s : State) : ServedKept s (serveMark p code s) := by
  unfold serveMark
  repeat' split
  all_goals first | exact .refused s | exact .done _ (.of_view rfl)

theorem serveRoadJob_links (p : Port) (road : List Byte) (lane layer : Byte) (start : Word) (s : State) :
    ServedKept s (serveRoadJob p road lane layer start s) := by
  have begun (k : Layer) : linkView (beginJob p road lane.toNat k start.toInt s) = linkView s := (linkView_appendEvent _ _ _).trans rfl
  unfold serveRoadJob serveWriteJob
  repeat' split
  all_goals first | exact .refused s | exact .done _ (.of_view (begun _))

theorem readReply_status {α : Type} (a : Area α) (encode : α → List Byte) (first asked : Nat) :
    (readReply a encode first asked).status ≠ .busy := by
  unfold readReply
  dsimp only
  repeat' split
  all_goals exact nofun

theorem serveReadRecords_links (area : Byte) (start : Word) (count : Byte) (s : State) :
    ServedKept s (serveReadRecords area start count s) := by
  unfold serveReadRecords
  dsimp only
  repeat' split
  all_goals first | exact .refused s | exact .answered (.refl s) (readReply_status _ _ _ _)

theorem serveAckRecords_links (p : Port) (area : Byte) (sequence : Word) (s : State) :
    ServedKept s (serveAckRecords p area sequence s) := by
  unfold serveAckRecords
  repeat' split
  all_goals first | exact .refused s | exact .done _ (.of_view rfl)

theorem serveSetClock_links (p : Port) (day : Half) (hour minute second : Byte) (s : State) :
    ServedKept s (serveSetClock p day hour minute second s) := by
  unfold serveSetClock
  split
  · exact .refused s
  · exact .done _ (.of_view ((linkView_appendEvent _ _ _).trans rfl))

theorem serveStoreSettings_links (p : Port) (s : State) : ServedKept s (serveStoreSettings p s) := by
  unfold serveStoreSettings
  repeat' split
  all_goals first | exact .refused s | exact .delayed (.of_view rfl)

theorem serveRequest_links (p : Port) (q : Request) {s : State} (up : (s.ports.get p).up = true) : ServedKept s (serveRequest p q s) := by
  cases q with
  | status => exact .done _ (.refl s)
  | readItem g f n => exact serveReadItem_links g f n s
  | setItem g i v => exact serveSetItem_links p g i v s
  | take f o => exact serveTake_links p f o up
  | release f => exact serveRelease_links p f s
  | go g => exact serveGo_links p g s
  | sideMode d g => exact serveSideMode_links p d g s
  | setReference d => exact serveSetReference_links p d s
  | jog g d n => exact serveJog_links p g d n s
  | feedMode c g => exact serveFeedMode_links p c g s
  | clearFault z => exact serveClearFault_links p z s
  | clearHealth z => exact serveClearHealth_links p z s
  | mark c => exact serveMark_links p c s
  | writeJob r l y n => exact serveRoadJob_links p r l y n s
  | readRecords a n c => exact serveReadRecords_links a n c s
  | ackRecords a n => exact serveAckRecords_links p a n s
  | setClock a b c d => exact serveSetClock_links p a b c d s
  | storeSettings => exact serveStoreSettings_links p s

/-! ### Lines -/

theorem takeRawFrame_links (p : Port) (kind tag : Byte) (payload : List Byte) (s : State) :
    LinksKept s (takeRawFrame p kind tag payload s) := by
  refine takeFrame_links (fun s up => ?_) s
  unfold serveFrame
  split
  · exact .refused s
  · exact serveRequest_links p _ up

theorem takeFrameBytes_links (p : Port) (body : List Byte) (s : State) : LinksKept s (takeFrameBytes p body s) := by
  unfold takeFrameBytes
  split
  · exact takeRawFrame_links p _ _ _ s
  · exact .refl s

/-- R161: the receiver of a port, whatever frames its bytes make. -/
theorem receive_links (p : Port) (n : Nat) (bytes : List Byte) (s : State) : LinksKept s (receive p n bytes s) := by
  induction n generalizing bytes s with
  | zero => exact .refl s
  | succ n ih =>
    cases bytes with
    | nil => exact .refl s
    | cons b rest =>
      unfold receive
      split
      · exact ih _ s
      · split
        · dsimp only
          split
          · exact (countFrameError_links p s).trans (ih _ _)
          · split
            · exact holdFrame_links p _ s
            · split
              · exact (takeFrameBytes_links p _ s).trans (ih _ _)
              · exact (countFrameError_links p s).trans (ih _ _)
        · exact holdFrame_links p _ s

theorem receiveBytes_links (p : Port) (bytes : List Byte) (s : State) : LinksKept s (receiveBytes p bytes s) := by
  have hunting : LinksKept s (setPort p { s.ports.get p with receiver := .hunting } s) := setPort_links id id
  unfold receiveBytes
  dsimp only
  split
  · exact receive_links p _ _ s
  · split
    · exact .refl s
    · split
      · exact hunting.trans (receive_links p _ _ _)
      · exact (endFrame_links p s).trans (receive_links p _ _ _)

theorem linkView_takeScanLine (n : Half) (px : List Half) (s : State) : linkView (takeScanLine n px s) = linkView s :=
  linkView_of_hidden (hideTravel_takeScanLine n px s)

theorem takePollReply_links (address status : Byte) (reading : Half) (s : State) :
    LinksKept s (takePollReply address status reading s) := by
  unfold takePollReply
  repeat' split
  all_goals first | exact .refl s | exact completePoll_links _ s

theorem takeSensorFrame_links (kind : Byte) (body : List Byte) (s : State) : LinksKept s (takeSensorFrame kind body s) := by
  unfold takeSensorFrame
  repeat' split
  all_goals first | exact .refl s | exact .of_view (linkView_takeScanLine _ _ s) | exact takePollReply_links _ _ _ s

/-- R185: the receiver of the sensor line; a capture it completes is answered on its port. -/
theorem receiveSensor_links (n : Nat) (bytes : List Byte) (s : State) : LinksKept s (receiveSensor n bytes s) := by
  induction n generalizing bytes s with
  | zero => exact .refl s
  | succ n ih =>
    cases bytes with
    | nil => exact .refl s
    | cons b rest =>
      unfold receiveSensor
      split
      · exact ih _ s
      · split
        · exact .of_view rfl
        · split
          · exact ih _ s
          · split
            · exact .of_view rfl
            · split
              · exact (takeSensorFrame_links _ _ s).trans (ih _ _)
              · exact ih _ s

theorem receiveSensorBytes_links (bytes : List Byte) (s : State) : LinksKept s (receiveSensorBytes bytes s) := by
  unfold receiveSensorBytes
  repeat' split
  all_goals first | exact .refl s | exact (receiveSensor_links _ _ _).after rfl

/-! ### Events -/

theorem atMoment_links {b : Bool} {act : State → State} {s : State} (h : LinksKept s (act s)) : LinksKept s (atMoment b act s) := by
  cases b
  · exact .refl s
  · exact h

/-- R3: after reset no station holds a function and no reply waits. -/
theorem resetFrom_links (s : State) : LinksKept s (resetFrom s) := ⟨rfl, fun _ => rfl, fun _ => rfl⟩

theorem completeLoad_links (b : Bool) (s : State) : LinksKept s (completeLoad b s) := by
  have noted (image : Option SettingsImage) : linkView (noteOutcome image s) = linkView s := by
    cases image with
    | none => exact (linkView_appendEvent _ _ _).trans rfl
    | some _ => rfl
  unfold completeLoad
  split
  · refine (startRound_links _).after ?_
    rw [linkView_blocksSee, linkView_changeMode]
    exact ((linkView_appendEvent _ _ _).trans rfl).trans (noted (loadedImage b s.store.array))
  · exact .refl s

theorem endStoreWrite_links (a b : Bool) (s : State) : LinksKept s (endStoreWrite a b s) := by
  have replied {answer : Answer} (store : Store) (h : answer.status ≠ .busy) :
      LinksKept s (answerPort .oc answer { s with store := store }) := (answerPort_links h _).after rfl
  unfold endStoreWrite storeDone storeFailed
  split
  · exact .refl s
  · split
    · exact replied _ (by simp)
    · exact (replied _ (by simp)).unseen (linkView_appendEvent _ _ _)

theorem linkView_convert (a : AnalogChannel) (raw : BitVec 12) (s : State) : linkView (convert a raw s) = linkView s := by
  cases a with
  | temp z => exact (linkView_settleReadiness _).trans ((linkView_of_hidden (hideHeat_zoneConversion z _)).trans rfl)
  | ext d => exact (linkView_settleReadiness _).trans ((linkView_of_hidden (hideGeometry_extConversion d _)).trans rfl)
  | level c => exact (linkView_of_hidden (hideFeeds_feedConversion c _)).trans rfl

theorem linkView_assertEstop (s : State) : linkView (assertEstop s) = linkView s := by
  have latched : linkView (endWidthJogs .eStop { s with estop := true }) = linkView s :=
    (linkView_of_hidden (hideGeometry_endWidthJog _ _ _)).trans ((linkView_of_hidden (hideGeometry_endWidthJog _ _ _)).trans rfl)
  unfold assertEstop
  dsimp only
  split
  · exact latched
  · rw [linkView_of_hidden (hideFeeds_eachFeed _ (hideFeeds_forceFeedOff .eStop) _), forceSidesOff,
      linkView_of_hidden (hideSides_forceSideOff _ _ _), linkView_of_hidden (hideSides_forceSideOff _ _ _)]
    exact latched
  · exact (linkView_takeModeChange _ _ _ _ _).trans latched

theorem linkView_consumeLevel (i : DigitalInput) (level : Bool) (s : State) : linkView (consumeLevel i level s) = linkView s := by
  cases i with
  | travelPulse =>
    simp only [consumeLevel]
    split
    · exact linkView_of_hidden (hideTravel_countEdge s)
    · rfl
  | travelDir => rfl
  | estop =>
    simp only [consumeLevel]
    split
    · exact linkView_assertEstop s
    · rfl
  | feedback z => exact (linkView_settleReadiness _).trans (linkView_of_hidden (hideHeat_feedbackChange z s))

theorem linkView_takeLevel (i : DigitalInput) (s : State) : linkView (takeLevel i s) = linkView s := by
  unfold takeLevel
  dsimp only
  split
  · rfl
  · exact (linkView_consumeLevel i _ _).trans rfl

theorem linkView_changePin (i : DigitalInput) (level : Bool) (s : State) : linkView (changePin i level s) = linkView s := by
  unfold changePin
  dsimp only
  repeat' split
  · rfl
  · exact (linkView_takeLevel i _).trans rfl
  · rfl

/-! ### Every command, every step -/

theorem exec_links {c : Instr} {s t : State} (e : exec c s = .next t) : LinksKept s t := by
  have request {p k tag} {serve : State → Served} (hs : ∀ s, ServedKept s (serve s)) (e : takeRequest p k tag serve s = t) :
      LinksKept s t :=
    e ▸ takeFrame_links (fun s _ => hs s) s
  have write {p tag x v} (e : takeRequest p .setItem tag (serveWrite p x v) s = t) : LinksKept s t := request (serveWrite_links p x v) e
  have timed {b : Bool} {act : State → State} (e : atMoment b act s = t) (h : LinksKept s (act s)) : LinksKept s t :=
    e ▸ atMoment_links h
  have unseen {b : Bool} {act : State → State} (e : atMoment b act s = t) (h : linkView (act s) = linkView s) : LinksKept s t :=
    timed e (.of_view h)
  cases c <;> (injection e with e)
  case reset => exact e ▸ resetFrom_links s
  case settingsLoadComplete b => exact e ▸ completeLoad_links b s
  case frameError p bytes => exact e ▸ receiveBytes_links p bytes s
  case frameGapExpiry p => exact timed e (endFrame_links p s)
  case linkDown p => exact timed e (linkSilent_links p s)
  case busy p kind tag payload => exact e ▸ takeRawFrame_links p kind tag payload s
  case unknownRequest p kind tag payload => exact e ▸ takeRawFrame_links p kind tag payload s
  case replySent p => exact e ▸ setPort_links (finishReply_up _).trans portSound_finishReply
  case status p tag => exact request (fun s => .done _ (.refl s)) e
  case readItem p tag g f n => exact request (serveReadItem_links g f n) e
  case setItem p tag g i v => exact request (serveSetItem_links p g i v) e
  case setSlotAddressWeight p tag x a v => exact request (serveSlotWrite_links p x a v) e
  case take p tag f o => exact e ▸ takeFrame_links (fun _ up => serveTake_links p f o up) s
  case release p tag f => exact request (serveRelease_links p f) e
  case go p tag g => exact request (serveGo_links p g) e
  case sideMode p tag d g => exact request (serveSideMode_links p d g) e
  case setReference p tag d => exact request (serveSetReference_links p d) e
  case jogGrade p tag d a n => exact request (serveJogGrade_links p d a n) e
  case jogFeed p tag c a n => exact request (serveJogFeed_links p c n) e
  case jogWidth p tag d a n => exact request (serveJogWidth_links p d a n) e
  case feedMode p tag c g => exact request (serveFeedMode_links p c g) e
  case clearFault p tag z => exact request (serveClearFault_links p z) e
  case clearHealth p tag z => exact request (serveClearHealth_links p z) e
  case mark p tag n => exact request (serveMark_links p n) e
  case writeJob p tag r l y n => exact request (serveRoadJob_links p r l y n) e
  case readRecords p tag a n k => exact request (serveReadRecords_links a n k) e
  case ackRecords p tag a n => exact request (serveAckRecords_links p a n) e
  case setClock p tag a b c d => exact request (serveSetClock_links p a b c d) e
  case storeSettings p tag => exact request (serveStoreSettings_links p) e
  case storeWriteEnd a b => exact e ▸ endStoreWrite_links a b s
  case analogConversion a raw => exact e ▸ .of_view (linkView_convert a raw s)
  case feedHoldExpiry c => exact timed e (.of_hidden (hideFeeds_expireHold c s))
  case pinChange i l => exact e ▸ .of_view (linkView_changePin i l s)
  case debounceExpiry i => exact unseen e (linkView_takeLevel i s)
  case elementCheckDelayEnd z =>
    exact unseen e ((linkView_settleReadiness _).trans (linkView_of_hidden (hideHeat_checkDelayEnd z s)))
  case sliceExpiry z => exact unseen e ((linkView_settleReadiness _).trans (linkView_of_hidden (hideHeat_expireSlice z s)))
  case speedWindowEnd => exact unseen e (linkView_endWindow s)
  case pauseDetectorFire => exact unseen e (linkView_takeModeChange _ _ _ _ s)
  case stopTimerMatch => exact unseen e (linkView_matchStop s)
  case clockStep => exact unseen e rfl
  case widthJogExpiry d => exact timed e (.of_hidden (hideGeometry_endWidthJog _ d s))
  case gradeJogExpiry d => exact timed e (.of_hidden (hideSides_endGradeJog d _ s))
  case feedJogExpiry c => exact timed e (.of_hidden (hideFeeds_endFeedJog _ c s))
  case sensorRoundStart => exact timed e (startRound_links s)
  case pollReply a b n => exact e ▸ (takePollReply_links a b n _).after rfl
  case pollTimeout => exact timed e (completePoll_links _ s)
  case sensorFrameDiscard bytes => exact e ▸ receiveSensorBytes_links bytes s
  case sensorFrameGapExpiry => exact unseen e rfl
  case scanLine n px => exact e ▸ .of_view ((linkView_takeScanLine n px _).trans rfl)
  case scanner => exact unseen e ((linkView_appendEvent _ _ _).trans rfl)
  case heatingMinute z => exact unseen e rfl
  all_goals exact write e

/-- One millisecond moves no holder, no link and no waiting reply. -/
theorem elapse_links (s : State) : LinksKept s (elapse s) := by
  have moved (p : Port) : (elapse s).ports.get p = elapsePort (s.ports.get p) := by cases p <;> rfl
  refine ⟨rfl, fun h => ?_, fun h => ?_⟩
  · rw [authoritySound_iff] at h ⊢
    intro f p hf
    rw [moved]
    exact h f p hf
  · rw [portsSound_iff] at h ⊢
    intro p
    rw [moved]
    exact h p

/-- Every step keeps the rules of the authority table and of the ports. -/
theorem step_links {s t : State} (e : step s = .next t) :
    (authoritySound s = true → authoritySound t = true) ∧ (portsSound s = true → portsSound t = true) := by
  unfold step at e
  split at e
  · injection e with e
    subst e
    exact ⟨(elapse_links s).authority, (elapse_links s).ports⟩
  · next c rest _ =>
    have kept : LinksKept { s with pending := rest } t := exec_links e
    exact ⟨kept.authority, kept.ports⟩

/-- R174: every command has a next state. -/
theorem exec_next (c : Instr) (s : State) : ∃ t, exec c s = .next t := by
  cases c <;> exact ⟨_, rfl⟩

end Sys2Proof.Machine

open Sys2Proof Sys2Proof.Machine

/-- Settles O7: a step keeps the rules of the authority table and of the ports. -/
theorem linkRulesKept : Obligations.LinkRulesKept := by
  unfold Obligations.LinkRulesKept
  exact ⟨fun _ _ sound e => (step_links e).1 sound, fun _ _ sound e => (step_links e).2 sound⟩

/-- Settles O2: every command has a next state, and `exec_links` shows the waiting commands in it. -/
theorem everyCommandIsTaken : Obligations.EveryCommandIsTaken := by
  unfold Obligations.EveryCommandIsTaken
  intro c s
  obtain ⟨t, e⟩ := exec_next c s
  exact ⟨t, e, (exec_links e).pending⟩
end

section
/-! PROOFS. The items that a station may write, by their group and index (section 12.1), and the SET_ITEM rows that name them (R171). -/

namespace Sys2Proof.Machine

open Sys2Proof

/-! ### Groups and indices (section 12.1) -/

theorem groupOfByte_code (g : ItemGroup) : groupOfByte (BitVec.ofNat 8 (groupCode g)) = some g := by cases g <;> rfl

theorem groupOfByte_unknown {b : Byte} (h : 13 < b.toNat) : groupOfByte b = none :=
  List.getElem?_eq_none (show allGroups.length ≤ b.toNat from h)

theorem analogCode_lt (a : AnalogChannel) : analogCode a < 14 := by
  cases a with
  | temp z => cases z <;> decide
  | ext d => cases d <;> decide
  | level c => cases c <;> decide

theorem inputCode_lt (i : DigitalInput) : inputCode i < 11 := by
  cases i with
  | feedback z => cases z <;> decide
  | travelPulse | travelDir | estop => decide

theorem outputCode_lt (o : Output) : outputCode o < 23 := by
  cases o with
  | gradeUp d | gradeDown d | widthIn d | widthOut d => cases d <;> decide
  | feed c => cases c <;> decide
  | contactor z => cases z <;> decide
  | travelPermit | genLoad | alarm => decide

/-- Section 11.1: an item of an analog channel stands at sixteen times the channel's number. -/
theorem settingsSetting_analog (a : AnalogChannel) {k : Nat} (h : k < 16) :
    settingsSetting (16 * analogCode a + k) = analogSetting a k := by
  have low := analogCode_lt a
  have listed : allAnalog[analogCode a]? = some a := by
    cases a with
    | temp z => cases z <;> rfl
    | ext d => cases d <;> rfl
    | level c => cases c <;> rfl
  have unit : (16 * analogCode a + k) / 16 = analogCode a := by omega
  have field : (16 * analogCode a + k) % 16 = k := by omega
  rw [settingsSetting, if_pos (by omega), unit, field, listed]
  rfl

/-- Section 11.2: an item of a digital input stands at four times the input's number behind the channels. -/
theorem settingsSetting_input (i : DigitalInput) {k : Nat} (h : k < 4) :
    settingsSetting (224 + 4 * inputCode i + k) = inputSetting i k := by
  have low := inputCode_lt i
  have listed : allInputs[inputCode i]? = some i := by
    cases i with
    | feedback z => cases z <;> rfl
    | travelPulse | travelDir | estop => rfl
  have unit : (224 + 4 * inputCode i + k - 224) / 4 = inputCode i := by omega
  have field : (224 + 4 * inputCode i + k - 224) % 4 = k := by omega
  rw [settingsSetting, if_neg (by omega), if_pos (by omega), unit, field, listed]
  rfl

/-- Section 11.3: an item of an output stands at four times the output's number behind the inputs. -/
theorem settingsSetting_output (o : Output) {k : Nat} (h : k < 4) :
    settingsSetting (272 + 4 * outputCode o + k) = outputSetting o k := by
  have low := outputCode_lt o
  have listed : allOutputs[outputCode o]? = some o := by
    cases o with
    | gradeUp d | gradeDown d | widthIn d | widthOut d => cases d <;> rfl
    | feed c => cases c <;> rfl
    | contactor z => cases z <;> rfl
    | travelPermit | genLoad | alarm => rfl
  have unit : (272 + 4 * outputCode o + k - 272) / 4 = outputCode o := by omega
  have field : (272 + 4 * outputCode o + k - 272) % 4 = k := by omega
  rw [settingsSetting, if_neg (by omega), if_neg (by omega), if_pos (by omega), unit, field, listed]
  rfl

/-- Section 12.1: an item stands at its group and index. -/
theorem settingAt_placeOf {x : Setting} (h : x ≠ .slotParam .slope .weight) : settingAt (placeOf x).1 (placeOf x).2 = some x := by
  cases x with
  | zoneSetpoint z k => cases k <;> cases z <;> rfl
  | exclude z | rating z => cases z <;> rfl
  | refKind d | minValid d => cases d <;> rfl
  | sideSetpoint d k => cases k <;> cases d <;> rfl
  | gain k p => cases k <;> cases p <;> rfl
  | slotParam x p =>
    cases x with
    | grade d k => cases p <;> cases d <;> cases k <;> rfl
    | slope =>
      cases p with
      | address => rfl
      | weight => exact absurd rfl h
  | levelSetpoint c | feedGain c | manualDuty c => cases c <;> rfl
  | screed part =>
    cases part with
    | main => rfl
    | boltOn d => cases d <;> rfl
  | scaling a p => cases p <;> exact settingsSetting_analog a (by decide)
  | input i p => cases p <;> exact settingsSetting_input i (by decide)
  | polarity o => exact settingsSetting_output o (by decide)
  | _ => rfl

theorem placeOf_small (x : Setting) : (placeOf x).2 < 65536 := by
  have zone (z : Zone) : zoneCode z ≤ 7 := by cases z <;> decide
  have side (d : Side) : sideCode d ≤ 1 := by cases d <;> decide
  have feed (c : FeedChannel) : feedCode c ≤ 3 := by cases c <;> decide
  have slot (k : Slot) : slotCode k ≤ 8 := by
    cases k with
    | slope => decide
    | grade d k => cases d <;> cases k <;> decide
  cases x with
  | zoneSetpoint z k => have := zone z; cases k <;> simp only [placeOf] <;> omega
  | exclude z | rating z => have := zone z; simp only [placeOf]; omega
  | refKind d | minValid d => have := side d; simp only [placeOf]; omega
  | sideSetpoint d k => have := side d; cases k <;> simp only [placeOf] <;> omega
  | gain k p => cases k <;> cases p <;> decide
  | slotParam k p => have := slot k; cases p <;> simp only [placeOf] <;> omega
  | levelSetpoint c | feedGain c | manualDuty c => have := feed c; simp only [placeOf]; omega
  | screed part =>
    cases part with
    | main => decide
    | boltOn d => have := side d; simp only [placeOf]; omega
  | scaling a p => have := analogCode_lt a; cases p <;> simp only [placeOf, scalingOffset] <;> omega
  | input i p => have := inputCode_lt i; cases p <;> simp only [placeOf] <;> omega
  | polarity o => have := outputCode_lt o; simp only [placeOf]; omega
  | _ => decide

/-! ### SET_ITEM by group and index (R171) -/

theorem serveSetItem_unknown {group : Byte} (h : 13 < group.toNat) (p : Port) (index : Half) (v : Word) (s : State) :
    serveSetItem p group index v s = refuse .unknown s := by
  unfold serveSetItem
  rw [groupOfByte_unknown h]

/-- R171 steps 2 and 3: an index that is no item a station may write. -/
theorem serveSetItem_readOnly {g : ItemGroup} {index : Half} (h : settingAt g index.toNat = none) (p : Port) (v : Word) (s : State) :
    serveSetItem p (BitVec.ofNat 8 (groupCode g)) index v s
      = refuse (if (readOnlyField s g index.toNat).isSome then .state else .unknown) s := by
  unfold serveSetItem
  rw [groupOfByte_code]
  simp only [h]
  cases readOnlyField s g index.toNat <;> rfl

/-- R171: SET_ITEM at the group and index of an item writes that item; the slope slot has no weight (R93). -/
theorem serveSetItem_place (x : Setting) (p : Port) (v : Word) (s : State) :
    serveSetItem p (BitVec.ofNat 8 (groupCode (placeOf x).1)) (BitVec.ofNat 16 (placeOf x).2) v s
      = if x = .slotParam .slope .weight then refuse .unknown s else serveWrite p x v s := by
  have index : (BitVec.ofNat 16 (placeOf x).2).toNat = (placeOf x).2 := by
    rw [BitVec.toNat_ofNat]
    exact Nat.mod_eq_of_lt (placeOf_small x)
  split
  · next weight =>
    subst weight
    exact serveSetItem_readOnly (g := .slot) (index := 129) rfl p v s
  · next named =>
    unfold serveSetItem
    rw [groupOfByte_code]
    simp only [index, settingAt_placeOf named]

/-- A row that names its item is the SET_ITEM of that item. -/
theorem exec_itemWrite {i : Instr} {p : Port} {tag : Byte} {x : Setting} {v : Word} (h : itemWriteOf i = some (p, tag, x, v)) (s : State) :
    exec i s = .next (takeRequest p .setItem tag
      (serveSetItem p (BitVec.ofNat 8 (groupCode (placeOf x).1)) (BitVec.ofNat 16 (placeOf x).2) v) s) := by
  have place : serveSetItem p (BitVec.ofNat 8 (groupCode (placeOf x).1)) (BitVec.ofNat 16 (placeOf x).2) v
      = fun u => if x = .slotParam .slope .weight then refuse .unknown u else serveWrite p x v u :=
    funext (serveSetItem_place x p v)
  rw [place]
  cases i <;> cases h
  case setSlotAddressWeight slot param =>
    have same : serveSlotWrite p slot param v
        = fun u => if Setting.slotParam slot param = .slotParam .slope .weight then refuse .unknown u
            else serveWrite p (.slotParam slot param) v u := by
      funext u
      simp [serveSlotWrite]
    rw [← same]
    rfl
  all_goals rfl

/-- R171: a write of an item, by its row or by its group and index, is served as the item's write. -/
theorem exec_writesItem {i : Instr} {p : Port} {tag : Byte} {x : Setting} {v : Word} (h : writesItem i p tag x v) (s : State) :
    exec i s = .next (takeRequest p .setItem tag (serveWrite p x v) s) := by
  obtain ⟨named, row | direct⟩ := h
  all_goals
    have place : serveSetItem p (BitVec.ofNat 8 (groupCode (placeOf x).1)) (BitVec.ofNat 16 (placeOf x).2) v = serveWrite p x v :=
      funext fun u => (serveSetItem_place x p v u).trans (if_neg named)
  · rw [exec_itemWrite row, place]
  · rw [direct, ← place]
    rfl

end Sys2Proof.Machine
end

section
/-! PROOFS. The bytes of a station line (R161): what the receiver makes of each frame. O13. -/

namespace Sys2Proof.Machine

open Sys2Proof

/-! ### The receiver, frame by frame -/

section
variable {p : Port}

@[simp] theorem receive_nil (n : Nat) (s : State) : receive p n [] s = s := by cases n <;> rfl

/-- What is no SYNC is skipped. -/
theorem receive_skip {b : Byte} (h : b ≠ stationSync) (n : Nat) (rest : List Byte) (s : State) :
    receive p (n + 1) (b :: rest) s = receive p n rest s := by
  simp only [receive, if_pos h]

/-- R161: bytes without a SYNC are skipped. -/
theorem receive_noSync (n : Nat) {bytes : List Byte} (h : stationSync ∉ bytes) (s : State) : receive p n bytes s = s := by
  induction bytes generalizing n with
  | nil => exact receive_nil n s
  | cons b rest ih =>
    obtain ⟨first, others⟩ := List.ne_and_not_mem_of_not_mem_cons h
    cases n with
    | zero => rfl
    | succ n => rw [receive_skip (Ne.symm first), ih n others]

/-- A frame that breaks off in its LEN is held. -/
theorem receive_partLength {rest : List Byte} (h : rest.length < 2) (n : Nat) (s : State) :
    receive p (n + 1) (stationSync :: rest) s = holdFrame p (stationSync :: rest) s := by
  match rest, h with
  | [], _ | [_], _ => simp [receive]

variable {lo hi : Byte}

theorem lengthGood_iff (len : Nat) : lengthGood len = true ↔ 2 ≤ len ∧ len ≤ 768 := by simp [lengthGood]

/-- A LEN out of its range ends the frame, which is counted. -/
theorem receive_badLength (h : (half lo hi).toNat < 2 ∨ 768 < (half lo hi).toNat) (n : Nat) (more : List Byte) (s : State) :
    receive p (n + 1) (stationSync :: lo :: hi :: more) s = receive p n more (countFrameError p s) := by
  have bad : lengthGood (half lo hi).toNat = false := by
    rw [Bool.eq_false_iff, ne_eq, lengthGood_iff]
    omega
  simp [receive, bad]

variable (good : 2 ≤ (half lo hi).toNat ∧ (half lo hi).toNat ≤ 768)
include good

/-- A frame that the bytes do not end is held. -/
theorem receive_held {more : List Byte} (short : more.length < (half lo hi).toNat + 1) (n : Nat) (s : State) :
    receive p (n + 1) (stationSync :: lo :: hi :: more) s = holdFrame p (stationSync :: lo :: hi :: more) s := by
  simp [receive, (lengthGood_iff _).mpr good, short]

/-- A complete frame is taken when its sum is zero, and counted when not. -/
theorem receive_complete {more : List Byte} (full : more.length = (half lo hi).toNat + 1) (n : Nat) (s : State) :
    receive p (n + 1) (stationSync :: lo :: hi :: more) s
      = if byteSum (lo :: hi :: more) = 0 then takeFrameBytes p more s else countFrameError p s := by
  simp only [receive, ne_eq, not_true_eq_false, if_false, (lengthGood_iff _).mpr good, Bool.true_eq_false, full, lt_irrefl,
    List.take_of_length_le full.le, List.drop_of_length_le full.le, receive_nil]

end

/-! ### The receiver in its state -/

theorem endFrame_hunting {p : Port} {s : State} (h : (s.ports.get p).receiver = .hunting) : endFrame p s = s := by
  simp [endFrame, h, setPort]

/-- R161: bytes that reach a receiver which hunts, or whose frame a gap has ended, are hunted from the first. -/
theorem receiveBytes_afresh {p : Port} {bytes : List Byte} {s : State}
    (h : (s.ports.get p).receiver = .hunting ∨ ∃ taken gap, (s.ports.get p).receiver = .inFrame taken gap ∧ 2 < gap) (hb : bytes ≠ []) :
    receiveBytes p bytes s = receive p bytes.length bytes (endFrame p s) := by
  rcases h with hunting | ⟨taken, gap, held, late⟩
  · rw [receiveBytes_hunting hunting, endFrame_hunting hunting]
  · simp only [receiveBytes, held, if_neg hb, if_neg (Nat.not_lt.mpr late)]

/-- R161: bytes that come within 2 ms go on with the frame. -/
theorem receiveBytes_goesOn {p : Port} {taken bytes : List Byte} {gap : Nat} {s : State}
    (h : (s.ports.get p).receiver = .inFrame taken gap) (hg : gap ≤ 2) (hb : bytes ≠ []) :
    receiveBytes p bytes s = receiveBytes p (taken ++ bytes) (setPort p { s.ports.get p with receiver := .hunting } s) := by
  rw [receiveBytes_hunting (s := setPort p { s.ports.get p with receiver := .hunting } s) (by simp)]
  simp only [receiveBytes, h, if_neg hb, if_pos (Nat.lt_succ_of_le hg)]

/-- R161: a frame that a gap ends is counted, and the receiver hunts. -/
theorem endFrame_inFrame {p : Port} {taken : List Byte} {gap : Nat} {s : State} (h : (s.ports.get p).receiver = .inFrame taken gap) :
    endFrame p s
      = setPort p { s.ports.get p with receiver := .hunting, frameErrors := min 65535 ((s.ports.get p).frameErrors + 1) } s := by
  unfold endFrame
  rw [dropFrame_inFrame h]
  rfl

/-- R161: a frame that its own bytes spoil is counted while the receiver hunts. -/
theorem countFrameError_hunting {p : Port} {s : State} (h : (s.ports.get p).receiver = .hunting) :
    countFrameError p s
      = setPort p { s.ports.get p with receiver := .hunting, frameErrors := min 65535 ((s.ports.get p).frameErrors + 1) } s := by
  rw [← h]
  rfl

theorem exec_frameError (p : Port) (bytes : List Byte) (s : State) : exec (.frameError p bytes) s = .next (receiveBytes p bytes s) := rfl

theorem exec_frameError_hunting {p : Port} {s : State} (h : (s.ports.get p).receiver = .hunting) (bytes : List Byte) :
    exec (.frameError p bytes) s = .next (receive p bytes.length bytes s) := by
  rw [exec_frameError, receiveBytes_hunting h]

theorem exec_frameGapExpiry (p : Port) (s : State) :
    exec (.frameGapExpiry p) s = .next (if gapReached (s.ports.get p).receiver then endFrame p s else s) := rfl

end Sys2Proof.Machine

open Sys2Proof Sys2Proof.Machine

/-- Settles O13: the end of a gap by `endFrame_inFrame`, and the frames of a hunting receiver one by one. -/
theorem discardedFrameIsOnlyCounted : Obligations.DiscardedFrameIsOnlyCounted := by
  unfold Obligations.DiscardedFrameIsOnlyCounted
  intro s p bytes lo hi r counted held
  refine ⟨fun taken gap inFrame => ⟨fun late => ⟨?_, fun some => ?_⟩, fun early => ⟨?_, fun some => ?_⟩⟩, fun hunting => ?_⟩
  · rw [exec_frameGapExpiry, inFrame, endFrame_inFrame inFrame]
    exact congrArg Host.Outcome.next (if_pos (decide_eq_true late))
  · have hunts : (counted.ports.get p).receiver = .hunting := by simp [counted]
    rw [exec_frameError, receiveBytes_afresh (.inr ⟨taken, gap, inFrame, late⟩) some, endFrame_inFrame inFrame,
      exec_frameError_hunting hunts]
  · rw [exec_frameGapExpiry, inFrame]
    refine congrArg Host.Outcome.next (if_neg ?_)
    simp only [gapReached, decide_eq_true_eq]
    omega
  · rw [exec_frameError, exec_frameError, receiveBytes_goesOn inFrame early some]
  · simp only [exec_frameError_hunting hunting, List.length_cons]
    have spoiled : countFrameError p s = counted := countFrameError_hunting hunting
    refine ⟨?_, fun noSync => ?_, fun short => ?_, fun bad noSync => ?_, fun low high short => ?_, fun low high full sum => ?_⟩
    · rw [exec_frameGapExpiry, hunting]
      rfl
    · rw [receive_noSync _ noSync]
    · exact congrArg Host.Outcome.next (receive_partLength short _ s)
    · rw [receive_badLength bad, receive_noSync _ noSync, spoiled]
    · exact congrArg Host.Outcome.next (receive_held ⟨low, high⟩ short _ s)
    · rw [receive_complete ⟨low, high⟩ full, if_neg sum, spoiled]
end

section
/-! PROOFS. Request frames, byte by byte (R161, R163, R184): what a station spells is what the receiver takes. O14. -/

namespace Sys2Proof.Machine

open Sys2Proof

/-! ### A frame that is complete and good -/

/-- R184: a number below 65536 is read from its two bytes. -/
theorem half_ofNat {n : Nat} (h : n < 65536) : (half (BitVec.ofNat 8 n) (BitVec.ofNat 8 (n / 256))).toNat = n := by
  simp only [half, BitVec.toNat_append, BitVec.toNat_ofNat]
  rw [← Nat.shiftLeft_add_eq_or_of_lt (Nat.mod_lt _ (by decide)), Nat.shiftLeft_eq]
  omega

theorem word_wordBytes (w : Word) :
    word (w.setWidth 8) ((w >>> 8).setWidth 8) ((w >>> 16).setWidth 8) ((w >>> 24).setWidth 8) = w := by
  ext k hk
  simp [word]
  grind

/-- R161: a hunting receiver takes a request frame as the raw frame it spells. -/
theorem receive_requestFrame {payload : List Byte} (h : payload.length ≤ 766) (p : Port) (kind tag : Byte) (n : Nat) (s : State) :
    receive p (n + 1) (requestFrame kind tag payload) s = takeRawFrame p kind tag payload s := by
  have len := half_ofNat (n := 2 + payload.length) (by omega)
  let body := u16 (2 + payload.length) ++ [kind, tag] ++ payload
  have sum : byteSum (body ++ [checkByte body]) = 0 := (byteSum_append_eq_zero_iff _ _).mpr rfl
  have taken : takeFrameBytes p (kind :: tag :: (payload ++ [checkByte body])) s = takeRawFrame p kind tag payload s := by
    rw [takeFrameBytes, List.dropLast_concat]
  refine (receive_complete (more := kind :: tag :: (payload ++ [checkByte body])) ?_ ?_ n s).trans ((if_pos ?_).trans taken)
  · omega
  · simp only [len, List.length_cons, List.length_append, List.length_nil]
    omega
  · exact (congrArg byteSum (by simp [body, u16])).trans sum

/-- R161: a good frame drops the frame that a gap has ended, as the receiver does before it hunts. -/
theorem takeFrame_endFrame (p : Port) (kind tag : Byte) (serve : State → Served) (s : State) :
    takeFrame p kind tag serve (endFrame p s) = takeFrame p kind tag serve s := by
  have heard : hearFrame p (endFrame p s) = hearFrame p s := by
    simp [hearFrame, endFrame, heardBy, setPort]
  have flight : ((endFrame p s).ports.get p).inFlight = (s.ports.get p).inFlight := by
    simp only [endFrame, setPort_ports, PerPort.get_set_same, dropFrame]
    split <;> rfl
  unfold takeFrame
  rw [heard, flight]

/-- R161, R163: the bytes of a request frame are the raw frame they spell. -/
theorem exec_requestFrame {w : Spelled} {s : State} (h : w.payload.length ≤ 766)
    (afresh : (s.ports.get w.port).receiver = .hunting
      ∨ ∃ taken gap, (s.ports.get w.port).receiver = .inFrame taken gap ∧ 2 < gap) :
    exec (.frameError w.port (requestFrame w.kind w.tag w.payload)) s = .next (takeRawFrame w.port w.kind w.tag w.payload s) := by
  refine congrArg Host.Outcome.next ((receiveBytes_afresh afresh (List.cons_ne_nil _ _)).trans ?_)
  exact (receive_requestFrame h _ _ _ _ _).trans (takeFrame_endFrame _ _ _ _ s)

/-! ### The requests as they are spelled (section 12.2) -/

/-- A payload of a kind is served as the request it reads as. -/
theorem serveFrame_read {k : RequestKind} {payload : List Byte} {q : Request} (h : readPayload k payload = some q) (p : Port) :
    serveFrame p (kindByte k) payload = serveRequest p q := by
  funext s
  unfold serveFrame requestOf
  rw [kindOfByte_kindByte, Option.bind_some, h]

theorem readPayload_setItem (group : Byte) (index : Half) (value : Word) :
    readPayload .setItem (setItemPayload group index value) = some (.setItem group index value) := by
  have bytes (i0 i1 v0 v1 v2 v3 z0 z1 z2 z3 : Byte) :
      readPayload .setItem [group, i0, i1, v0, v1, v2, v3, z0, z1, z2, z3]
        = some (.setItem group (half i0 i1) (word v0 v1 v2 v3)) := rfl
  exact (bytes _ _ _ _ _ _ _ _ _ _).trans (by rw [half_halfBytes, word_wordBytes])

theorem readPayload_writeJob {road : List Byte} (h : road.length = 16) (lane layer : Byte) (start : Word) :
    readPayload .writeJob (road ++ [lane, layer] ++ wordBytes start) = some (.writeJob road lane layer start) := by
  have rest : (road ++ [lane, layer] ++ wordBytes start).drop 16 = [lane, layer] ++ wordBytes start := by
    rw [List.append_assoc, ← h, List.drop_left]
  have first : (road ++ [lane, layer] ++ wordBytes start).take 16 = road := by rw [List.append_assoc, ← h, List.take_left]
  have bytes {all : List Byte} {s0 s1 s2 s3 : Byte} (split : all.drop 16 = [lane, layer, s0, s1, s2, s3]) :
      readPayload .writeJob all = some (.writeJob (all.take 16) lane layer (word s0 s1 s2 s3)) := by
    change (match all.drop 16 with
      | [lane, layer, s0, s1, s2, s3] => some (Request.writeJob (all.take 16) lane layer (word s0 s1 s2 s3))
      | _ => none) = _
    rw [split]
  exact (bytes rest).trans (by rw [first, word_wordBytes])

/-- A raw frame of a request kind is taken as the request. -/
theorem takeRawFrame_read {k : RequestKind} {payload : List Byte} {q : Request} (h : readPayload k payload = some q) (p : Port)
    (tag : Byte) (s : State) : takeRawFrame p (kindByte k) tag payload s = takeRequest p k tag (serveRequest p q) s := by
  rw [takeRawFrame, serveFrame_read h, takeRequest]

theorem exec_spellWrite {i : Instr} {w : Port × Byte × Setting × Word} (h : itemWriteOf i = some w) (s : State) :
    exec i s = .next (takeRawFrame (spellWrite w).port (spellWrite w).kind (spellWrite w).tag (spellWrite w).payload s) := by
  obtain ⟨p, tag, x, v⟩ := w
  rw [exec_itemWrite h]
  exact congrArg Host.Outcome.next (takeRawFrame_read (readPayload_setItem _ _ _) p tag s).symm

/-- R163: a request row is the raw frame it is spelled with. -/
theorem exec_spelled {i : Instr} {w : Spelled} (wf : i.wf = true) (h : spellingOf i = some w) (s : State) :
    exec i s = .next (takeRawFrame w.port w.kind w.tag w.payload s) := by
  have read (k : RequestKind) {p : Port} {tag : Byte} {payload} (q : Request) (e : readPayload k payload = some q) :
      Host.Outcome.next (φ := Fault) (ρ := Refusal) (takeRequest p k tag (serveRequest p q) s)
        = .next (takeRawFrame p (kindByte k) tag payload s) :=
    congrArg Host.Outcome.next (takeRawFrame_read e p tag s).symm
  have jog (p : Port) (tag target direction duration : Byte) :=
    read .jog (p := p) (tag := tag) (payload := [target, direction, duration]) (.jog target direction duration) rfl
  cases i
  case busy | unknownRequest => cases h; rfl
  case status p tag => cases h; exact read .status .status rfl
  case take p tag function override => cases h; exact read .take (.take function override) rfl
  case release p tag function => cases h; exact read .release (.release function) rfl
  case go p tag target => cases h; exact read .go (.go target) rfl
  case sideMode p tag side target => cases h; exact read .sideMode (.sideMode side target) rfl
  case setReference p tag side => cases h; exact read .setReference (.setReference side) rfl
  case feedMode p tag channel target => cases h; exact read .feedMode (.feedMode channel target) rfl
  case clearFault p tag zone => cases h; exact read .clearFault (.clearFault zone) rfl
  case clearHealth p tag zone => cases h; exact read .clearHealth (.clearHealth zone) rfl
  case mark p tag code => cases h; exact read .mark (.mark code) rfl
  case storeSettings p tag => cases h; exact read .storeSettings .storeSettings rfl
  case readItem p tag group first count =>
    cases h
    exact read .readItem (.readItem group first count) (congrArg (fun n => some (Request.readItem group n count)) (half_halfBytes first))
  case setItem p tag group index value =>
    cases h
    exact read .setItem (.setItem group index value) (readPayload_setItem group index value)
  case jogGrade p tag d direction duration =>
    cases h
    have jog := jog p tag (BitVec.ofNat 8 (sideCode d)) direction duration
    cases d <;> exact jog
  case jogFeed p tag c direction duration =>
    cases h
    have jog := jog p tag (BitVec.ofNat 8 (2 + feedCode c)) direction duration
    cases c <;> exact jog
  case jogWidth p tag d direction duration =>
    cases h
    have jog := jog p tag (BitVec.ofNat 8 (6 + sideCode d)) direction duration
    cases d <;> exact jog
  case writeJob p tag road lane layer start =>
    cases h
    exact read .writeJob (.writeJob road lane layer start) (readPayload_writeJob (of_decide_eq_true wf) lane layer start)
  case readRecords p tag area start count =>
    cases h
    exact read .readRecords (.readRecords area start count)
      (congrArg (fun n => some (Request.readRecords area n count)) (word_wordBytes start))
  case ackRecords p tag area sequence =>
    cases h
    exact read .ackRecords (.ackRecords area sequence) (congrArg (fun n => some (Request.ackRecords area n)) (word_wordBytes sequence))
  case setClock p tag day hour minute second =>
    cases h
    exact read .setClock (.setClock day hour minute second)
      (congrArg (fun n => some (Request.setClock n hour minute second)) (half_halfBytes day))
  all_goals cases h
  all_goals exact exec_spellWrite rfl s

theorem spelled_fits {i : Instr} {w : Spelled} (wf : i.wf = true) (h : spellingOf i = some w) : w.payload.length ≤ 766 := by
  cases i <;> cases h
  case busy | unknownRequest => exact of_decide_eq_true wf
  case writeJob p tag road lane layer start =>
    have length : road.length = 16 := of_decide_eq_true wf
    simp [wordBytes, length]
  all_goals simp [halfBytes, wordBytes, setItemPayload, spellWrite, spellJog]

end Sys2Proof.Machine

open Sys2Proof Sys2Proof.Machine

/-- Settles O14: a request row's frame is taken as the raw frame it spells, and so is the row; a row that names its item is the SET_ITEM
of that item by `exec_itemWrite`. -/
theorem requestFramesSpellTheirCommands : Obligations.RequestFramesSpellTheirCommands := by
  unfold Obligations.RequestFramesSpellTheirCommands
  refine ⟨fun i w s wf spelled afresh => ?_, fun i p tag x v s h => exec_itemWrite h s⟩
  rw [exec_requestFrame (spelled_fits wf spelled) afresh, exec_spelled wf spelled]
end

section
/-! PROOFS. What STATUS shows and the alarms and outputs as functions of the state (R173, R179). O17. -/

namespace Sys2Proof.Machine

open Sys2Proof

/-! ### The STATUS payload, byte by byte (section 12.3) -/

/-- A flag's byte. -/
def flagByte (b : Bool) : Byte := if b then 1 else 0

theorem boolByte_eq (b : Bool) : boolByte b = [flagByte b] := by cases b <;> rfl

/-- A holder's byte. -/
def holderNumber : Option Port → Byte
  | some p => BitVec.ofNat 8 (portCode p)
  | none => 0xFF

theorem holderByte_eq (h : Option Port) : holderByte h = [holderNumber h] := by cases h <;> rfl

/-- The 16 bytes in front of the listed alarms. -/
def statusHead (s : State) (p : Port) : List Byte :=
  [BitVec.ofNat 8 (modeCode s.mode), flagByte s.pavePending, flagByte s.readiness, flagByte s.estop]
    ++ (allFunctions.map fun f => holderNumber (holderOf s.authority f)) ++ u16 (functionMask s.authority p)
    ++ u8 (standingAlarms s).length

/-- The 16 bytes behind the listed alarms. -/
def statusTail (s : State) : List Byte := u32 (unacked s.mat) ++ u32 (unacked s.events) ++ u32 s.mat.newest ++ u32 s.events.newest

/-- The codes of the standing alarms. -/
def alarmBytes (s : State) : List Byte := (standingAlarms s).map fun a => BitVec.ofNat 8 (alarmCode a)

theorem statusPayload_eq (s : State) (p : Port) : statusPayload s p = statusHead s p ++ (alarmBytes s ++ statusTail s) := by
  have singles {α : Type} (f : α → Byte) (l : List α) : (l.map fun x => [f x]).flatten = l.map f := by
    rw [← List.flatMap_def, ← List.map_eq_flatMap]
  have listed : ((standingAlarms s).map fun a => u8 (alarmCode a)).flatten = alarmBytes s := singles _ _
  simp only [statusPayload, listed, boolByte_eq, holderByte_eq, singles]
  simp [statusHead, statusTail, u8]

@[simp] theorem statusHead_length (s : State) (p : Port) : (statusHead s p).length = 16 := rfl

@[simp] theorem statusTail_length (s : State) : (statusTail s).length = 16 := rfl

@[simp] theorem alarmBytes_length (s : State) : (alarmBytes s).length = (standingAlarms s).length := List.length_map ..

theorem statusPayload_length (s : State) (p : Port) : (statusPayload s p).length = 32 + (standingAlarms s).length := by
  rw [statusPayload_eq, List.length_append, List.length_append, statusHead_length, alarmBytes_length, statusTail_length]
  omega

/-- R173: at most eleven alarms stand. -/
theorem standingAlarms_length_le (s : State) : (standingAlarms s).length ≤ 11 := List.length_filter_le _ allAlarms

theorem statusPayload_drop (s : State) (p : Port) : (statusPayload s p).drop 16 = alarmBytes s ++ statusTail s := by
  rw [statusPayload_eq]
  exact List.drop_left (l₁ := statusHead s p)

theorem statusPayload_alarms (s : State) (p : Port) : ((statusPayload s p).drop 16).take (standingAlarms s).length = alarmBytes s := by
  rw [statusPayload_drop, ← alarmBytes_length, List.take_left]

theorem statusPayload_tail (s : State) (p : Port) : (statusPayload s p).drop (16 + (standingAlarms s).length) = statusTail s := by
  rw [← List.drop_drop, statusPayload_drop, ← alarmBytes_length, List.drop_left]

theorem statusPayload_holder (s : State) (p : Port) (f : Function) :
    (statusPayload s p)[4 + functionCode f]? = (holderByte (holderOf s.authority f)).head? := by
  rw [statusPayload_eq, holderByte_eq]
  cases f with
  | grade d | feed d | width d => cases d <;> rfl
  | mode | heat | records => rfl

/-- R173: STATUS reads the state as its port's opening leaves it, which shows in no byte. -/
theorem statusPayload_withOpened (p : Port) (kind tag : Byte) (s : State) :
    statusPayload (withOpened p kind tag s) p = statusPayload s p := rfl

/-- R163, R173: STATUS is served in every mode. -/
theorem exec_status {p : Port} {tag : Byte} {s : State} (h : (s.ports.get p).inFlight = none) :
    exec (.status p tag) s = .next (withReply p (kindByte .status) tag (okAnswer (statusPayload s p)) s) := by
  refine congrArg Host.Outcome.next ((takeFrame_accepted h (.inr rfl)).trans ?_)
  exact deliver_withOpened (a := okAnswer (statusPayload s p))

/-! ### The standing alarms (R173) -/

theorem mem_allAlarms (a : Alarm) : a ∈ allAlarms := by cases a <;> decide

theorem mem_standingAlarms (s : State) (a : Alarm) : a ∈ standingAlarms s ↔ alarmStands s a = true := by
  simp [standingAlarms, mem_allAlarms]

theorem standingAlarms_ordered (s : State) : (standingAlarms s).Pairwise fun a b => alarmCode a < alarmCode b :=
  List.Pairwise.filter _ (by decide)

/-- A test of both sides. -/
theorem or_sides_iff (f : Side → Bool) : (f .left || f .right) = true ↔ ∃ d, f d = true := by
  rw [Bool.or_eq_true]
  refine ⟨fun h => h.elim (⟨_, ·⟩) (⟨_, ·⟩), ?_⟩
  rintro ⟨d, h⟩
  cases d
  · exact .inl h
  · exact .inr h

theorem geometryStale_iff (s : State) : geometryStale s = true ↔ ∃ d : Side, (s.geometry.get d).stale = true :=
  or_sides_iff fun d => (s.geometry.get d).stale

theorem sideHolds_iff (s : State) : (sideHolds s .left || sideHolds s .right) = true ↔ ∃ d : Side, (s.sides.get d).state = .hold :=
  (or_sides_iff (sideHolds s)).trans (exists_congr fun _ => decide_eq_true_iff)

theorem feedHolding_iff (s : State) :
    feedHolding s = true ↔ ∃ c : FeedChannel, (s.feed.get c).state = .holdLast ∨ (s.feed.get c).state = .sensorHold := by
  simp [feedHolding, mem_allFeed]

theorem nearFull_iff {α : Type} (a : Area α) (capacity : Nat) :
    nearFull a capacity = true ↔ 9 * capacity ≤ 10 * (a.newest - a.ackPoint) := by
  rw [nearFull, decide_eq_true_iff, unacked, Nat.mul_comm, Nat.mul_comm _ 10]

theorem lossStands_iff {α : Type} (a : Area α) : lossStands a = true ↔ a.lostAtAck < a.lost := decide_eq_true_iff

theorem readinessLost_iff (s : State) : readinessLost s = true ↔ (s.mode = .paving ∨ s.mode = .paused) ∧ s.readiness = false := by
  simp [readinessLost]

/-! ### Outputs (R179) -/

theorem pinHighShare_high {s : State} {o : Output} (h : s.settings.polarity.get o = .activeHigh) :
    pinHighShare s o = if isPwm o then driven s o else 1000 * driven s o := by
  simp only [pinHighShare, h]

theorem pinHighShare_low {s : State} {o : Output} (h : s.settings.polarity.get o = .activeLow) :
    pinHighShare s o = 1000 - if isPwm o then driven s o else 1000 * driven s o := by
  simp only [pinHighShare, h]

end Sys2Proof.Machine

open Sys2Proof Sys2Proof.Machine

/-- Settles O17: the payload by its three parts (`statusPayload_eq`), each alarm by its condition, each output by its owner. -/
theorem statusAndOutputsShowTheState : Obligations.StatusAndOutputsShowTheState := by
  unfold Obligations.StatusAndOutputsShowTheState
  refine ⟨fun p tag s idle => ⟨statusPayload s p, exec_status idle, statusPayload_length s p, ?_, ?_, statusPayload_holder s p, ?_, ?_,
    statusPayload_alarms s p, statusPayload_tail s p⟩, fun s => ⟨standingAlarms_ordered s, fun a => ?_⟩, fun s o => ⟨?_, rfl, ?_⟩⟩
  · rw [statusPayload_length]
    have := standingAlarms_length_le s
    omega
  · simp only [boolByte_eq]
    rw [statusPayload_eq]
    rfl
  · rw [statusPayload_eq]
    rfl
  · rw [statusPayload_eq]
    rfl
  · rw [mem_standingAlarms]
    cases a with
    | zoneFault => simp [alarmStands, mem_allZones]
    | overtemp => simp [alarmStands, mem_allZones]
    | sideHold => exact sideHolds_iff s
    | feedHold => exact feedHolding_iff s
    | sensorLink => exact decide_eq_true_iff
    | scanner | settingsDefaulted => exact Iff.rfl
    | recordNearFull => exact (Bool.or_eq_true_iff).trans (or_congr (nearFull_iff _ _) (nearFull_iff _ _))
    | recordLoss => exact (Bool.or_eq_true_iff).trans (or_congr (lossStands_iff _) (lossStands_iff _))
    | geometryStale => exact geometryStale_iff s
    | readinessLost => exact readinessLost_iff s
  · cases o with
    | genLoad | alarm => simp [commanded, List.length_eq_zero_iff]
    | _ => rfl
  · cases o <;> exact ⟨fun high => pinHighShare_high high, fun low => pinHighShare_low low⟩
end

section
/-! PROOFS. READ_ITEM (R170): what the fields of items are and how they are carried. O18. -/

namespace Sys2Proof.Machine

open Sys2Proof

/-! ### Every item field has eight bytes (R184) -/

/-- An item field, where there is one, has eight bytes. -/
def eightBytes (field : Option (List Byte)) : Prop := ∀ bs, field = some bs → bs.length = 8

@[simp] theorem eightBytes_none : eightBytes none := nofun

@[simp] theorem eightBytes_some (bs : List Byte) : eightBytes (some bs) ↔ bs.length = 8 :=
  ⟨fun h => h bs rfl, by rintro h _ ⟨⟩; exact h⟩

theorem eightBytes_bind {α : Type} {f : α → Option (List Byte)} (h : ∀ a, eightBytes (f a)) (o : Option α) : eightBytes (o.bind f) := by
  cases o with
  | none => exact eightBytes_none
  | some a => exact h a

theorem eightBytes_map {α : Type} {f : α → List Byte} (h : ∀ a, (f a).length = 8) (o : Option α) : eightBytes (o.map f) := by
  cases o with
  | none => exact eightBytes_none
  | some a => exact (eightBytes_some _).mpr (h a)

@[simp] theorem field_length (bs : List Byte) : (field bs).length = 8 := by simp [field]

@[simp] theorem natField_length (n : Nat) : (natField n).length = 8 := field_length _

@[simp] theorem numField_length (v : Int) : (numField v).length = 8 := field_length _

@[simp] theorem pairField_length (b : Bool) : (pairField b).length = 8 := natField_length _

@[simp] theorem clockField_length (c : ClockValue) : (clockField c).length = 8 := field_length _

@[simp] theorem sequenceItem_length (n : Nat) : (sequenceItem n).length = 8 := field_length _

@[simp] theorem widthJogField_length (r : Extension) : (widthJogField r).length = 8 := field_length _

@[simp] theorem optionField_length (v : Option Nat) : (optionField v).length = 8 := by
  cases v with
  | none => rfl
  | some n => exact natField_length n

@[simp] theorem markField_length (mark : Option Int) : (markField mark).length = 8 := by
  cases mark with
  | none => rfl
  | some m => exact numField_length m

@[simp] theorem grantStartField_length (g : Option Grant) : (grantStartField g).length = 8 := by
  cases g with
  | none => rfl
  | some g => exact clockField_length _

@[simp] theorem outputValueField_length (o : Output) (v : Int) : (outputValueField o v).length = 8 := by
  unfold outputValueField
  split <;> simp

/-! #### The tables of fields, group by group -/

section
variable (s : State)

theorem systemItem_eight (n : Nat) : eightBytes (systemItem s n) := by unfold systemItem; split <;> simp

theorem zoneField_eight (z : Zone) (n : Nat) : eightBytes (zoneField s z n) := by unfold zoneField; split <;> simp

theorem zoneItem_eight (n : Nat) : eightBytes (zoneItem s n) := by
  unfold zoneItem
  split
  · simp
  · exact eightBytes_bind (fun z => zoneField_eight s z _) _

theorem healthField_eight (h : Health) (n : Nat) : eightBytes (healthField h n) := by unfold healthField; split <;> simp

theorem budgetItem_eight (n : Nat) : eightBytes (budgetItem s n) := by
  unfold budgetItem
  split_ifs
  case pos | pos | pos | pos => simp
  case pos => exact eightBytes_map (fun z => optionField_length _) _
  case pos => exact eightBytes_map (fun z => grantStartField_length _) _
  case neg => simp

theorem sideField_eight (d : Side) (n : Nat) : eightBytes (sideField s d n) := by unfold sideField; split <;> simp

theorem sideItem_eight (n : Nat) : eightBytes (sideItem s n) := by
  unfold sideItem
  split
  case h_4 => exact eightBytes_bind (fun d => sideField_eight s d _) _
  all_goals simp

theorem slotField_eight (x : Slot) (n : Nat) : eightBytes (slotField s x n) := by
  unfold slotField
  split
  · simp
  · split <;> simp

theorem feedField_eight (c : FeedChannel) (n : Nat) : eightBytes (feedField s c n) := by unfold feedField; split <;> simp

theorem geometryItem_eight (n : Nat) : eightBytes (geometryItem s n) := by unfold geometryItem; split <;> simp

theorem travelItem_eight (n : Nat) : eightBytes (travelItem s n) := by unfold travelItem; split <;> simp

theorem clockItem_eight (n : Nat) : eightBytes (clockItem s n) := by unfold clockItem; split <;> simp

theorem jobItem_eight (n : Nat) : eightBytes (jobItem s n) := by unfold jobItem; split <;> simp

theorem areaField_eight {α : Type} (a : Area α) (capacity n : Nat) : eightBytes (areaField a capacity n) := by
  unfold areaField; split <;> simp

theorem areaItem_eight (n : Nat) : eightBytes (areaItem s n) := by
  unfold areaItem
  split
  · simp
  split
  · simp
  split
  · exact areaField_eight _ _ _
  · exact areaField_eight _ _ _
  · simp

theorem portField_eight (p : Port) (n : Nat) : eightBytes (portField s p n) := by unfold portField; split <;> simp

theorem analogField_eight (a : AnalogChannel) (n : Nat) : eightBytes (analogField s a n) := by unfold analogField; split <;> simp

theorem inputField_eight (i : DigitalInput) (n : Nat) : eightBytes (inputField s i n) := by unfold inputField; split <;> simp

theorem outputField_eight (o : Output) (n : Nat) : eightBytes (outputField s o n) := by unfold outputField; split <;> simp

theorem storeItem_eight (st : Store) (n : Nat) : eightBytes (storeItem st n) := by unfold storeItem; split <;> simp

theorem settingsItem_eight (n : Nat) : eightBytes (settingsItem s n) := by
  unfold settingsItem
  split
  · exact eightBytes_bind (fun a => analogField_eight s a _) _
  split
  · exact eightBytes_bind (fun i => inputField_eight s i _) _
  split
  · exact eightBytes_bind (fun o => outputField_eight s o _) _
  · exact storeItem_eight _ _

theorem readOnlyField_eight (g : ItemGroup) (n : Nat) : eightBytes (readOnlyField s g n) := by
  cases g with
  | system => exact systemItem_eight s n
  | zone => exact zoneItem_eight s n
  | health => exact eightBytes_bind (fun z => healthField_eight _ _) _
  | budget => exact budgetItem_eight s n
  | side => exact sideItem_eight s n
  | slot => exact eightBytes_bind (fun x => slotField_eight s x _) _
  | feed => exact eightBytes_bind (fun c => feedField_eight s c _) _
  | geometry => exact geometryItem_eight s n
  | travel => exact travelItem_eight s n
  | clock => exact clockItem_eight s n
  | job => exact jobItem_eight s n
  | area => exact areaItem_eight s n
  | port => exact eightBytes_bind (fun p => portField_eight s p _) _
  | settings => exact settingsItem_eight s n

theorem itemField_eight (g : ItemGroup) (n : Nat) : eightBytes (itemField s g n) := by
  unfold itemField
  split
  · exact (eightBytes_some _).mpr (numField_length _)
  · exact readOnlyField_eight s g n

end

/-! ### The fields of a run of items -/

/-- The fields that items `first` to `first + n - 1` read as, in index order. -/
def fieldRun (s : State) (g : ItemGroup) (first n : Nat) : List (Option (List Byte)) :=
  (List.range n).map fun k => itemField s g (first + k)

theorem fieldRun_succ (s : State) (g : ItemGroup) (first n : Nat) :
    fieldRun s g first (n + 1) = itemField s g first :: fieldRun s g (first + 1) n := by
  simp only [fieldRun, List.range_succ_eq_map, List.map_cons, List.map_map, Nat.add_zero]
  refine congrArg _ (List.map_congr_left fun k _ => ?_)
  simp only [Function.comp, Nat.succ_eq_add_one, Nat.add_assoc, Nat.add_comm 1 k]

/-- R170: the fields are carried one behind the other, where each index is an item's. -/
theorem itemFields_eq (s : State) (g : ItemGroup) (first n : Nat) :
    itemFields s g first n
      = if none ∈ fieldRun s g first n then none else some ((fieldRun s g first n).filterMap id).flatten := by
  induction n generalizing first with
  | zero => rfl
  | succ n ih =>
    rw [fieldRun_succ, itemFields, ih]
    cases itemField s g first with
    | none => simp
    | some bs => by_cases missing : none ∈ fieldRun s g (first + 1) n <;> simp [missing]

/-- Fields of eight bytes, of which none is missing, have eight bytes each. -/
theorem length_carried {fields : List (Option (List Byte))} (eight : ∀ f ∈ fields, eightBytes f) (all : none ∉ fields) :
    (fields.filterMap id).flatten.length = 8 * fields.length := by
  induction fields with
  | nil => rfl
  | cons f fields ih =>
    obtain ⟨here, rest⟩ := List.forall_mem_cons.mp eight
    obtain ⟨named, others⟩ := List.ne_and_not_mem_of_not_mem_cons all
    obtain ⟨bs, rfl⟩ := Option.ne_none_iff_exists'.mp named.symm
    have len := (eightBytes_some bs).mp here
    have carried : ((some bs :: fields).filterMap id).flatten = bs ++ (fields.filterMap id).flatten := rfl
    rw [carried, List.length_append, ih rest others, len, List.length_cons]
    omega

/-! ### READ_ITEM (R170) -/

section
variable {group : Byte} {g : ItemGroup} (named : allGroups[group.toNat]? = some g) (first : Half) {count : Byte} (s : State)

theorem serveReadItem_unknownGroup (h : 13 < group.toNat) : serveReadItem group first count s = refuse .unknown s := by
  unfold serveReadItem
  rw [groupOfByte_unknown h]

include named

theorem serveReadItem_range (h : count.toNat = 0 ∨ 16 < count.toNat) : serveReadItem group first count s = refuse .range s := by
  have bad : count = 0 ∨ 16 < count.toNat := h.imp_left fun zero => BitVec.eq_of_toNat_eq zero
  unfold serveReadItem groupOfByte
  rw [named]
  exact if_pos bad

theorem serveReadItem_fields (low : 1 ≤ count.toNat) (high : count.toNat ≤ 16) :
    serveReadItem group first count s
      = if none ∈ fieldRun s g first.toNat count.toNat then refuse .unknown s
        else done ((fieldRun s g first.toNat count.toNat).filterMap id).flatten s := by
  have good : ¬ (count = 0 ∨ 16 < count.toNat) := by
    rintro (rfl | above)
    · exact absurd low (by decide)
    · omega
  unfold serveReadItem groupOfByte
  rw [named]
  simp only [if_neg good, itemFields_eq]
  by_cases missing : none ∈ fieldRun s g first.toNat count.toNat <;> simp only [missing, if_true, if_false]

end

theorem exec_readItem (p : Port) (tag group count : Byte) (first : Half) (s : State) :
    exec (.readItem p tag group first count) s = .next (takeRequest p .readItem tag (serveReadItem group first count) s) := rfl

end Sys2Proof.Machine

open Sys2Proof Sys2Proof.Machine

/-- Settles O18: the three outcomes of `serveReadItem` on the state with the port opened, and the length by `itemField_eight`. -/
theorem readItemChangesNothing : Obligations.ReadItemChangesNothing := by
  unfold Obligations.ReadItemChangesNothing
  intro p tag group count first s hp
  let opened := withOpened p (kindByte .readItem) tag s
  refine ⟨fun unknown => congrArg Host.Outcome.next (takeRequest_refuses hp (serveReadItem_unknownGroup first opened unknown)),
    fun g named => ⟨fun bad => congrArg Host.Outcome.next (takeRequest_refuses hp (serveReadItem_range named first opened bad)),
      fun low high fields run => ?_⟩⟩
  have served := serveReadItem_fields named first opened low high
  change fields = fieldRun opened g first.toNat count.toNat at run
  rw [← run] at served
  refine ⟨fun missing => ?_, fun all => ⟨?_, ?_⟩⟩
  · rw [if_pos missing] at served
    exact congrArg Host.Outcome.next (takeRequest_refuses hp served)
  · rw [if_neg all] at served
    exact congrArg Host.Outcome.next (takeRequest_answered (t := opened) hp served rfl)
  · have eight : ∀ f ∈ fields, eightBytes f := by
      rw [run]
      exact List.forall_mem_map.mpr fun k _ => itemField_eight opened g _
    rw [length_carried eight all, run, fieldRun, List.length_map, List.length_range]
end

section
/-! PROOFS. TAKE and the takeover by OC (R166, R167). O19. -/

namespace Sys2Proof.Machine

open Sys2Proof

/-! ### TAKE case by case (R166) -/

section
variable {p : Port} {function override : Byte} {f : Function} {s : State}

theorem serveTake_unknown (h : 8 < function.toNat) : serveTake p function override s = refuse .unknown s := by
  unfold serveTake
  rw [functionOfByte_unknown h]

variable (named : functionOfByte function = some f)
include named

theorem serveTake_notPermitted (h : permitted p f = false) : serveTake p function override s = refuse .notPermitted s := by
  unfold serveTake
  rw [named]
  exact if_pos h

variable (allowed : permitted p f = true)
include allowed

theorem serveTake_free (h : holderOf s.authority f = none) :
    serveTake p function override s
      = done (u8 (functionCode f) ++ u8 (portCode p)) { s with authority := setHolderIn s.authority f (some p) } := by
  have holder : takePayload f (setHolder f (some p) s) = u8 (functionCode f) ++ u8 (portCode p) := by
    rw [takePayload, setHolder_authority, holderOf_setHolderIn, if_pos rfl]
    rfl
  unfold serveTake
  rw [named]
  simp only [allowed, h, holder, Bool.true_eq_false, if_false]
  rfl

variable {q : Port} (held : holderOf s.authority f = some q)
include held

theorem serveTake_again (h : q = p) : serveTake p function override s = done (u8 (functionCode f) ++ u8 (portCode p)) s := by
  subst h
  unfold serveTake
  rw [named]
  simp only [allowed, held, Bool.true_eq_false, if_false, if_true, takePayload, holderByte]

theorem serveTake_held (other : q ≠ p) (h : ¬ (p = .oc ∧ override ≠ 0 ∧ f ≠ .records)) :
    serveTake p function override s = refuse .held s := by
  unfold serveTake
  rw [named]
  simp only [allowed, held, Bool.true_eq_false, if_false, if_neg other, if_neg h]

theorem serveTake_over (other : q ≠ p) (h : p = .oc ∧ override ≠ 0 ∧ f ≠ .records) :
    serveTake p function override s = done (takePayload f (takeOver f q s)) (takeOver f q s) := by
  unfold serveTake
  rw [named]
  simp only [allowed, held, Bool.true_eq_false, if_false, if_neg other, if_pos h]

end

/-! ### The takeover (R167) -/

theorem takeOver_eq (f : Function) (q : Port) (s : State) :
    takeOver f q s
      = { endJogsUnder f (setHolder f (some .oc) s) with events := eventsAfter s [(.port .oc, .authority f .override q)] } := by
  rw [takeOver, appendEvent_eq]
  refine congrArg (fun e => { endJogsUnder f (setHolder f (some .oc) s) with events := e }) ?_
  rw [(endJogsUnder_eq f (setHolder f (some .oc) s)).1]
  exact eventsAfter_congr _ rfl rfl rfl rfl rfl

/-- The jogs under a function and its takeover see nothing of the ports. -/
theorem endJogsUnder_ports (f : Function) (ports : PerPort PortState) (s : State) :
    endJogsUnder f { s with ports := ports } = { endJogsUnder f s with ports := ports } := by
  cases f with
  | mode | heat | records => rfl
  | grade d => simp only [endJogsUnder, endGradeJog_eq]
  | width d => simp only [endJogsUnder, endWidthJog_eq]
  | feed d => cases d <;> simp only [endJogsUnder, endFeedJog_eq]

theorem takeOver_ports (f : Function) (q : Port) (ports : PerPort PortState) (s : State) :
    takeOver f q { s with ports := ports } = { takeOver f q s with ports := ports } := by
  have jogs : endJogsUnder f (setHolder f (some .oc) { s with ports := ports })
      = { endJogsUnder f (setHolder f (some .oc) s) with ports := ports } := endJogsUnder_ports f ports (setHolder f (some .oc) s)
  rw [takeOver_eq, takeOver_eq, jogs]
  rfl

/-- R167: what a takeover changes. -/
theorem takeOver_frame (f : Function) (q : Port) (s : State) :
    takeOver f q s
      = { s with
          authority := setHolderIn s.authority f (some .oc), geometry := (takeOver f q s).geometry, sides := (takeOver f q s).sides
          feed := (takeOver f q s).feed, events := eventsAfter s [(.port .oc, .authority f .override q)] } := by
  rw [takeOver_eq]
  exact congrArg (fun u : State => { u with events := eventsAfter s [(.port .oc, .authority f .override q)] })
    (endJogsUnder_eq f (setHolder f (some .oc) s)).1

/-- R167: a taken function's holder is OC. -/
theorem takePayload_takeOver (f : Function) (q : Port) (s : State) :
    takePayload f (takeOver f q s) = u8 (functionCode f) ++ u8 (portCode .oc) := by
  have holder : holderOf (takeOver f q s).authority f = some .oc := by
    rw [takeOver_frame]
    exact (holderOf_setHolderIn ..).trans (if_pos rfl)
  rw [takePayload, holder]
  rfl

/-- R34: a width jog runs exactly while it has time left. -/
theorem jogDir_iff_jogLeft {s : State} (sound : geometrySound s = true) (d : Side) :
    (s.geometry.get d).jogDir ≠ .none ↔ 0 < (s.geometry.get d).jogLeft := by
  obtain ⟨-, -, -, runs, -⟩ := (geometrySound_iff s).mp sound d
  rw [ne_eq, runs, Nat.pos_iff_ne_zero]

end Sys2Proof.Machine

open Sys2Proof Sys2Proof.Machine

/-- Settles O19: the cases of `serveTake` in their order, and a takeover's jogs by `endJogsUnder_eq`. -/
theorem takeByFirstCase : Obligations.TakeByFirstCase := by
  unfold Obligations.TakeByFirstCase
  refine ⟨fun p tag function override s idle => ?_, fun f q s sound => ?_⟩
  · have flight : (s.ports.get p).inFlight = none := by
      simp only [portIdle, Bool.and_eq_true, Option.isNone_iff_eq_none] at idle
      exact idle.1
    have opens (awake : s.mode ≠ .starting) : portOpen s p = true := by simp [portOpen, awake, idle]
    refine ⟨fun starting => congrArg Host.Outcome.next (takeFrame_notReady flight starting (by decide)),
      fun awake unknown => congrArg Host.Outcome.next (takeRequest_refuses (opens awake) (serveTake_unknown unknown)),
      fun f awake code => ?_⟩
    have openPort := opens awake
    have named := functionOfByte_code code
    refine ⟨fun forbidden => congrArg Host.Outcome.next (takeRequest_refuses openPort (serveTake_notPermitted named forbidden)),
      fun allowed held => congrArg Host.Outcome.next (takeRequest_served flight awake (serveTake_again named allowed held rfl)),
      fun allowed free => congrArg Host.Outcome.next (takeRequest_served flight awake (serveTake_free named allowed free)),
      fun q allowed held other => ⟨fun takes => congrArg Host.Outcome.next ?_, fun kept => congrArg Host.Outcome.next
        (takeRequest_refuses openPort (serveTake_held named allowed held other kept))⟩⟩
    have payload := takePayload_takeOver f q (withOpened p (kindByte .take) tag s)
    have served := serveTake_over (s := withOpened p (kindByte .take) tag s) named allowed held other takes
    rw [payload, ← takes.1] at served
    refine takeRequest_served flight awake (served.trans ?_)
    have moved : takeOver f q (withOpened p (kindByte .take) tag s) = withOpened p (kindByte .take) tag (takeOver f q s) := by
      refine (takeOver_ports f q _ s).trans ?_
      rw [withOpened, takeOver_frame f q s]
      rfl
    rw [moved]
    rfl
  · obtain ⟨-, geometry, sides, feed⟩ := endJogsUnder_eq f (setHolder f (some .oc) s)
    refine ⟨_, rfl, takeOver_frame f q s, fun d => ?_, fun d => ?_, fun c => ?_⟩ <;> rw [takeOver_eq]
    · refine ((geometry d).trans (jogEnded_eq _ _)).trans ?_
      simp only [setHolder_geometry, jogDir_iff_jogLeft sound]
    · exact (sides d).trans (gradeJogDone_eq _ _)
    · exact (feed c).trans (jogDone_eq _ _)
end

section
/-! PROOFS. The checks of a write in their order (R171) and what fails them. O57. -/

namespace Sys2Proof.Machine

open Sys2Proof

/-! ### The checks in their order (R171) -/

section
variable {p : Port} {x : Setting} {s : State}

theorem readOnlySetting_eq_false (x : Setting) : readOnlySetting x = false ↔ x ≠ .input .estop .mode := decide_eq_false_iff_not

/-- R178: the ESTOP mode is written by nobody. -/
theorem serveWrite_estopMode (p : Port) (v : Word) (s : State) : serveWrite p (.input .estop .mode) v s = refuse .state s := rfl

/-- An item that a function owns may be written. -/
theorem readOnlySetting_owned {f : Function} (h : setpointOwner x = some f) : readOnlySetting x = false := by
  rw [readOnlySetting_eq_false]
  rintro rfl
  cases h

theorem serveWrite_withoutMode (hr : readOnlySetting x = false) (hx : setpointOwner x = none) (h : holds s p .mode = false) (v : Word) :
    serveWrite p x v s = refuse .notHolder s := by
  simp [serveWrite, hr, hx, serveConfiguration, h]

/-- A configuration parameter is refused outside PARKED; so is the ESTOP mode, which is read-only. -/
theorem serveWrite_running (hx : setpointOwner x = none) (h : holds s p .mode = true) (hm : s.mode ≠ .parked) (v : Word) :
    serveWrite p x v s = refuse .state s := by
  cases hr : readOnlySetting x <;> simp [serveWrite, hr, hx, serveConfiguration, h, hm]

theorem serveWrite_furtherCheck {v : Word} {status : Status} (hr : readOnlySetting x = false) (hx : setpointOwner x = none)
    (h : holds s p .mode = true) (hm : s.mode = .parked) (hv : inRange x v.toInt = true) (hc : furtherCheck s x v.toInt = some status) :
    serveWrite p x v s = refuse status s := by
  simp [serveWrite, hr, hx, serveConfiguration, h, hm, hv, hc]

end

/-! ### What fails the further checks -/

section
variable {s : State} {v : Int}

theorem configUnless_not {fits : Bool} (h : ¬ fits = true) : configUnless fits = some .config := by
  rw [Bool.not_eq_true] at h
  subst h
  rfl

/-- R61: a limit below a zone's rating. -/
theorem furtherCheck_generatorLimit {z : Zone} (h : v < ((s.settings.zones.get z).rating : Int)) :
    furtherCheck s .generatorLimit v = some .config := by
  refine configUnless_not fun fits => ?_
  have fits := of_decide_eq_true (List.all_eq_true.mp fits z (mem_allZones z))
  omega

/-- R62: a rating above the limit. -/
theorem furtherCheck_rating {z : Zone} (h : (s.settings.generatorLimit : Int) < v) : furtherCheck s (.rating z) v = some .config :=
  configUnless_not fun fits => absurd (of_decide_eq_true fits) (by omega)

theorem mem_allSlots (x : Slot) : x ∈ allSlots := by
  cases x with
  | grade d k => cases d <;> cases k <;> decide
  | slope => decide

/-- R79: two slots with one address. -/
theorem addressesDistinct_doubled {f : Settings} {a b : Slot} (other : a ≠ b) (same : slotAddress f a = slotAddress f b)
    (used : slotAddress f a ≠ 0) : ¬ addressesDistinct f = true := by
  intro distinct
  have distinct := of_decide_eq_true distinct
  rw [List.filter_map] at distinct
  have listed {x : Slot} (h : slotAddress f x ≠ 0) :
      x ∈ allSlots.filter ((fun n => decide (n ≠ 0)) ∘ slotAddress f) := List.mem_filter.mpr ⟨mem_allSlots x, decide_eq_true h⟩
  exact other (List.inj_on_of_nodup_map distinct (listed used) (listed (same ▸ used)) same)

/-- R85: a GRADE side without enough used slots. -/
theorem sideServed_grade {f : Settings} {d : Side} (kind : (f.sides.get d).kind = .grade)
    (few : (usedPlaces f d).length < (f.sides.get d).minValid) : ¬ sideServed f d = true := by
  simp only [sideServed, kind, decide_eq_true_eq]
  omega

/-- R85: a SLOPE side without the slope slot. -/
theorem sideServed_slope {f : Settings} {d : Side} (kind : (f.sides.get d).kind = .slope) (unused : slopeUsed f = false) :
    ¬ sideServed f d = true := by
  simp [sideServed, kind, unused]

theorem slotTableFits_iff (f : Settings) : slotTableFits f = true ↔ addressesDistinct f = true ∧ ∀ d, sideServed f d = true := by
  simp only [slotTableFits, Bool.and_eq_true]
  refine ⟨fun ⟨⟨distinct, left⟩, right⟩ => ⟨distinct, fun d => by cases d; exacts [left, right]⟩, fun ⟨distinct, served⟩ =>
    ⟨⟨distinct, served .left⟩, served .right⟩⟩

/-- R79 step 2: a slot of a REFERENCING side. -/
theorem furtherCheck_slot_held {slot : Slot} {param : SlotParam} (h : slotHeld s slot = true) :
    furtherCheck s (.slotParam slot param) v = some .state := if_pos h

/-- R79 step 3. -/
theorem furtherCheck_slot_config {slot : Slot} {param : SlotParam} (free : slotHeld s slot = false)
    (h : ¬ slotTableFits (storeSetting s.settings (.slotParam slot param) v) = true) :
    furtherCheck s (.slotParam slot param) v = some .config :=
  (if_neg (by simp [free])).trans (configUnless_not h)

/-- R85: the kind of a REFERENCING side. -/
theorem furtherCheck_refKind_held {d : Side} (h : (s.sides.get d).state = .referencing) :
    furtherCheck s (.refKind d) v = some .state := if_pos (decide_eq_true h)

theorem furtherCheck_refKind_config {d : Side} (free : (s.sides.get d).state ≠ .referencing)
    (h : ¬ (kindsFit (storeSetting s.settings (.refKind d) v) = true ∧ sideServed (storeSetting s.settings (.refKind d) v) d = true)) :
    furtherCheck s (.refKind d) v = some .config := by
  refine (if_neg fun held => free (of_decide_eq_true held)).trans (configUnless_not ?_)
  rwa [Bool.and_eq_true]

/-- The kind of the side across the screed. -/
def otherKind (f : Settings) (d : Side) : RefKind :=
  match d with
  | .left => f.sides.right.kind
  | .right => f.sides.left.kind

/-- R85: both sides SLOPE. -/
theorem kindsFit_bothSlope {f : Settings} {d : Side} (h : otherKind f d = .slope) :
    ¬ kindsFit (storeSetting f (.refKind d) 1) = true := by
  cases d
  all_goals
    simp only [otherKind] at h
    simp [kindsFit, storeSetting, storeSide, refKindOf, PerSide.set, h]

/-- R85: what a new kind of a side makes of its checks. -/
theorem refKind_refused {f : Settings} {d : Side}
    (h : (v = 1 ∧ otherKind f d = .slope) ∨ (v = 1 ∧ slopeUsed f = false)
      ∨ (v = 0 ∧ (usedPlaces f d).length < (f.sides.get d).minValid)) :
    ¬ (kindsFit (storeSetting f (.refKind d) v) = true ∧ sideServed (storeSetting f (.refKind d) v) d = true) := by
  have stored (v : Int) : (storeSetting f (.refKind d) v).sides.get d = { f.sides.get d with kind := refKindOf v } :=
    PerSide.get_set_same ..
  rintro ⟨kinds, served⟩
  rcases h with ⟨rfl, slope⟩ | ⟨rfl, unused⟩ | ⟨rfl, few⟩
  · exact kindsFit_bothSlope slope kinds
  · have unused : slopeUsed (storeSetting f (.refKind d) 1) = false := unused
    exact sideServed_slope (by rw [stored]; rfl) unused served
  · exact sideServed_grade (by rw [stored]; rfl) (by rw [stored]; exact few) served

/-- R86: more valid slots asked for than a GRADE side uses. -/
theorem furtherCheck_minValid {d : Side} (kind : (s.settings.sides.get d).kind = .grade)
    (few : ((usedPlaces s.settings d).length : Int) < v) : furtherCheck s (.minValid d) v = some .config := by
  have stored : (storeSetting s.settings (.minValid d) v).sides.get d = { s.settings.sides.get d with minValid := v.toNat } :=
    PerSide.get_set_same ..
  have grade : ((storeSetting s.settings (.minValid d) v).sides.get d).kind = .grade := by rw [stored]; exact kind
  refine configUnless_not fun fits => ?_
  rcases (Bool.or_eq_true _ _).mp fits with slope | served
  · rw [decide_eq_true_eq, grade] at slope
    cases slope
  · refine sideServed_grade grade ?_ served
    rw [stored]
    change (usedPlaces s.settings d).length < v.toNat
    omega

/-- R176: raw_hi at or below raw_lo. -/
theorem furtherCheck_rawLo {a : AnalogChannel} (h : (s.settings.scaling.get a).rawHi ≤ v) :
    furtherCheck s (.scaling a .rawLo) v = some .config := by
  refine configUnless_not fun fits => ?_
  simp only [storeSetting, PerAnalog.get_set_same, storeScalingParam, decide_eq_true_eq] at fits
  omega

theorem furtherCheck_rawHi {a : AnalogChannel} (h : v ≤ (s.settings.scaling.get a).rawLo) :
    furtherCheck s (.scaling a .rawHi) v = some .config := by
  refine configUnless_not fun fits => ?_
  simp only [storeSetting, PerAnalog.get_set_same, storeScalingParam, decide_eq_true_eq] at fits
  omega

/-- R21: the pulse input takes an edge mode. -/
theorem furtherCheck_pulseMode (low : 0 ≤ v) (h : v < 2) : furtherCheck s (.input .travelPulse .mode) v = some .config := by
  obtain rfl | rfl : v = 0 ∨ v = 1 := by omega
  all_goals rfl

/-- R178: the direction and feedback inputs take a level mode. -/
theorem furtherCheck_levelMode {i : DigitalInput} (pulse : i ≠ .travelPulse) (estop : i ≠ .estop) (h : 1 < v) (high : v ≤ 4) :
    furtherCheck s (.input i .mode) v = some .config := by
  obtain rfl | rfl | rfl : v = 2 ∨ v = 3 ∨ v = 4 := by omega
  all_goals
    cases i with
    | travelPulse => exact absurd rfl pulse
    | estop => exact absurd rfl estop
    | travelDir | feedback _ => rfl

end

/-! ### A write on an opened port -/

theorem holds_withOpened (p : Port) (kind tag : Byte) (s : State) (q : Port) (f : Function) :
    holds (withOpened p kind tag s) q f = holds s q f := rfl

/-- The further checks read nothing of the ports. -/
theorem furtherCheck_withOpened (p : Port) (kind tag : Byte) (s : State) (x : Setting) (v : Int) :
    furtherCheck (withOpened p kind tag s) x v = furtherCheck s x v := by
  cases x <;> rfl

theorem driven_withOpened (p : Port) (kind tag : Byte) (s : State) (o : Output) : driven (withOpened p kind tag s) o = driven s o := by
  cases o <;> rfl

theorem outputField_withOpened (p : Port) (kind tag : Byte) (s : State) (o : Output) (n : Nat) :
    outputField (withOpened p kind tag s) o n = outputField s o n := by
  have commands : commanded (withOpened p kind tag s) o = commanded s o := by cases o <;> rfl
  unfold outputField
  rw [commands, driven_withOpened]

theorem settingsItem_withOpened (p : Port) (kind tag : Byte) (s : State) (n : Nat) :
    settingsItem (withOpened p kind tag s) n = settingsItem s n := by
  have analog : analogField (withOpened p kind tag s) = analogField s := rfl
  have input : inputField (withOpened p kind tag s) = inputField s := rfl
  have store : (withOpened p kind tag s).store = s.store := rfl
  simp only [settingsItem, analog, input, outputField_withOpened, store]

/-- Whether an index is a read-only item's is no matter of the ports (R171). -/
theorem readOnlyField_withOpened (p : Port) (kind tag : Byte) (s : State) (g : ItemGroup) (n : Nat) :
    (readOnlyField (withOpened p kind tag s) g n).isSome = (readOnlyField s g n).isSome := by
  have ported (u : State) (q : Port) (k : Nat) : (portField u q k).isSome = decide (k < 7) := by
    match k with
    | 0 | 1 | 2 | 3 | 4 | 5 | 6 => rfl
    | k + 7 => simp [portField]
  cases g with
  | port =>
    simp only [readOnlyField, portItem]
    cases portAt (unitOf n) with
    | none => rfl
    | some q => exact (ported _ q _).trans (ported s q _).symm
  | settings => exact congrArg Option.isSome (settingsItem_withOpened p kind tag s n)
  | _ => rfl

end Sys2Proof.Machine

open Sys2Proof Sys2Proof.Machine

/-- Settles O57: each check of `serveWrite` in its order, and what fails `furtherCheck`. -/
theorem writesAreRefusedInOrder : Obligations.WritesAreRefusedInOrder := by
  unfold Obligations.WritesAreRefusedInOrder
  intro i p tag x value s writes hp refused v ready
  refine ⟨?_, ?_, ?_, ?_, ?_, ?_, fun group index unknown =>
    congrArg Host.Outcome.next (takeRequest_refuses hp (serveSetItem_unknown unknown p index value _)), fun g index readOnly => ?_⟩
  case refine_7 =>
    have served := serveSetItem_readOnly readOnly p value (withOpened p (kindByte .setItem) tag s)
    rw [readOnlyField_withOpened] at served
    exact congrArg Host.Outcome.next (takeRequest_refuses hp served)
  all_goals
    have refuses {status : Status} (h : serveWrite p x value (withOpened p (kindByte .setItem) tag s)
        = refuse status (withOpened p (kindByte .setItem) tag s)) : refused status :=
      (exec_writesItem writes s).trans (congrArg Host.Outcome.next (takeRequest_refuses hp h))
    have holders := holds_withOpened p (kindByte .setItem) tag s p
    have checks := furtherCheck_withOpened p (kindByte .setItem) tag s x v
    have mode : (withOpened p (kindByte .setItem) tag s).mode = s.mode := rfl
    generalize withOpened p (kindByte .setItem) tag s = u at refuses holders checks mode
  · rintro rfl
    exact refuses (serveWrite_estopMode p value u)
  · intro owner owned without
    exact refuses (serveWrite_notHolder (readOnlySetting_owned owned) owned ((holders owner).trans without) value)
  · intro owner named without
    exact refuses (serveWrite_withoutMode ((readOnlySetting_eq_false x).mpr named) owner ((holders .mode).trans without) value)
  · intro owner held running
    exact refuses (serveWrite_running owner ((holders .mode).trans held) (mode ▸ running) value)
  · intro owner named held parked range
    exact refuses (serveWrite_range ((readOnlySetting_eq_false x).mpr named) owner ((holders .mode).trans held) (mode.trans parked) range)
  · rintro ⟨held, parked, range⟩
    have bounds := bounds_of_inRange range
    have fails {status : Status} (named : x ≠ .input .estop .mode) (owner : setpointOwner x = none)
        (h : furtherCheck s x v = some status) : refused status :=
      refuses (serveWrite_furtherCheck ((readOnlySetting_eq_false x).mpr named) owner ((holders .mode).trans held) (mode.trans parked)
        range (checks.trans h))
    refine ⟨?_, ?_, ?_, ?_, ?_, ?_, ?_, ?_, ?_⟩
    · rintro rfl ⟨z, below⟩
      exact fails nofun rfl (furtherCheck_generatorLimit below)
    · rintro z rfl above
      exact fails nofun rfl (furtherCheck_rating above)
    · rintro slot param rfl f held
      have same : slotHeld s slot = held := by cases slot <;> rfl
      refine ⟨fun h => fails nofun rfl (furtherCheck_slot_held (same.trans h)),
        fun h bad => fails nofun rfl (furtherCheck_slot_config (same.trans h) fun fits => ?_)⟩
      obtain ⟨distinct, served⟩ := (slotTableFits_iff _).mp fits
      rcases bad with ⟨a, b, other, twice, used⟩ | ⟨d, kind, few⟩ | ⟨d, kind, unused⟩
      · exact addressesDistinct_doubled other twice used distinct
      · exact sideServed_grade kind few (served d)
      · exact sideServed_slope kind unused (served d)
    · rintro d rfl other
      have same : other = otherKind s.settings d := by cases d <;> rfl
      exact ⟨fun h => fails nofun rfl (furtherCheck_refKind_held h),
        fun h bad => fails nofun rfl (furtherCheck_refKind_config h (refKind_refused (same ▸ bad)))⟩
    · rintro d rfl kind few
      exact fails nofun rfl (furtherCheck_minValid kind few)
    · rintro a rfl below
      exact fails nofun rfl (furtherCheck_rawLo below)
    · rintro a rfl above
      exact fails nofun rfl (furtherCheck_rawHi above)
    · rintro rfl low
      exact fails nofun rfl (furtherCheck_pulseMode bounds.1 low)
    · rintro k pulse estop rfl high
      exact fails (fun same => estop (by cases same; rfl)) rfl (furtherCheck_levelMode pulse estop high bounds.2)
end

section
/-! PROOFS. What an accepted write stores and what follows it (R171 and the owning rules). O56. -/

namespace Sys2Proof.Machine

open Sys2Proof

/-! ### One entry of a table -/

theorem PerAnalog.get_set {α : Type} (v : PerAnalog α) (a y : AnalogChannel) (x : α) :
    (v.set a x).get y = if y = a then x else v.get y := by
  split
  · next h => rw [h, PerAnalog.get_set_same]
  · next h => exact PerAnalog.get_set_other v a y x h

theorem PerInput.get_set {α : Type} (v : PerInput α) (i y : DigitalInput) (x : α) :
    (v.set i x).get y = if y = i then x else v.get y := by
  split
  · next h => rw [h, PerInput.get_set_same]
  · next h => exact PerInput.get_set_other v i y x h

theorem PerOutput.get_set {α : Type} (v : PerOutput α) (o y : Output) (x : α) :
    (v.set o x).get y = if y = o then x else v.get y := by
  split
  · next h => rw [h, PerOutput.get_set_same]
  · next h => exact PerOutput.get_set_other v o y x h

theorem gainParamOf_store (g : GainSettings) (p q : GainParam) (v : Int) :
    gainParamOf (storeGainParam g p v) q = if q = p then v else gainParamOf g q := by
  cases p <;> cases q <;> rfl

theorem scalingParamOf_store (c : Scaling) (p q : ScalingParam) (v : Int) :
    scalingParamOf (storeScalingParam c p v) q = if q = p then v else scalingParamOf c q := by
  cases p <;> cases q <;> rfl

/-! ### A stored value read again (R184) -/

theorem refKindCode_refKindOf {v : Int} (low : 0 ≤ v) (high : v ≤ 1) : (refKindCode (refKindOf v) : Int) = v := by
  obtain rfl | rfl : v = 0 ∨ v = 1 := by omega
  all_goals rfl

theorem polarityCode_polarityOf {v : Int} (low : 0 ≤ v) (high : v ≤ 1) : (polarityCode (polarityOf v) : Int) = v := by
  obtain rfl | rfl : v = 0 ∨ v = 1 := by omega
  all_goals rfl

theorem detectCode_detectOf {v : Int} (low : 0 ≤ v) (high : v ≤ 4) : (detectCode (detectOf v) : Int) = v := by
  obtain rfl | rfl | rfl | rfl | rfl : v = 0 ∨ v = 1 ∨ v = 2 ∨ v = 3 ∨ v = 4 := by omega
  all_goals rfl

/-- An item reads the value stored in it, where the value is in the item's range. -/
theorem settingValue_storeSetting_same {f : Settings} {x : Setting} {v : Int} (low : (boundsOf x).1 ≤ v) (high : v ≤ (boundsOf x).2) :
    settingValue (storeSetting f x v) x = v := by
  have count (n : Int) (h : 0 ≤ n) : (n.toNat : Int) = n := Int.toNat_of_nonneg h
  cases x with
  | coldLimit | diffLimit | generatorLimit | rotationSlice | matCapacity | standbyCode =>
    exact count v (Int.le_trans (by decide) low)
  | zoneSetpoint z k => exact (settingValue_setpoint f z k v).1
  | exclude z =>
    obtain rfl | rfl : v = 0 ∨ v = 1 := by
      change 0 ≤ v at low
      change v ≤ 1 at high
      omega
    all_goals simp [settingValue, storeSetting, storeZone]
  | rating z =>
    simp only [settingValue, storeSetting, storeZone, PerZone.get_set_same]
    exact count v (Int.le_trans (b := 1) (by decide) low)
  | refKind d =>
    simp only [settingValue, storeSetting, storeSide, PerSide.get_set_same]
    exact refKindCode_refKindOf low high
  | minValid d =>
    simp only [settingValue, storeSetting, storeSide, PerSide.get_set_same]
    exact count v (Int.le_trans (b := 1) (by decide) low)
  | sideSetpoint d k => cases k <;> simp [settingValue, storeSetting, storeSide]
  | gain g p => cases g <;> simp [settingValue, storeSetting, gainOf, gainParamOf_store]
  | slotParam k p =>
    cases k <;> cases p <;> simp only [settingValue, storeSetting, storeGradeSlot, PerSide.get_set_same, PerPlace.get_set_same] <;>
      exact count v low
  | levelSetpoint c | feedGain c | manualDuty c => simp [settingValue, storeSetting, storeFeed]
  | screed part => cases part <;> simp [settingValue, storeSetting]
  | scaling a p => simp [settingValue, storeSetting, scalingParamOf_store]
  | input i p =>
    cases p <;> simp only [settingValue, storeSetting, storeInput, PerInput.get_set_same]
    · exact detectCode_detectOf low high
    · exact count v low
  | polarity o =>
    simp only [settingValue, storeSetting, PerOutput.get_set_same]
    exact polarityCode_polarityOf low high
  | _ => rfl

/-- A stored value is read by its item alone: any other item is read from another field of the settings, from another entry of the same
table, or from another parameter of the same entry. -/
theorem settingValue_storeSetting_other {f : Settings} {x y : Setting} {v : Int} (h : y ≠ x) :
    settingValue (storeSetting f x v) y = settingValue f y := by
  rcases x with _ | _ | _ | _ | _ | _ | ⟨z, _ | _⟩ | z | z | _ | _ | _ | _ | _ | d | d | ⟨d, _ | _⟩ | _ | _ | _ | ⟨_ | _, p⟩
    | ⟨⟨d, k⟩ | _, _ | _⟩ | c | c | c | ⟨_ | d⟩ | _ | _ | _ | ⟨a, p⟩ | ⟨i, _ | _⟩ | o
  all_goals
    rcases y with _ | _ | _ | _ | _ | _ | ⟨z', _ | _⟩ | z' | z' | _ | _ | _ | _ | _ | d' | d' | ⟨d', _ | _⟩ | _ | _ | _ | ⟨_ | _, p'⟩
      | ⟨⟨d', k'⟩ | _, _ | _⟩ | c' | c' | c' | ⟨_ | d'⟩ | _ | _ | _ | ⟨a', p'⟩ | ⟨i', _ | _⟩ | o'
    all_goals try rfl
  -- what is left shares a table or an entry
  all_goals
    simp only [settingValue, storeSetting, storeZone, storeSide, storeFeed, storeInput, storeGradeSlot, gainOf]
    grind [PerZone.get_set, PerSide.get_set, PerFeed.get_set, PerPlace.get_set, PerAnalog.get_set, PerInput.get_set, PerOutput.get_set,
      gainParamOf_store, scalingParamOf_store]

/-! ### What follows an accepted configuration value -/

/-- What is shown of a configuration item `x` written with `v`, from `s` to `t`. -/
structure ConfigurationWritten (x : Setting) (v : Int) (s t : State) : Prop where
  value : settingValue t.settings x = v
  others : ∀ y, y ≠ x → settingValue t.settings y = settingValue s.settings y
  frame : t = { s with
    settings := t.settings, readiness := t.readiness, failing := t.failing, gradeSlots := t.gradeSlots
    profiler := { s.profiler with nextMark := t.profiler.nextMark } }
  judged : (x = .readinessBand ∨ x = .extThreshold ∨ ∃ part, x = .screed part) →
    t.readiness = (failingZones t).isEmpty ∧ t.failing = (failingZones t).length
  cleared : ∀ d k,
    ((∃ k' param, x = .slotParam (.grade d k') param) → settingValue s.settings x ≠ v →
      (t.gradeSlots.get d).get k = { (s.gradeSlots.get d).get k with refValid := false })
    ∧ ((∀ k' param, x ≠ .slotParam (.grade d k') param) ∨ settingValue s.settings x = v →
      (t.gradeSlots.get d).get k = (s.gradeSlots.get d).get k)
  mark : x ≠ .recordInterval → t.profiler.nextMark = s.profiler.nextMark
  next : x = .recordInterval → t.profiler.nextMark = nextMarkOf s.job.start s.travel.highWater v

section
variable {x : Setting} {v : Int} {s : State} (low : (boundsOf x).1 ≤ v) (high : v ≤ (boundsOf x).2)

/-- A value held already is written over itself. -/
theorem configurationWritten_held (h : settingValue s.settings x = v) (slot : ∃ k p, x = .slotParam k p) :
    ConfigurationWritten x v s s where
  value := h
  others _ _ := rfl
  frame := rfl
  judged bad := by
    obtain ⟨k, p, rfl⟩ := slot
    rcases bad with bad | bad | ⟨_, bad⟩ <;> cases bad
  cleared _ _ := ⟨fun _ changed => absurd h changed, fun _ => rfl⟩
  mark _ := rfl
  next bad := by
    obtain ⟨k, p, rfl⟩ := slot
    cases bad

include low high

/-- A value stored, and nothing more than readiness with it. -/
theorem configurationWritten_stored {readiness : Bool} {failing : Nat} (grade : ∀ d k p, x ≠ .slotParam (.grade d k) p)
    (interval : x ≠ .recordInterval)
    (judged : (x = .readinessBand ∨ x = .extThreshold ∨ ∃ part, x = .screed part) →
      readiness = (failingZones (storeOnly x v s)).isEmpty ∧ failing = (failingZones (storeOnly x v s)).length) :
    ConfigurationWritten x v s { storeOnly x v s with readiness := readiness, failing := failing } where
  value := settingValue_storeSetting_same low high
  others _ h := settingValue_storeSetting_other h
  frame := rfl
  judged := judged
  cleared d _ := ⟨fun ⟨k', param, slot⟩ => absurd slot (grade d k' param), fun _ => rfl⟩
  mark _ := rfl
  next h := absurd h interval

/-- R8, R31, R44: a value stored and readiness evaluated. -/
theorem configurationWritten_judged (grade : ∀ d k p, x ≠ .slotParam (.grade d k) p) (interval : x ≠ .recordInterval) :
    ConfigurationWritten x v s (evaluateReadiness (storeOnly x v s)) :=
  configurationWritten_stored low high grade interval fun _ => ⟨rfl, rfl⟩

end

/-- R79: what clearing the references of a side does to each slot. -/
theorem clearReferences_slot (d y : Side) (k : GradePlace) (s : State) :
    ((clearReferences d s).gradeSlots.get y).get k
      = if y = d then { (s.gradeSlots.get y).get k with refValid := false } else (s.gradeSlots.get y).get k := by
  cases d <;> cases y <;> cases k <;> rfl

/-- R79: a grade slot's value stored, and the references of its side cleared. -/
theorem configurationWritten_gradeSlot {d : Side} {k : GradePlace} {param : SlotParam} {v : Int} {s : State}
    (low : (boundsOf (.slotParam (.grade d k) param)).1 ≤ v) (high : v ≤ (boundsOf (.slotParam (.grade d k) param)).2)
    (changed : settingValue s.settings (.slotParam (.grade d k) param) ≠ v) :
    ConfigurationWritten (.slotParam (.grade d k) param) v s
      (clearReferences d (storeOnly (.slotParam (.grade d k) param) v s)) where
  value := settingValue_storeSetting_same low high
  others _ h := settingValue_storeSetting_other h
  frame := rfl
  judged := by rintro (bad | bad | ⟨_, bad⟩) <;> cases bad
  cleared y k' := by
    rw [clearReferences_slot]
    refine ⟨?_, fun h => if_neg ?_⟩
    · rintro ⟨_, _, ⟨⟩⟩ -
      exact if_pos rfl
    · rintro rfl
      exact h.elim (fun h => h _ _ rfl) fun held => changed held
  mark _ := rfl
  next bad := by cases bad

/-- R132, R144: the record interval stored, and the next mark computed with it. -/
theorem configurationWritten_interval {v : Int} (s : State) :
    ConfigurationWritten .recordInterval v s (writeRecordInterval v s) where
  value := rfl
  others _ h := settingValue_storeSetting_other h
  frame := rfl
  judged := by rintro (bad | bad | ⟨_, bad⟩) <;> cases bad
  cleared _ _ := ⟨fun ⟨_, _, bad⟩ => absurd bad nofun, fun _ => rfl⟩
  mark h := absurd rfl h
  next _ := rfl

/-- R55: in PARKED no zone heats, and a feedback input's change moves none. -/
theorem feedbackChange_parked {s : State} (parked : s.mode = .parked) (sound : budgetSound s = true) (z : Zone) :
    feedbackChange z s = s := by
  have off : (s.zones.get z).state = .off := by
    simp only [budgetSound, parked, heatingMode, Bool.false_or, Bool.and_eq_true, List.all_eq_true, decide_eq_true_eq] at sound
    exact sound.2 z (mem_allZones z)
  exact if_neg fun h => by simp [off] at h

/-- R171: what an accepted configuration value does, in PARKED. -/
theorem applySetting_configuration {x : Setting} {v : Int} {s : State} (owner : setpointOwner x = none) (capacity : x ≠ .matCapacity)
    (scale : x ≠ .pulsesPerMetre) (parked : s.mode = .parked) (sound : budgetSound s = true) (low : (boundsOf x).1 ≤ v)
    (high : v ≤ (boundsOf x).2) : ConfigurationWritten x v s (applySetting x v s) := by
  have judge (y : Setting) : settleReadiness (storeOnly y v s) = evaluateReadiness (storeOnly y v s) := settleReadiness_parked parked
  cases x with
  | readinessBand | extThreshold | screed _ =>
    simp only [applySetting, storeAndJudge, judge]
    exact configurationWritten_judged low high nofun nofun
  | slotParam k p =>
    simp only [applySetting, writeSlotParam]
    split
    · next held => exact configurationWritten_held held ⟨k, p, rfl⟩
    · next changed =>
      cases k with
      | grade d k => exact configurationWritten_gradeSlot low high changed
      | slope => exact configurationWritten_stored low high nofun nofun (by rintro (bad | bad | ⟨_, bad⟩) <;> cases bad)
  | recordInterval => exact configurationWritten_interval s
  | matCapacity => exact absurd rfl capacity
  | pulsesPerMetre => exact absurd rfl scale
  | zoneSetpoint | exclude | sideSetpoint | levelSetpoint | standbyCode => cases owner
  | input i p =>
    have stored : ConfigurationWritten (.input i p) v s (storeOnly (.input i p) v s) :=
      configurationWritten_stored low high nofun nofun (by rintro (bad | bad | ⟨_, bad⟩) <;> cases bad)
    cases p with
    | debounce => exact stored
    | mode =>
      cases i with
      | travelPulse | travelDir | estop => exact stored
      | feedback z =>
        have still : feedbackChange z (storeOnly (.input (.feedback z) .mode) v s) = storeOnly (.input (.feedback z) .mode) v s :=
          feedbackChange_parked parked (s := storeOnly (.input (.feedback z) .mode) v s) sound z
        simp only [applySetting, writeInputMode, consumeFeedback, still, judge]
        exact configurationWritten_judged low high nofun nofun
  | _ => exact configurationWritten_stored low high nofun nofun (by rintro (bad | bad | ⟨_, bad⟩) <;> cases bad)

/-- A configuration item written in one state is so written seen from any other that differs in the ports alone. -/
theorem ConfigurationWritten.of_ports {x : Setting} {v : Int} {s t : State} {ports : PerPort PortState}
    (h : ConfigurationWritten x v { s with ports := ports } t) : ConfigurationWritten x v s { t with ports := s.ports } where
  value := h.value
  others := h.others
  frame := congrArg (fun u : State => { u with ports := s.ports }) h.frame
  judged := h.judged
  cleared := h.cleared
  mark := h.mark
  next := h.next

end Sys2Proof.Machine

open Sys2Proof Sys2Proof.Machine

/-- Settles O56: a setpoint of a side is only stored; a configuration value by `applySetting_configuration`. -/
theorem writesAreStored : Obligations.WritesAreStored := by
  unfold Obligations.WritesAreStored
  intro i p tag x value s writes hp
  refine ⟨?_, fun owner named capacity scale held parked sound range checked => ?_⟩
  · rintro d which rfl held v
    have ordered : (boundsOf (.sideSetpoint d which)).1 ≤ (boundsOf (.sideSetpoint d which)).2 := by
      cases which
      · exact show (-300 : Int) ≤ 300 by decide
      · exact show (-1000 : Int) ≤ 1000 by decide
    have bounds : (boundsOf (.sideSetpoint d which)).1 ≤ v ∧ v ≤ (boundsOf (.sideSetpoint d which)).2 := ⟨le_clamp, clamp_le ordered⟩
    have served := serveWrite_setpoint (p := p) (x := .sideSetpoint d which) (s := withOpened p (kindByte .setItem) tag s)
      rfl rfl held value
    have payload : settingField (storeOnly (.sideSetpoint d which) v (withOpened p (kindByte .setItem) tag s)) (.sideSetpoint d which)
        = numField v := congrArg numField (settingValue_storeSetting_same bounds.1 bounds.2)
    refine (exec_writesItem writes s).trans (congrArg Host.Outcome.next ((takeRequest_answered hp served rfl).trans ?_))
    exact congrArg (fun b => withReply p (kindByte .setItem) tag
      { status := if v = value.toInt then .ok else .okClamped, payload := b }
      { s with settings := storeSetting s.settings (.sideSetpoint d which) v }) payload
  · obtain ⟨low, high⟩ := bounds_of_inRange range
    have served := serveWrite_configuration (p := p) (s := withOpened p (kindByte .setItem) tag s)
      ((readOnlySetting_eq_false x).mpr named) owner held parked range ((furtherCheck_withOpened ..).trans checked)
    have done : ConfigurationWritten x value.toInt (withOpened p (kindByte .setItem) tag s)
        (applySetting x value.toInt (withOpened p (kindByte .setItem) tag s)) :=
      applySetting_configuration owner capacity scale parked sound low high
    generalize applySetting x value.toInt (withOpened p (kindByte .setItem) tag s) = t at served done
    have ports : t.ports = (withOpened p (kindByte .setItem) tag s).ports := by rw [done.frame]
    have payload : settingField t x = numField value.toInt := congrArg numField done.value
    rw [written, payload] at served
    obtain ⟨value, others, frame, judged, cleared, mark, next⟩ := done.of_ports
    exact ⟨_, (exec_writesItem writes s).trans (congrArg Host.Outcome.next (takeRequest_answered hp served ports)), value, others, frame,
      judged, cleared, mark, next⟩
end

section
/-! PROOFS. STORE_SETTINGS and the end of the store write (R181, R182): O58. -/

namespace Sys2Proof.Machine

open Sys2Proof

/-! ### The checks of STORE_SETTINGS and its snapshot (R181) -/

section
variable {p : Port} {s : State}

theorem serveStoreSettings_notHolder (h : holds s p .mode = false) : serveStoreSettings p s = refuse .notHolder s := if_pos h

theorem serveStoreSettings_elsewhere (h : holds s p .mode = true) (parked : s.mode ≠ .parked) (ready : s.mode ≠ .ready) :
    serveStoreSettings p s = refuse .state s := by
  rw [serveStoreSettings, if_neg (by simp [h]), if_pos ⟨parked, ready⟩]

/-- R181: the snapshot is taken at once, and the request has no answer yet. -/
theorem serveStoreSettings_taken (h : holds s p .mode = true) (mode : s.mode = .parked ∨ s.mode = .ready) :
    serveStoreSettings p s = ({ s with store := { s.store with state := .writing (snapshotOf s) } }, none) := by
  rw [serveStoreSettings, if_neg (by simp [h]), if_neg fun ⟨parked, ready⟩ => mode.elim parked ready]

end

/-- R73, R180: the snapshot holds each zone's health record without its granted seconds. -/
theorem snapshotOf_health (s : State) (z : Zone) : (snapshotOf s).health.get z = (s.health.get z).stored := by cases z <;> rfl

/-! ### The end of the store write (R182) -/

section
variable {image : SettingsImage} {f : InFlight} {s : State}

theorem endStoreWrite_idle (h : s.store.state = .idle) (equal good : Bool) : endStoreWrite equal good s = s := by
  rw [endStoreWrite, h]

/-- R182: the image reads back equal, and the reply carries its check value. -/
theorem endStoreWrite_equal (writing : s.store.state = .writing image) (hf : s.ports.oc.inFlight = some f) (good : Bool) :
    endStoreWrite true good s
      = { s with
          store := { s.store with state := .idle, lastOutcome := .ok, defaulted := false, array := .good image }
          ports := { s.ports with oc := transmit (replyOf f.kind f.tag (okAnswer (u16 (imageCheck image).toNat))) s.ports.oc } } := by
  have done : endStoreWrite true good s = storeDone image s := by
    rw [endStoreWrite, writing]
    exact if_pos rfl
  exact done.trans (answerPort_of_inFlight (p := .oc) hf)

/-- R182: the image does not read back equal, and a STORE_FAILED record follows the reply. -/
theorem endStoreWrite_unequal (writing : s.store.state = .writing image) (hf : s.ports.oc.inFlight = some f) (good : Bool) :
    endStoreWrite false good s
      = { s with
          store := { s.store with state := .idle, lastOutcome := .failed, array := if good then .good image else .bad }
          events := eventsAfter s [(.settingsStore, .settings .storeFailed)]
          ports := { s.ports with oc := transmit (replyOf f.kind f.tag (bareAnswer .state)) s.ports.oc } } := by
  have failed : endStoreWrite false good s = storeFailed image good s := by
    rw [endStoreWrite, writing]
    exact if_neg Bool.false_ne_true
  rw [failed, storeFailed, answerPort_of_inFlight (p := .oc) (f := f) (by exact hf), appendEvent_eq]
  rfl

end

end Sys2Proof.Machine

open Sys2Proof Sys2Proof.Machine

/-- Settles O58: the checks of `serveStoreSettings` in their order, then `snapshotOf` with the request in flight; the write's end is
`endStoreWrite` by the store's state and by whether the image reads back equal. -/
theorem storeWritesItsSnapshot : Obligations.StoreWritesItsSnapshot := by
  unfold Obligations.StoreWritesItsSnapshot
  refine fun s => ⟨fun p tag hp => ⟨fun free => ?_, fun held parked ready => ?_, fun held mode => ?_⟩, fun equal good =>
    ⟨fun idle => congrArg Host.Outcome.next (endStoreWrite_idle idle equal good), fun image f writing hf => ⟨?_, ?_⟩⟩⟩
  · exact congrArg Host.Outcome.next (takeRequest_refuses hp
      (serveStoreSettings_notHolder (s := withOpened p (kindByte .storeSettings) tag s) free))
  · exact congrArg Host.Outcome.next (takeRequest_refuses hp
      (serveStoreSettings_elsewhere (s := withOpened p (kindByte .storeSettings) tag s) held parked ready))
  · obtain ⟨started, idle, -⟩ := (portOpen_iff s p).mp hp
    exact ⟨snapshotOf s, congrArg Host.Outcome.next (takeRequest_delayed idle started
      (serveStoreSettings_taken (s := withOpened p (kindByte .storeSettings) tag s) held mode)), rfl, rfl, snapshotOf_health s⟩
  · rintro rfl
    exact congrArg Host.Outcome.next (endStoreWrite_equal writing hf good)
  · rintro rfl
    exact congrArg Host.Outcome.next (endStoreWrite_unequal writing hf good)
end

section
/-! PROOFS. The conversion of an analog channel: the judgement of the raw value and what each consumer makes of it (R32, R35, R43, R45, R75,
R175): O59. -/

namespace Sys2Proof.Machine

open Sys2Proof

/-! ### The judgement (R175) -/

theorem judgeRaw_eq (a : AnalogChannel) (c : Scaling) (raw : Nat) (r : Analog) :
    judgeRaw a c raw r
      = if (raw : Int) < c.rawLo - c.tolerance ∨ c.rawHi + c.tolerance < (raw : Int) then { r with raw := raw, fault := true }
        else { raw := raw, value := clamp (engLow a) (engHigh a) (valueOfRaw c raw), fault := false } := by
  simp only [judgeRaw, beyondTolerance, Bool.or_eq_true, decide_eq_true_eq]

/-- R175: a channel's consumer leaves what the channels hold. -/
theorem consumeConversion_analog (a : AnalogChannel) (s : State) : (consumeConversion a s).analog = s.analog := by
  have settled {t : State} (h : t.analog = s.analog) : (settleReadiness t).analog = s.analog := by
    have e := congrArg State.analog (hideReaction_settleReadiness t)
    exact e.trans h
  cases a with
  | temp z => exact settled (congrArg State.analog (hideHeat_zoneConversion z s) :)
  | ext d => exact settled (congrArg State.analog (hideGeometry_extConversion d s) :)
  | level c => exact (congrArg State.analog (hideFeeds_feedConversion c s) :)

/-! ### Temperatures (R75) -/

/-- R73, R75: outside STARTING a valid temperature counts for the zone's maximum. -/
theorem trackMaximum_eq (z : Zone) (s : State) :
    trackMaximum z s
      = { s with
          health := s.health.set z
            { s.health.get z with
              maxTemp :=
                if s.mode ≠ .starting ∧ zoneChannelFault s z = false then max (s.health.get z).maxTemp (zoneTemp s z)
                else (s.health.get z).maxTemp } } := by
  have same : s = { s with health := s.health.set z { s.health.get z with maxTemp := (s.health.get z).maxTemp } } := by
    rw [PerZone.set_get]
  unfold trackMaximum
  by_cases counts : s.mode ≠ .starting ∧ zoneChannelFault s z = false
  · obtain ⟨started, valid⟩ := counts
    by_cases low : zoneTemp s z ≤ (s.health.get z).maxTemp
    · rw [if_pos (.inr (.inr low)), if_pos ⟨started, valid⟩, max_eq_left low]
      exact same
    · rw [if_neg (by simp [started, valid, low]), if_pos ⟨started, valid⟩, max_eq_right (by omega)]
      rfl
  · have ignored : s.mode = .starting ∨ zoneChannelFault s z = true := by
      rcases not_and_or.mp counts with starting | fault
      · exact .inl (not_not.mp starting)
      · exact .inr ((Bool.not_eq_false _).mp fault)
    rw [if_neg counts, if_pos (or_assoc.mp (.inl ignored))]
    exact same

/-! ### Extension positions (R32, R35, R36, R43) -/

theorem jogEnded_stale (k : WidthEnd) (r : Extension) : (jogEnded k r).stale = r.stale := by
  unfold jogEnded
  split <;> rfl

theorem jogEnded_position (k : WidthEnd) (r : Extension) : (jogEnded k r).position = r.position := by
  unfold jogEnded
  split <;> rfl

theorem atSoftLimit_iff (dir : WidthDir) (position : Int) :
    atSoftLimit dir position = true ↔ (dir = .inward ∧ position ≤ 20) ∨ (dir = .outward ∧ 2480 ≤ position) := by
  cases dir <;> simp [atSoftLimit]

section
variable {d : Side} {a : Analog} {r : Extension} {s : State}

/-- R32, R35: a valid position is taken, and ends the jog that reaches its soft limit. -/
theorem converted_valid (h : a.fault = false) :
    converted a r
      = if (r.jogDir = .inward ∧ clamp 0 2500 a.value ≤ 20) ∨ (r.jogDir = .outward ∧ 2480 ≤ clamp 0 2500 a.value) then
          { r with
            position := clamp 0 2500 a.value, stale := false, jogDir := .none, jogLeft := 0, jogMs := 0, lastEnd := .limit }
        else { r with position := clamp 0 2500 a.value, stale := false } := by
  simp only [converted, h, Bool.false_eq_true, if_false, atSoftLimit_iff]
  split
  · next limit =>
    refine if_neg ?_
    rcases limit with ⟨inward, -⟩ | ⟨outward, -⟩
    · simp [inward]
    · simp [outward]
  · rfl

/-- R43: a valid position has its side's zone select its set again. -/
theorem extConversion_valid (h : (s.analog.ext.get d).fault = false) :
    extConversion d s
      = reselect (extensionZone d)
          { s with geometry := s.geometry.set d (converted (s.analog.ext.get d) (s.geometry.get d)) } := by
  simp only [extConversion, converted, h, Bool.false_eq_true, if_false, endWidthJog_eq]
  split <;> simp [setExtension]

/-- R32, R135: from `s` to `t` a side takes a conversion in FAULT: a jog is ended, and a side not yet stale becomes so, with its record and
its interval flag. -/
structure ExtensionLost (d : Side) (s t : State) : Prop where
  eq : t = { s with
    geometry := s.geometry.set d { jogEnded .fault (s.geometry.get d) with stale := true }
    events := eventsAfter s (if (s.geometry.get d).stale then []
      else [(.geometryUnit, .geometryStale d (s.geometry.get d).position s.travel.station)])
    profiler := { s.profiler with flags := t.profiler.flags } }
  same : (s.geometry.get d).stale = true → t.profiler.flags = s.profiler.flags
  raised : (s.geometry.get d).stale = false → t.profiler.flags.geometryStale = true

theorem geometryStale_of_side (h : (s.geometry.get d).stale = true) : geometryStale s = true := by
  unfold geometryStale
  cases d
  · exact Bool.or_eq_true_iff.mpr (.inl h)
  · exact Bool.or_eq_true_iff.mpr (.inr h)

theorem raiseFlags_geometryStale (h : (s.geometry.get d).stale = true) : (raiseFlags s).profiler.flags.geometryStale = true := by
  change (s.profiler.flags.geometryStale || geometryStale s) = true
  rw [geometryStale_of_side h, Bool.or_true]

theorem becomeStale_stale (h : (s.geometry.get d).stale = true) : becomeStale d s = s := if_pos h

theorem becomeStale_fresh (h : (s.geometry.get d).stale = false) :
    becomeStale d s
      = raiseFlags (appendEvent .geometryUnit (.geometryStale d (s.geometry.get d).position s.travel.station)
          (setExtension d { s.geometry.get d with stale := true } s)) := if_neg (by simp [h])

theorem extConversion_lost (h : (s.analog.ext.get d).fault = true) : ExtensionLost d s (extConversion d s) := by
  have lost : extConversion d s = becomeStale d { s with geometry := s.geometry.set d (jogEnded .fault (s.geometry.get d)) } := by
    rw [← endWidthJog_eq]
    exact if_pos h
  rw [lost]
  cases stale : (s.geometry.get d).stale with
  | true =>
    have ended : { jogEnded .fault (s.geometry.get d) with stale := true } = jogEnded .fault (s.geometry.get d) := by
      rw [← stale, ← jogEnded_stale .fault]
    rw [becomeStale_stale (by simpa [jogEnded_stale] using stale)]
    refine ⟨?_, fun _ => rfl, fun fresh => absurd (stale.symm.trans fresh) nofun⟩
    rw [ended, if_pos stale]
    rfl
  | false =>
    rw [becomeStale_fresh (by simpa [jogEnded_stale] using stale), appendEvent_eq]
    refine ⟨?_, fun held => absurd (held.symm.trans stale) nofun, fun _ => raiseFlags_geometryStale (d := d) ?_⟩
    · simp only [setExtension, PerSide.get_set_same, PerSide.set_set, jogEnded_position, stale]
      rfl
    · simp [setExtension]

end

end Sys2Proof.Machine

open Sys2Proof Sys2Proof.Machine

/-- Settles O59: the channel holds what `judgeRaw_eq` gives, and its consumer takes that state: `trackMaximum_eq` for a temperature,
`extConversion_lost` and `extConversion_valid` for an extension. -/
theorem conversionIsJudged : Obligations.ConversionIsJudged := by
  unfold Obligations.ConversionIsJudged
  intro a raw s c old n value x s1
  have taken : exec (.analogConversion a raw) s = .next (consumeConversion a s1) :=
    congrArg (fun y => Host.Outcome.next (consumeConversion a (setAnalog a y s))) (judgeRaw_eq a c raw.toNat old)
  refine ⟨⟨_, taken, consumeConversion_analog a s1⟩, ?_, ?_⟩
  · rintro z rfl
    have channel : s1.analog.temp.get z = x := PerAnalog.get_set_same s.analog (.temp z) x
    have tracked := trackMaximum_eq z s1
    rw [zoneChannelFault, zoneTemp, channel] at tracked
    exact taken.trans (congrArg (fun t => Host.Outcome.next (settleReadiness (evaluateZone z t))) tracked)
  · rintro d rfl r ended
    have channel : s1.analog.ext.get d = x := PerAnalog.get_set_same s.analog (.ext d) x
    refine ⟨fun fault => ?_, fun valid => ?_⟩
    · obtain ⟨eq, same, raised⟩ := extConversion_lost (s := s1) ((congrArg Analog.fault channel).trans fault)
      exact ⟨_, taken, eq, same, raised⟩
    · intro moved limit s2 z set
      have position := extConversion_valid (s := s1) ((congrArg Analog.fault channel).trans valid)
      rw [channel, converted_valid valid] at position
      exact taken.trans (congrArg (fun t => Host.Outcome.next (settleReadiness t)) position)
end

section
/-! PROOFS. The step and the queue of commands (the scope's "takes", assumption 7): the command at the front is run, on an empty queue one
millisecond passes. -/

namespace Sys2Proof.Machine

open Sys2Proof

/-- The command at the front is run on the state with the queue's rest: the other branch of `step`, beside `step_empty`. -/
theorem step_of_pending_cons {s : State} {c : Instr} {rest : List Instr} (h : s.pending = c :: rest) :
    step s = exec c { s with pending := rest } := by
  unfold step
  rw [h]

end Sys2Proof.Machine

open Sys2Proof Sys2Proof.Machine

/-- Settles O1: the two branches of `step`. A queue put behind a front command is that step's rest (`step_of_pending_cons`); on an empty
queue the millisecond's due commands are the whole new queue (`step_empty`, `tick_eq`). -/
theorem stepTakesTheFrontCommand : Obligations.StepTakesTheFrontCommand := by
  unfold Obligations.StepTakesTheFrontCommand
  refine ⟨fun c s => ?front, fun s empty => ?millisecond⟩
  case front => exact step_of_pending_cons (s := { s with pending := c :: s.pending }) rfl
  case millisecond => rw [step_empty empty, tick_eq empty]
end
